-- ==== Sys2Proof/Word.lean ====
section
/-! DEFINITION. The word, its parts and the two shapes of sparse storage (R2, R3, R6).
Only the type abbreviations and the plainest pieces stand here. -/

namespace Sys2Proof

/-- The native unit of data: bits [35:0], bit 0 the least significant (R2). -/
abbrev Word := BitVec 36

/-- A stored word: four nonet groups of 14 bits, group n at bits [14n+13:14n] (R192). -/
abbrev Stored := BitVec 56

/-- A stored matching entry: five nonet groups of 14 bits (R46, R192). -/
abbrev StoredEntry := BitVec 70

/-- A BVU vector: 8 words, word i at bits [36i+35:36i] (R5). -/
abbrev Vec := BitVec 288

/-- A token (R24). -/
abbrev TokenBits := BitVec 96

/-- An HBM line (R183). -/
abbrev Line := BitVec 256

/-- Sparse data by key: the keys rise strictly and no entry equals what an unlisted key reads as. -/
abbrev Tab (α : Type) := List (Nat × α)

end Sys2Proof
end

