-- ==== Sys2Proof/Syntax.lean ====
section
/-! DEFINITION. The commands the part takes: one constructor per row of spec/opcode_table.json, and the operand types.
An instruction row names the engine that issues it; the instruction's own fields stand in the engine's code bank (R119). -/

namespace Sys2Proof

/-- Where a token unit takes its next token from: its own emit unit, or the partition of an injecting router (R64, R220). -/
inductive QueueSrc where
  | loopback
  | partition (router : BitVec 6)
  deriving DecidableEq, Repr

/-- A unit that reports its lowest unretired epoch (R74). -/
inductive Reporter where
  | engine (g : BitVec 9)
  | cluster (c : BitVec 5)
  | device
  deriving DecidableEq, Repr

/-- A waterline node: that of a cluster, or the device node in the service router (R74). -/
inductive WNode where
  | cluster (c : BitVec 5)
  | device
  deriving DecidableEq, Repr

/-- Where a register write of the host goes: an offset of BAR0, of the MSI-X table in BAR4, or of configuration space (R335, R336). -/
inductive HostOffset where
  | bar0 (offset : BitVec 16)
  | bar4 (offset : BitVec 16)
  | config (offset : BitVec 16)
  deriving DecidableEq, Repr

/-- The bytes of a USDO download: all of an object's, or its last segment, and a segment that more follow (R315). -/
inductive UsdoData where
  | last (bytes : List (BitVec 8))
  | segment (bytes : List (BitVec 8))
  deriving DecidableEq, Repr

/-- The two paths to the dictionary (R312). -/
inductive Path where
  | can
  | pcie
  deriving DecidableEq, Repr

/-- A target of transactions: a cluster network interface, an HBM controller or the management controller (Table 5.11, R352). -/
inductive Target where
  | cluster (c : BitVec 5)
  | hbm (n : BitVec 2)
  | service
  deriving DecidableEq, Repr

/-- A requester that responses return to: an engine, the host interface, or the units of the service router (R213). -/
inductive RspDst where
  | engine (g : BitVec 9)
  | host
  | service
  deriving DecidableEq, Repr

/-- An input of a router: its own unit, one of its port codes 001 to 101 (Table 11.2), or the peer link behind it (R238). -/
inductive InPort where
  | unit
  | port (code : BitVec 3)
  | link
  deriving DecidableEq, Repr

/-- An on-chip storage with a dredge pointer and a correction buffer (R196, R203): a local bank (0 to 3, 4 the sluice),
a matching store, a cluster-store bank. -/
inductive OnChip where
  | localBank (g : BitVec 9) (bank : BitVec 3)
  | matching (g : BitVec 9)
  | storeBank (c : BitVec 5) (bank : BitVec 4)
  deriving DecidableEq, Repr

/-- The supply rails of Table 18.5. -/
inductive Rail where
  | aon | pll | io | log | vppHbm | hbm | vddqHbm | sram | core | serdes | vddhSerdes
  deriving DecidableEq, Repr

/-- The identity ordered set of R247. -/
structure IdentitySet where
  device : BitVec 10
  upperKnown : Bool
  port : BitVec 3
  kind : BitVec 2
  stepping : BitVec 16
  rate : Bool
  fec : Bool
  idSource : BitVec 1
  tmstr : Bool
  tbkup : Bool
  deriving DecidableEq, Repr

/-- The straps of Table 17.8. -/
structure Straps where
  devid : BitVec 4
  tmstr : Bool
  tbkup : Bool
  bootsrc : BitVec 2
  deriving DecidableEq, Repr

/-- What start-up's checks find: the domains that fail a check at step 4 or 5, whether the always-on region fails,
and whether a rail is found out of tolerance at step 3 (R350, R366). -/
structure SelfTest where
  failed : List (BitVec 6)
  alwaysOn : Bool
  railBad : Bool
  /-- domains in which the memory BIST of step 4 finds bad storage -/
  bist : List (BitVec 6) := []
  deriving DecidableEq, Repr

/-- The commands: the 314 rows of spec/opcode_table.json. -/
inductive Instr where
  /-- TOKEN_ARRIVAL (R381): A token reaches its destination token unit, which runs the ordered checks and then takes the matching outcome of Table 3.3. -/
  | tokenArrival (g : BitVec 9) (src : QueueSrc)
  /-- DISPATCH (R62): Once its window, journal and credits are ready, the head of the ready queue is dispatched and the registers are set for the activation. -/
  | dispatch (g : BitVec 9)
  /-- ENGINE_RETIRE (R68): Once all its conditions hold, an engine retires its lowest unretired epoch and reports to its cluster waterline node. -/
  | engineRetire (g : BitVec 9)
  /-- RETIRE_REPORT_REPEAT (R27): Every 1 µs a reporting unit repeats its unchanged retire report. -/
  | retireReportRepeat (f : BitVec 5) (r : Reporter)
  /-- RETIRE_REPORT (R74): A waterline node receives a retire report, keeps the highest value from that reporter and forwards the minimum. -/
  | retireReport (n : WNode)
  /-- WATERLINE_DISTRIBUTION (R74): A 0x3FF3 distribution sets a view, which triggers frame release, sweeps, draw-up and pending pay-outs. -/
  | waterlineDistribution (n : WNode)
  /-- ACCEPTANCE_TIMEOUT (R44): When an activation's tokens are not all accepted within the timeout, the node is re-fired from the journal. -/
  | acceptanceTimeout (g : BitVec 9) (node : BitVec 14) (epoch : BitVec 48)
  /-- RECOMPUTE_REQUEST (R88): An engine receives a recompute request and queues re-fires for the candidate activations that are still unretired. -/
  | recomputeRequest (g : BitVec 9)
  /-- ACCEPT (R67): An ACCEPT settles the acceptance obligation of a node, epoch and emit sequence, and returns the emission credits. -/
  | accept (g : BitVec 9)
  /-- DEBUG_PROBE (R28): A class-110 probe reads a matching entry without changing it, and a PROBE_RPT is sent back. -/
  | debugProbe (g : BitVec 9) (src : QueueSrc)
  /-- PROBE_RPT (R28): A probe report arrives in the originator's reserved buffer. -/
  | probeRpt
  /-- PROBE_TIMEOUT (R28): When no report arrives within its timeout, the originator ends the probe, frees the buffer and takes back the credit. -/
  | probeTimeout (tag : Word)
  /-- TOKEN_CREDIT_RETURN (R220): A token credit returns to its partition when the token unit takes the token from its queue. -/
  | tokenCreditReturn (g : BitVec 9) (k : BitVec 6)
  /-- LD (R123): Load A from the operand. -/
  | ld (g : BitVec 9)
  /-- LDR (R123): Load a named register from the operand. -/
  | ldr (g : BitVec 9)
  /-- LDN (R123): Load one nonet of a word into A, zero-extended. -/
  | ldn (g : BitVec 9)
  /-- LDHF (R123): Load one half of a word into A, zero-extended. -/
  | ldhf (g : BitVec 9)
  /-- LDP (R123): Load a pair into A and H. -/
  | ldp (g : BitVec 9)
  /-- ST (R123): Store A to memory, or to a register in mode 111. -/
  | st (g : BitVec 9)
  /-- STR (R123): Store a named register, zero-extended. -/
  | str (g : BitVec 9)
  /-- STN (R123): Store A[8:0] into one nonet of a word. -/
  | stn (g : BitVec 9)
  /-- STHF (R123): Store A[17:0] into one half of a word. -/
  | sthf (g : BitVec 9)
  /-- STP (R123): Store A and H as a pair. -/
  | stp (g : BitVec 9)
  /-- XADD (R125): Atomically add A to a local data word and return the old word in A. -/
  | xadd (g : BitVec 9)
  /-- SWAP (R125): Atomically exchange A with a local data word. -/
  | swap (g : BitVec 9)
  /-- ADD (R127): A := A + m, setting C, Z, N and O. -/
  | add (g : BitVec 9)
  /-- ADC (R127): A := A + m + C. -/
  | adc (g : BitVec 9)
  /-- SUB (R127): A := A − m. -/
  | sub (g : BitVec 9)
  /-- SBB (R127): A := A − m − C. -/
  | sbb (g : BitVec 9)
  /-- CMP (R127): Compute A − m for the flags only. -/
  | cmp (g : BitVec 9)
  /-- NEG (R127): A := 0 − A. -/
  | neg (g : BitVec 9)
  /-- ADX (R126): X := X + m. -/
  | adx (g : BitVec 9)
  /-- ADY (R126): Y := Y + m. -/
  | ady (g : BitVec 9)
  /-- AND (R126): A := A and m. -/
  | andI (g : BitVec 9)
  /-- OR (R126): A := A or m. -/
  | orI (g : BitVec 9)
  /-- XOR (R126): A := A xor m. -/
  | xorI (g : BitVec 9)
  /-- ANDN (R126): A := A and not m. -/
  | andn (g : BitVec 9)
  /-- TST (R126): Compute A and m for Z and N only. -/
  | tst (g : BitVec 9)
  /-- NOT (R126): A := not A. -/
  | notI (g : BitVec 9)
  /-- SHL (R127): Shift A left. -/
  | shl (g : BitVec 9)
  /-- SHR (R127): Shift A right logically. -/
  | shr (g : BitVec 9)
  /-- SAR (R127): Shift A right arithmetically. -/
  | sar (g : BitVec 9)
  /-- ROL (R127): Rotate A left. -/
  | rol (g : BitVec 9)
  /-- SHLP (R127): Shift the pair A:H left. -/
  | shlp (g : BitVec 9)
  /-- SHRP (R127): Shift the pair A:H right logically. -/
  | shrp (g : BitVec 9)
  /-- MUL (R128): Signed 72-bit multiply into A:H. -/
  | mul (g : BitVec 9)
  /-- MULU (R128): Unsigned 72-bit multiply into A:H. -/
  | mulu (g : BitVec 9)
  /-- DIV (R129): Signed divide of A by m. -/
  | div (g : BitVec 9)
  /-- DIVU (R129): Unsigned divide of A by m. -/
  | divu (g : BitVec 9)
  /-- DIVL (R129): Signed divide of A:H by m. -/
  | divl (g : BitVec 9)
  /-- DIVLU (R129): Unsigned divide of A:H by m. -/
  | divlu (g : BitVec 9)
  /-- JMP (R131): Jump unconditionally. -/
  | jmp (g : BitVec 9)
  /-- JZ (R131): Jump if Z = 1. -/
  | jz (g : BitVec 9)
  /-- JNZ (R131): Jump if Z = 0. -/
  | jnz (g : BitVec 9)
  /-- JC (R131): Jump if C = 1. -/
  | jc (g : BitVec 9)
  /-- JNC (R131): Jump if C = 0. -/
  | jnc (g : BitVec 9)
  /-- JN (R131): Jump if N = 1. -/
  | jn (g : BitVec 9)
  /-- JNN (R131): Jump if N = 0. -/
  | jnn (g : BitVec 9)
  /-- JO (R131): Jump if O = 1. -/
  | jo (g : BitVec 9)
  /-- JNO (R131): Jump if O = 0. -/
  | jno (g : BitVec 9)
  /-- JLT (R131): Jump if N ≠ O. -/
  | jlt (g : BitVec 9)
  /-- JGE (R131): Jump if N = O. -/
  | jge (g : BitVec 9)
  /-- JLE (R131): Jump if Z = 1 or N ≠ O. -/
  | jle (g : BitVec 9)
  /-- JGT (R131): Jump if Z = 0 and N = O. -/
  | jgt (g : BitVec 9)
  /-- JULE (R131): Jump if C = 1 or Z = 1. -/
  | jule (g : BitVec 9)
  /-- JUGT (R131): Jump if C = 0 and Z = 0. -/
  | jugt (g : BitVec 9)
  /-- JD (R131): Jump if D = 1. -/
  | jd (g : BitVec 9)
  /-- CALL (R131): Write the return address into L and jump. -/
  | call (g : BitVec 9)
  /-- RET (R131): Jump to the address in L. -/
  | ret (g : BitVec 9)
  /-- LPS (R108): Open the next hardware loop level. -/
  | lps (g : BitVec 9)
  /-- BRKL (R110): Close the innermost loop level and leave its body. -/
  | brkl (g : BitVec 9)
  /-- MOVS (R133): Copy a string of words from X to Y. -/
  | movs (g : BitVec 9)
  /-- FILLS (R133): Fill a string of words at Y with A. -/
  | fills (g : BitVec 9)
  /-- CMPS (R133): Compare two strings until the first difference. -/
  | cmps (g : BitVec 9)
  /-- SCANS (R133): Scan a string for a word equal or unequal to A. -/
  | scans (g : BitVec 9)
  /-- EMIT (R64): Send A as a value token on the named fan-out entry. -/
  | emit (g : BitVec 9)
  /-- EMITL (R64): Send A on each entry of a fan-out run up to its last entry. -/
  | emitl (g : BitVec 9)
  /-- EMITM (R64): Send A for the next epoch on a moored entry only when it differs from the reference word, and otherwise mark an own-engine entry. -/
  | emitm (g : BitVec 9)
  /-- ENDA (R112): End the activation once far transactions complete: check the FP and far-error traps, mark the node handled and free the entry. -/
  | enda (g : BitVec 9)
  /-- FLD (R138): Far load of 1 to 16 words into a mailbox segment. -/
  | fld (g : BitVec 9)
  /-- FST (R139): Far store of 1 to 16 local words. -/
  | fst (g : BitVec 9)
  /-- FXADD (R138): Far atomic add at a data or cluster-store bank. -/
  | fxadd (g : BitVec 9)
  /-- FSWAP (R138): Far atomic swap at a data or cluster-store bank. -/
  | fswap (g : BitVec 9)
  /-- WAITF (R118): Wait for one segment to complete, and trap on an unreported error code. -/
  | waitf (g : BitVec 9)
  /-- FENCE (R118): Wait for every segment, and trap on the first unreported error code. -/
  | fence (g : BitVec 9)
  /-- NOP (R140): Do nothing for one cycle. -/
  | nop (g : BitVec 9)
  /-- MFS (R99): Copy a special register into A. -/
  | mfs (g : BitVec 9)
  /-- MTS (R99): Copy A into a special register. -/
  | mts (g : BitVec 9)
  /-- TRAP (R113): Take a software trap with cause 32 + n. -/
  | trap (g : BitVec 9)
  /-- RETT (R113): Return from a trap handler, restoring F, PC and any load shadow. -/
  | rett (g : BitVec 9)
  /-- VLD (R148): Load a vector into V. -/
  | vld (g : BitVec 9)
  /-- VST (R148): Store V to memory. -/
  | vst (g : BitVec 9)
  /-- VSPL (R148): Splat A into every word of V. -/
  | vspl (g : BitVec 9)
  /-- VBUF (R146): Four-state buffer of P into V. -/
  | vbuf (g : BitVec 9)
  /-- VINV (R146): Four-state inverter of P into V. -/
  | vinv (g : BitVec 9)
  /-- VTBUF (R146): Tri-state buffer with its enable from P and its data from V. -/
  | vtbuf (g : BitVec 9)
  /-- VRES (R145): Resolve V with P. -/
  | vres (g : BitVec 9)
  /-- VAND (R145): Four-state AND of V with P. -/
  | vand (g : BitVec 9)
  /-- VOR (R145): Four-state OR of V with P. -/
  | vor (g : BitVec 9)
  /-- VXOR (R145): Four-state XOR of V with P. -/
  | vxor (g : BitVec 9)
  /-- VNAND (R145): Four-state NAND of V with P. -/
  | vnand (g : BitVec 9)
  /-- VNOR (R145): Four-state NOR of V with P. -/
  | vnor (g : BitVec 9)
  /-- VXNOR (R145): Four-state XNOR of V with P. -/
  | vxnor (g : BitVec 9)
  /-- VANDQ (R145): Four-state AND of P with Q into V. -/
  | vandq (g : BitVec 9)
  /-- VORQ (R145): Four-state OR of P with Q into V. -/
  | vorq (g : BitVec 9)
  /-- VXORQ (R145): Four-state XOR of P with Q into V. -/
  | vxorq (g : BitVec 9)
  /-- VNANDQ (R145): Four-state NAND of P with Q into V. -/
  | vnandq (g : BitVec 9)
  /-- VNORQ (R145): Four-state NOR of P with Q into V. -/
  | vnorq (g : BitVec 9)
  /-- VXNORQ (R145): Four-state XNOR of P with Q into V. -/
  | vxnorq (g : BitVec 9)
  /-- VMUX (R147): Four-state multiplexer selected by V between P and Q. -/
  | vmux (g : BitVec 9)
  /-- VLUT (R149): Three-input truth table over 288 two-state bits. -/
  | vlut (g : BitVec 9)
  /-- VGATH (R151): Gather region elements into V through an index table. -/
  | vgath (g : BitVec 9)
  /-- VSCAT (R151): Scatter the elements of V into a region through an index table. -/
  | vscat (g : BitVec 9)
  /-- VPERM (R151): Permute the elements of V through an index table. -/
  | vperm (g : BitVec 9)
  /-- VCMP (R153): Write the per-word change mask of V against P into A. -/
  | vcmp (g : BitVec 9)
  /-- VCNT (R154): Add to A the selected population count of V against P. -/
  | vcnt (g : BitVec 9)
  /-- FADD_S (R160): binary32 add. -/
  | faddS (g : BitVec 9)
  /-- FADD_D (R160): binary64 add. -/
  | faddD (g : BitVec 9)
  /-- FSUB_S (R160): binary32 subtract. -/
  | fsubS (g : BitVec 9)
  /-- FSUB_D (R160): binary64 subtract. -/
  | fsubD (g : BitVec 9)
  /-- FMUL_S (R160): binary32 multiply. -/
  | fmulS (g : BitVec 9)
  /-- FMUL_D (R160): binary64 multiply. -/
  | fmulD (g : BitVec 9)
  /-- FDIV_S (R160): binary32 divide on the shared divider. -/
  | fdivS (g : BitVec 9)
  /-- FDIV_D (R160): binary64 divide on the shared divider. -/
  | fdivD (g : BitVec 9)
  /-- FSQRT_S (R160): binary32 square root of A. -/
  | fsqrtS (g : BitVec 9)
  /-- FSQRT_D (R160): binary64 square root of A:H. -/
  | fsqrtD (g : BitVec 9)
  /-- FMIN_S (R169): binary32 minimumNumber. -/
  | fminS (g : BitVec 9)
  /-- FMIN_D (R169): binary64 minimumNumber. -/
  | fminD (g : BitVec 9)
  /-- FMAX_S (R169): binary32 maximumNumber. -/
  | fmaxS (g : BitVec 9)
  /-- FMAX_D (R169): binary64 maximumNumber. -/
  | fmaxD (g : BitVec 9)
  /-- FCMP_S (R168): binary32 quiet comparison into F. -/
  | fcmpS (g : BitVec 9)
  /-- FCMP_D (R168): binary64 quiet comparison into F. -/
  | fcmpD (g : BitVec 9)
  /-- FCMPE_S (R168): binary32 signalling comparison into F. -/
  | fcmpeS (g : BitVec 9)
  /-- FCMPE_D (R168): binary64 signalling comparison into F. -/
  | fcmpeD (g : BitVec 9)
  /-- FMA_S (R160): binary32 fused p×q+a. -/
  | fmaS (g : BitVec 9)
  /-- FMA_D (R160): binary64 fused p×q+a. -/
  | fmaD (g : BitVec 9)
  /-- FMS_S (R160): binary32 fused p×q−a. -/
  | fmsS (g : BitVec 9)
  /-- FMS_D (R160): binary64 fused p×q−a. -/
  | fmsD (g : BitVec 9)
  /-- FNMA_S (R160): binary32 fused −(p×q)+a. -/
  | fnmaS (g : BitVec 9)
  /-- FNMA_D (R160): binary64 fused −(p×q)+a. -/
  | fnmaD (g : BitVec 9)
  /-- FNMS_S (R160): binary32 fused −(p×q)−a. -/
  | fnmsS (g : BitVec 9)
  /-- FNMS_D (R160): binary64 fused −(p×q)−a. -/
  | fnmsD (g : BitVec 9)
  /-- FCVT_S_D (R167): Convert binary64 A:H to binary32 A. -/
  | fcvtSD (g : BitVec 9)
  /-- FCVT_D_S (R167): Convert binary32 A to binary64 A:H. -/
  | fcvtDS (g : BitVec 9)
  /-- FCVTI_S (R170): Convert binary32 to a signed 36-bit integer. -/
  | fcvtiS (g : BitVec 9)
  /-- FCVTI_D (R170): Convert binary64 to a signed 36-bit integer. -/
  | fcvtiD (g : BitVec 9)
  /-- FCVTU_S (R170): Convert binary32 to an unsigned 36-bit integer. -/
  | fcvtuS (g : BitVec 9)
  /-- FCVTU_D (R170): Convert binary64 to an unsigned 36-bit integer. -/
  | fcvtuD (g : BitVec 9)
  /-- FITOF_S (R170): Convert a signed integer to binary32. -/
  | fitofS (g : BitVec 9)
  /-- FITOF_D (R170): Convert a signed integer to binary64. -/
  | fitofD (g : BitVec 9)
  /-- FUTOF_S (R170): Convert an unsigned integer to binary32. -/
  | futofS (g : BitVec 9)
  /-- FUTOF_D (R170): Convert an unsigned integer to binary64. -/
  | futofD (g : BitVec 9)
  /-- FSYNC (R173): Wait for FP completion, and trap while records are queued. -/
  | fsync (g : BitVec 9)
  /-- FP_COMPLETION (R161): An outstanding FP instruction completes, writing its result, the flags and any trap record. -/
  | fpCompletion (g : BitVec 9)
  /-- ROUTER_HOP (R211): A router takes a flit, forwards it on the decoded port, shifts the route and regenerates parity. -/
  | routerHop (k : BitVec 6) (port : InPort) (vc : BitVec 2) (upper : Bool)
  /-- URGENCY_INCREMENT (R218): A head that has waited a full 64 NoC cycles in an input buffer gains 1 urgency. -/
  | urgencyIncrement (k : BitVec 6) (port : InPort) (vc : BitVec 2) (upper : Bool)
  /-- LINK_CREDIT_RETURN (R216): A link credit returns on the reverse sideband when a flit leaves the next router's buffer. -/
  | linkCreditReturn (i : Nat)
  /-- NI_ARRIVAL (R225): The destination network interface checks a packet and passes it inward, or diverts it to the bog, or answers DOMAIN_OFF. -/
  | niArrival (c : BitVec 5)
  /-- READ (R214): A READ request is served at its target. -/
  | readReq (t : Target)
  /-- WRITE (R214): A WRITE request with data is served at its target. -/
  | writeReq (t : Target)
  /-- XADD_REQUEST (R214): A far XADD request is served atomically at its bank. -/
  | xaddRequest (t : Target)
  /-- SWAP_REQUEST (R214): A far SWAP request is served atomically at its bank. -/
  | swapRequest (t : Target)
  /-- SYNC (R222): A SYNC request passes behind the pool's earlier requests and is answered with the pool's occupancy. -/
  | sync (t : Target)
  /-- READ_RSP (R117): A read response completes its segment or buffer with data and status. -/
  | readRsp (d : RspDst)
  /-- WRITE_RSP (R117): A write response completes its segment with status. -/
  | writeRsp (d : RspDst)
  /-- XADD_RSP (R117): An XADD response delivers the old word and status. -/
  | xaddRsp (d : RspDst)
  /-- SWAP_RSP (R117): A SWAP response delivers the old word and status. -/
  | swapRsp (d : RspDst)
  /-- SYNC_RSP (R222): The requester sets its pool credits to 28 minus the reported occupancy. -/
  | syncRsp (d : RspDst)
  /-- INITIATOR_TIMEOUT (R223): A transaction timer expires, so the transaction completes TMO, its buffer is freed and SYNC starts. -/
  | initiatorTimeout (d : RspDst) (tag : BitVec 12)
  /-- FLIP_DRAIN_COMPLETE (R227): Every unit reports zero old-generation packets, and any held sequencer flip is performed. -/
  | flipDrainComplete
  /-- FLIP_DRAIN_TIMEOUT (R227): A drain unfinished after 100 µs sets drain status 2 and raises a level-2 drain fault. -/
  | flipDrainTimeout
  /-- BOG_WRITE (R79): The bog front end takes a token, checks its CRC-8 and writes a slot, applying the hard threshold and overflow rules. -/
  | bogWrite
  /-- BOG_DRAW_UP (R80): The bog controller draws a slot in the window, sets class 100 and sends it under a draw number. -/
  | bogDrawUp
  /-- DRAW_ACCEPT (R384): The first ACCEPT of a draw settles it, returns its credits and frees the slot. -/
  | drawAccept
  /-- BOG_RECOMPUTE_REQUEST (R384): A recompute request to unit code 0 makes the controller send the draw again. -/
  | bogRecomputeRequest
  /-- DRAW_TIMEOUT (R80): A draw unaccepted within the trace and bog timeout is sent again under the same number. -/
  | drawTimeout (tag : BitVec 8) (n : BitVec 6)
  /-- BOG_REDRAW_TIMER (R80): A slot rewritten after a closed window is drawn again 1 µs after it was written. -/
  | bogRedrawTimer (slot : Nat)
  /-- DESCRIPTOR_SCAN (R31): The token unit's LOADED scan of descriptors and journal layout completes, passing or failing with a descriptor fault. -/
  | descriptorScan (g : BitVec 9)
  /-- FLIGHT_COMMAND (R382): A device receives a flight command on its parent port, applies or refuses it, and forwards it to its children. -/
  | flightCommand (p : BitVec 3) (f : BitVec 5) (root : BitVec 10) (cmd : BitVec 8) (arg : BitVec 64)
  /-- FLIGHT_COMPLETION (R382): A completion or refusal report arrives from a child port. -/
  | flightCompletion (p : BitVec 3) (f : BitVec 5) (refused : Bool)
  /-- FLIGHT_COMMAND_TIMEOUT (R382): The root lacks completion within the timeout, raises the flight-command fault, and undoes a load. -/
  | flightCommandTimeout (f : BitVec 5)
  /-- HALT_REPLY (R90): A device's reply of its highest fired epoch reaches the root, which fixes h. -/
  | haltReply (p : BitVec 3) (f : BitVec 5) (highest : BitVec 48)
  /-- HALT_EPOCH (R90): A device receives the agreed halt epoch h and sets its engines' ceilings to it. -/
  | haltEpoch (p : BitVec 3) (f : BitVec 5) (h : BitVec 48)
  /-- RESTART_HOLDOFF_END (R75): 100 µs after a restart, retire reports above r are no longer discarded. -/
  | restartHoldoffEnd (f : BitVec 5)
  /-- TETHER_SAMPLE (R76): Every 1 µs the tether controller samples the flight, applies one tether decision and its clock actions. -/
  | tetherSample (f : BitVec 5)
  /-- BECALMED (R84): When the view has held still for L, the flight is becalmed: the tether reels in to 1, a draw-up is forced and urgency is boosted. -/
  | becalmed (f : BitVec 5)
  /-- MIRED (R85): When the view has held still for L + M, the device declares the flight MIRED and reports to the root. -/
  | mired (f : BitVec 5)
  /-- MIRED_REPORT (R85): The root receives a mired report and stops dispatch on every device of the flight. -/
  | miredReport (p : BitVec 3) (f : BitVec 5) (reason : BitVec 8)
  /-- ABSENCE_REPORT (R256): An absence report travels up the tree, and the root halts the flight. -/
  | absenceReport (p : BitVec 3) (f : BitVec 5)
  /-- EPS_PULSE (R275): An epoch strobe emits one pending pulse from its backlog. -/
  | epsPulse (i : BitVec 2)
  /-- BEGIN (R327): Open a transaction on the writing path. -/
  | beginTxn (path : Path)
  /-- COMMIT (R330): Validate the staged values and start preparation. -/
  | commit (path : Path) (seq : BitVec 16)
  /-- ROLLBACK (R327): Discard an open, preparing or pending transaction. -/
  | rollback (path : Path) (seq : BitVec 16)
  /-- TX_WRITE (R328): A write to a tx object is checked and staged in a shadow. -/
  | txWrite (path : Path) (index : BitVec 16) (sub : BitVec 8) (data : List (BitVec 8))
  /-- PREPARATION_DONE (R330): Shadows and the inactive generation are built, so the commit becomes pending or, if immediate, is applied. -/
  | preparationDone
  /-- COMMIT_APPLICATION (R330): When the commit point holds, validation is repeated and every staged value takes effect in one step. -/
  | commitApplication
  /-- IDLE_TIMEOUT (R329): An open transaction without owner activity is rolled back with status timed out. -/
  | idleTimeout
  /-- OBJECT_WRITE (R11): A write to a dictionary object that has no row of its own takes effect as its class states. -/
  | objectWrite (path : Path) (index : BitVec 16) (sub : BitVec 8) (data : List (BitVec 8))
  /-- REGISTER_WRITE (R337): A write to a BAR0 register that has no row of its own, or to BAR4 or configuration space, which no row names. -/
  | registerWrite (offset : HostOffset) (size : Nat) (value : BitVec 64)
  /-- SAVE (R322): Save the committed nv values into the older logbook copy. -/
  | save (path : Path)
  /-- FACTORY (R322): Make the next save write factory values. -/
  | factory (path : Path)
  /-- DEVICE_RESET (R346): 0xA5 written over CAN resets the whole part with its rails kept up. -/
  | deviceReset (path : Path) (value : BitVec 8)
  /-- DEFLATE (R279): A deflate request starts QUIESCE for the domain, or is refused, ignored or queued by its state. -/
  | deflate (path : Path) (d : BitVec 6)
  /-- INFLATE (R283): An inflate request powers up a domain through POWER, RESTORE and JOIN, or cancels a deflate in progress. -/
  | inflate (path : Path) (d : BitVec 6)
  /-- DOMAIN_RESET (R285): A reset request runs QUIESCE to ISOLATE and then RESTORE and JOIN without power-down. -/
  | domainReset (path : Path) (d : BitVec 6)
  /-- DRAIN_END (R279): DRAIN conditions hold, so ISOLATE clamps and flushes the domain and it goes OFF. -/
  | drainEnd (d : BitVec 6)
  /-- DRAIN_TIMEOUT (R281): A DRAIN unfinished after 1 ms forces ISOLATE with a level-2 drain fault. -/
  | drainTimeout (d : BitVec 6)
  /-- CLOCK_REQUEST (R262): A new cluster clock setting programs the standby PLL. -/
  | clockRequest (c : BitVec 5) (mhz : BitVec 12)
  /-- STANDBY_PLL_LOCK (R262): The standby PLL locks, and the cluster stops dispatching. -/
  | standbyPllLock (c : BitVec 5)
  /-- CLOCK_SWITCH (R262): Every engine is between activations, so the clock is gated, switched and ungated and dispatch resumes. -/
  | clockSwitch (c : BitVec 5)
  /-- CLOCK_CHANGE_ABANDON (R263): After 200 µs with an activation still running, the clock change is abandoned. -/
  | clockChangeAbandon (c : BitVec 5)
  /-- THERMAL_SAMPLE (R287): Every 1 ms the policy samples temperatures and power and applies one thermal decision. -/
  | thermalSample (temps : List Int) (power : Nat) (clusterPower : List Nat)
  /-- THERMAL_TRIP (R287): A sensor at 110 °C contains and opens every cluster domain and asserts ALERT_N. -/
  | thermalTrip (sensor : BitVec 6) (temp : Int)
  /-- RAIL_FAILURE (R366): A rail out of tolerance for 2 µs contains its domains or fails the always-on region. -/
  | railFailure (rail : Rail)
  /-- FAULT_EVENT (R298): A detector's event enters its class queue and updates its source's count. -/
  | faultEvent (cls : BitVec 5)
  /-- STAMP_CLOSE (R299): At t + 128 ns the collector decides levels, promotion, first fault and reactions for stamp t. -/
  | stampClose (stamp : BitVec 64)
  /-- LOGBOOK_ENTRY_WRITE (R308): A queued entry is written into the logbook as four MRAM words, check last. -/
  | logbookEntryWrite (ok : Bool)
  /-- RECORD_EMPTY (R299): Writing 0 to record full empties the first-fault record. -/
  | recordEmpty (path : Path) (value : BitVec 8)
  /-- CLEAR_PINNED (R309): Writing 1 zeroes all pinned entries. -/
  | clearPinned (path : Path) (value : BitVec 8)
  /-- SOURCE_STATUS_CLEAR (R293): A W1C write clears a source's status bits, which are set again if their cause persists. -/
  | sourceStatusClear (path : Path) (cls : BitVec 5) (inst : BitVec 5) (mask : BitVec 16)
  /-- ERROR_FIELD_CLEAR (R303): Writing 0 to 0x1003:00 empties the pre-defined error field. -/
  | errorFieldClear (path : Path) (value : BitVec 32)
  /-- INJECTION_ARM (R304): Arm an injection on a checker with a mask and a count. -/
  | injectionArm (path : Path)
  /-- INJECTION_DISARM (R304): Disarm the armed injection. -/
  | injectionDisarm (path : Path)
  /-- DREDGE_READ (R203): In an unclaimed cycle the on-chip dredge checks the word at its pointer and advances. -/
  | dredgeRead (m : OnChip)
  /-- HBM_DREDGE_READ (R204): The HBM dredge reads and checks one line within its bandwidth share. -/
  | hbmDredgeRead (n : BitVec 2)
  /-- CORRECTION_WRITE_BACK (R196): The correction buffer writes a corrected word back in the first cycle the token unit leaves free. -/
  | correctionWriteBack (m : OnChip)
  /-- LINK_BLOCK (R243): A received link block is checked for CRC and sequence, and its flits are delivered or the block is discarded with a replay request. -/
  | linkBlock (p : BitVec 3) (block : BitVec 1026)
  /-- STATUS_FLIT (R240): A status flit updates acks, credits from freed counts, and replay requests. -/
  | statusFlit (p : BitVec 3)
  /-- STATUS_FLIT_TIMER (R240): A port sends a status flit at least every 1 µs. -/
  | statusFlitTimer (p : BitVec 3)
  /-- REPLAY_TIMEOUT (R244): With blocks held and no ack advance for 4 µs, the transmitter replays from the oldest. -/
  | replayTimeout (p : BitVec 3)
  /-- FEC_CODEWORD (R245): An RS codeword is decoded and corrected, or its five blocks are marked as errors. -/
  | fecCodeword (p : BitVec 3) (blocks : List (BitVec 1026)) (count : BitVec 10) (symbolErrors : Nat)
  /-- SIGNAL_DETECT (R246): A port in DETECT sees partner signal and enters TRAIN. -/
  | signalDetect (p : BitVec 3)
  /-- TRAIN (R246): Equalisation and precoding are agreed, and the port proceeds to ALIGN. -/
  | train (p : BitVec 3)
  /-- ALIGN (R246): Sync-header lock, deskew and descrambler lock complete. -/
  | align (p : BitVec 3)
  /-- FEC_LOCK (R246): FEC codeword lock completes. -/
  | fecLock (p : BitVec 3)
  /-- IDENTITY_ORDERED_SET (R247): A partner's identity set is checked, and the port enters CONNECTED or is held with a fault. -/
  | identityOrderedSet (p : BitVec 3) (set : IdentitySet)
  /-- TRAINING_TIMEOUT (R246): Training over its bound, or a failed step, returns the port to DETECT with a failure counted. -/
  | trainingTimeout (p : BitVec 3)
  /-- RETRAIN_TIMEOUT (R246): A self-retrain not complete within 1 ms runs again from TRAIN. -/
  | retrainTimeout (p : BitVec 3)
  /-- RETRAIN_LIMIT (R255): A retrain not CONNECTED within the retrain limit makes the partner absent. -/
  | retrainLimit (p : BitVec 3)
  /-- SHUTDOWN_ORDERED_SET (R255): A received shutdown notice puts the port in partner shut down. -/
  | shutdownOrderedSet (p : BitVec 3)
  /-- LOSS_OF_SIGNAL (R255): Loss of signal while connected or retraining makes the partner absent. -/
  | lossOfSignal (p : BitVec 3)
  /-- KEEPALIVE_WINDOW (R255): The eighth consecutive 1 µs window with no good link-control flit declares the partner absent. -/
  | keepaliveWindow (p : BitVec 3)
  /-- PORT_ENABLE (R246): Writing 1 to a port's enable starts DETECT at the committed rate and FEC. -/
  | portEnable (path : Path) (p : BitVec 3)
  /-- PORT_DISABLE (R255): Writing 0 to a port's enable sends the shutdown notice and idles the transmitters. -/
  | portDisable (path : Path) (p : BitVec 3)
  /-- TIME_SYNC_REQUEST (R272): An upstream port stamps a sync request and answers with t2 and t3. -/
  | timeSyncRequest (p : BitVec 3)
  /-- TIME_SYNC_RESPONSE (R272): A follower computes delay and offset and folds the offset into c. -/
  | timeSyncResponse (p : BitVec 3)
  /-- ANNOUNCE (R266): A received announce updates upstream selection by rank. -/
  | announce (p : BitVec 3)
  /-- SYNC_REQUEST_TIMER (R272): Every 16 µs a follower sends a sync request upstream. -/
  | syncRequestTimer
  /-- ANNOUNCE_TIMER (R266): Every 16 µs a part announces its best rank on every connected port. -/
  | announceTimer
  /-- SYNC_RESPONSE_TIMEOUT (R272): A response not received within 16 µs is discarded and counted. -/
  | syncResponseTimeout
  /-- ANNOUNCE_TIMEOUT (R267): After 128 µs without announce, the upstream is lost and selection runs again. -/
  | announceTimeout (p : BitVec 3)
  /-- BACKUP_TAKEOVER (R267): A TBKUP part with no class 0 or 1 announce for 1 ms becomes a class-2 source. -/
  | backupTakeover
  /-- TB_10M_IN_EDGE (R269): An edge of the 10 MHz reference feeds validity and discipline. -/
  | tb10mInEdge (inTolerance : Bool)
  /-- TB_PPS_IN_EDGE (R269): A PPS edge feeds validity and phase steering. -/
  | tbPpsInEdge
  /-- TB_10M_IN_LOSS (R269): 2 µs without an edge makes the 10 MHz input invalid. -/
  | tb10mInLoss
  /-- TB_PPS_IN_LOSS (R269): 1.5 s without an edge makes the PPS input invalid. -/
  | tbPpsInLoss
  /-- EXTERNAL_WAIT_TIMEOUT (R269): After 4 s in CONFIG without valid inputs, a TMSTR part runs free as class 1. -/
  | externalWaitTimeout
  /-- NO_SOURCE_TIMEOUT (R268): 10 ms without a source lets the part enter LIVE unlocked. -/
  | noSourceTimeout
  /-- USDO_DOWNLOAD (R315): A CAN USDO download writes an object. -/
  | usdoDownload (index : BitVec 16) (sub : BitVec 8) (data : UsdoData)
  /-- USDO_UPLOAD (R315): A CAN USDO upload reads an object. -/
  | usdoUpload (index : BitVec 16) (sub : BitVec 8)
  /-- USDO_TIMEOUT (R315): A segment not following within 1 s ends the transfer. -/
  | usdoTimeout
  /-- NMT_START (R317): NMT Start is accepted. -/
  | nmtStart
  /-- NMT_ENTER_PRE_OPERATIONAL (R317): NMT enter pre-operational is accepted. -/
  | nmtEnterPreOperational
  /-- NMT_STOP (R317): NMT Stop ceases USDO and EMCY on CAN, and the heartbeat shows 0x04. -/
  | nmtStop
  /-- NMT_RESET_COMMUNICATION (R317): Re-initialise the CAN controller and send boot-up. -/
  | nmtResetCommunication
  /-- NMT_RESET_NODE (R317): Re-initialise the CAN controller and send boot-up, resetting nothing else. -/
  | nmtResetNode
  /-- HEARTBEAT (R315): The heartbeat producer timer expires and a heartbeat is sent. -/
  | heartbeat
  /-- MAILBOX_READ (R318): MB_CMD read serves a dictionary read through the PCIe mailbox. -/
  | mailboxRead (cmd : BitVec 32)
  /-- MAILBOX_WRITE (R319): MB_CMD write collects a chunk and writes the object at its last chunk. -/
  | mailboxWrite (cmd : BitVec 32)
  /-- BAR2_READ (R339): A host read through the BAR2 window is checked slot by slot and completed. -/
  | bar2Read (offset : BitVec 36) (bytes : Nat)
  /-- BAR2_WRITE (R339): A host write through the BAR2 window is checked and posted, or discarded whole. -/
  | bar2Write (offset : BitVec 36) (data : List (Option (BitVec 8))) (poisoned : Bool)
  /-- DMA_DOORBELL (R341): Writing HEAD makes new descriptors available to the channel. -/
  | dmaDoorbell (c : BitVec 3) (head : BitVec 16)
  /-- DMA_ENABLE (R341): Setting or clearing enable starts or stops descriptor processing. -/
  | dmaEnable (c : BitVec 3) (on : Bool)
  /-- DMA_PAUSE (R341): Setting pause stops the channel at the next descriptor boundary. -/
  | dmaPause (c : BitVec 3) (on : Bool)
  /-- DMA_ERROR_CLEAR (R341): Writing 1 to error clears it and resumes processing at TAIL. -/
  | dmaErrorClear (c : BitVec 3)
  /-- DMA_DESCRIPTOR_COMPLETE (R344): A descriptor's words are all visible, so its status is written and the next starts. -/
  | dmaDescriptorComplete (c : BitVec 3) (desc : BitVec 256) (data : List Word)
  /-- BOOT_GO (R352): BOOT_CTRL go checks the host-written image and starts it or refuses it. -/
  | bootGo (length : BitVec 24)
  /-- IMAGE_WRITE (R353): A firmware image is written into the inactive slot. -/
  | imageWrite (path : Path) (image : List (BitVec 8))
  /-- ACTIVATE (R354): Writing activate requests a switch to the inactive slot. -/
  | activate (path : Path) (value : BitVec 8)
  /-- QUIET_POINT (R354): At the quiet point, accesses are held and the ROM loads and checks the new image. -/
  | quietPoint
  /-- QUIET_POINT_TIMEOUT (R354): No quiet point within 10 s fails the update. -/
  | quietPointTimeout
  /-- FIRMWARE_READY (R354): The new image reports ready, becomes preferred, and held accesses are served. -/
  | firmwareReady
  /-- READY_TIMEOUT (R355): A failed check, or no ready report within 1 s, reloads the old slot. -/
  | readyTimeout
  /-- WATCHDOG_EXPIRY (R355): The 100 ms management watchdog restarts the core from the preferred slot. -/
  | watchdogExpiry
  /-- PORST_N_FALL (R346): PORST_N low resets the whole part to OFF. -/
  | porstNFall
  /-- PORST_N_RISE (R349): PORST_N rising samples the straps and runs start-up toward CONFIG and LIVE. -/
  | porstNRise (straps : Straps) (tests : SelfTest)
  /-- PERST_N (R346): The PCIe conventional reset resets D38's host interface and retrains the link. -/
  | perstN (low : Bool)
  /-- HOT_RESET (R346): A PCIe hot reset acts as PERST_N. -/
  | hotReset
  /-- LINK_DOWN (R347): A PCIe link down abandons descriptors and rolls back a PCIe-owned transaction. -/
  | linkDown
  /-- FLR (R347): A function-level reset resets the host interface without retraining. -/
  | flr
  /-- CAPTURE_ENABLE (R377): Writing 1 arms trace capture with every index reset. -/
  | captureEnable (path : Path)
  /-- CAPTURE_DISABLE (R377): Writing 0 stops capture at once. -/
  | captureDisable (path : Path)
  /-- POST_TRIGGER_STOP (R376): A buffer that has written its post-trigger count stops, and capture stops after the last buffer. -/
  | postTriggerStop (b : BitVec 4)
  /-- TAP_RESET (R369): A TAP reset resets the TAP controller and boundary-scan registers. -/
  | tapReset
  /-- EXTEST (R371): Drive pins from boundary scan while PORST_N is low. -/
  | extest (cells : List Bool)
  /-- SAMPLE_PRELOAD (R369): Sample pins and preload the boundary register. -/
  | samplePreload (pins : List Bool) (cells : List Bool)
  /-- IDCODE (R369): Select the IDCODE register. -/
  | idcode
  /-- CLAMP (R371): Hold pins from the boundary register with bypass selected, while PORST_N is low. -/
  | clamp
  /-- HIGHZ (R371): Float all outputs while PORST_N is low. -/
  | highz
  /-- EXTEST_PULSE (R371): 1149.6 pulsed test of AC-coupled pairs while PORST_N is low. -/
  | extestPulse (cells : List Bool)
  /-- EXTEST_TRAIN (R371): 1149.6 training test of AC-coupled pairs while PORST_N is low. -/
  | extestTrain (cells : List Bool)
  /-- BYPASS (R369): Select the one-bit bypass register. -/
  | bypass
  /-- ILLEGAL_INSTRUCTION (R120): An instruction word with a reserved opcode, an unlisted mode or a non-zero zero field issues and raises the illegal-instruction trap. -/
  | illegalInstruction (g : BitVec 9)
  /-- LINK_BLOCK_TRANSMIT (R235): At each block time a port's transmitter builds and sends the next 1,026-bit block from staging, replay or an unsequenced filler, subject to link credits. -/
  | linkBlockTransmit (p : BitVec 3)
  /-- ALIGNMENT_LOSS (R246): A connected port loses sync-header or codeword alignment and retrains from step 3, keeping its equalisation. -/
  | alignmentLoss (p : BitVec 3)
  /-- SEQUENCER_FLIP (R227): The power sequencer's inactive generation is built and its flip order is broadcast, so QUIESCE enters DRAIN, a JOIN reaches LIVE or a cancelled deflate returns to LIVE. -/
  | sequencerFlip
  /-- POWER_UP (R283): The closed switches bring the domain's rails within tolerance and its PLLs lock, and RESTORE begins. -/
  | powerUp (d : BitVec 6)
  /-- RESTORE_COMPLETE (R283): The domain reset, checker self-test and memory BIST of an inflate or domain reset end, so JOIN begins or the domain stays contained in RESTORE. -/
  | restoreComplete (d : BitVec 6) (ok : Bool)
  /-- HALT_REQUEST (R301): The flight's root receives a halt request raised by a fault reaction on another device and starts a halt at the waterline. -/
  | haltRequest (p : BitVec 3) (f : BitVec 5)
  /-- PORT_TRAINING_WAIT_TIMEOUT (R349): 500 ms after start-up step 8 begins with some enabled port not CONNECTED, start-up goes on to time lock and the ports keep training. -/
  | portTrainingWaitTimeout
  /-- PEER_BOOT_TIMEOUT (R352): With BOOTSRC 10, no partner has delivered a valid image within 1 s, so the part boots from the logbook. -/
  | peerBootTimeout
  /-- REFCLK_FAILURE (R290): The REFCLK monitor finds the reference clock out of tolerance and reports an event under class 29 instance 2. -/
  | refclkFailure
  /-- PCIE_LINK_UP (R351): PCIe link training completes and 0x3500:01 reads up. -/
  | pcieLinkUp (generation : BitVec 8) (lanes : BitVec 8)
  /-- PCIE_POWER_STATE_CHANGE (R335): A host write moves the function between D0 and D3hot, which stops the channels at a descriptor boundary and makes BAR accesses Unsupported Request, or undoes this. -/
  | pciePowerStateChange (d3hot : Bool)
  deriving DecidableEq, Repr

end Sys2Proof
end

