-- ==== Sys2Proof/Machine/State.lean ====
section
/-! DEFINITION. The state of the part as plain data, its Fault and Refusal, and State.reset.
Each field's comment gives its meaning, the rule that names it and its reset value. Sparse tables (`Tab`) list only what
differs from what an unlisted key reads as. -/

namespace Sys2Proof.Machine

/-! ### The engine pipeline -/

/-- A load in its delay (R104): destination (0 to 7 by Table 5.7, 8 the whole V), delay slots left, loaded value. -/
structure PendLoad where
  reg : BitVec 4
  slots : Nat
  value : Vec
  deriving DecidableEq, Repr

/-- A load shadow (R105): the load in its delay when the trap came, and the register's pre-load value. -/
structure Shadow where
  load : PendLoad
  before : Vec
  deriving DecidableEq, Repr

/-- The loop registers LS, LE, LC of levels 0 to 2 and LST (Table 5.1, Table 5.4). -/
structure LoopRegs where
  ls : Vector (BitVec 15) 3
  le : Vector (BitVec 15) 3
  lc : Vector (BitVec 24) 3
  lst : BitVec 2
  deriving DecidableEq, Repr

/-- An MTS to a loop register that later end checks do not yet see (Table 5.8, case 10): special number, instructions left, value before. -/
structure LoopWrite where
  special : BitVec 7
  left : Nat
  before : Word
  deriving DecidableEq, Repr

/-- A mailbox segment (R117, Table 5.12) with the transaction it tracks: tag, space, words expected, router of the target whose
pool it drew on (63 for none). -/
structure Segment where
  code : BitVec 4
  outstanding : Bool
  reported : Bool
  tag : BitVec 12
  space : BitVec 4
  len : Nat
  dest : Nat
  deriving DecidableEq, Repr

/-- An outstanding FP instruction with the operands read at issue (R161), and whether the loads in whose delay slot it stands discard its
result (R162). -/
structure FpOp where
  opcode : BitVec 9
  pc : BitVec 15
  a : BitVec 72
  p : BitVec 72
  q : BitVec 72
  drop : Bool
  deriving DecidableEq, Repr

/-- A record of the FP queue (R172): the instruction's address and the enabled exceptions it raised. -/
structure FpRecord where
  pc : BitVec 15
  set : BitVec 5
  deriving DecidableEq, Repr

/-- The running activation: queue entry, node, epoch, kind, tokens sent, fan-out count reserved, fan-out list, state base and length (R62, R64). -/
structure Activation where
  q : BitVec 6
  node : BitVec 14
  epoch : Nat
  refire : Bool
  sent : Nat
  fanout : Nat
  fanlist : BitVec 17
  stateSrc : Bool
  stateBase : BitVec 17
  stateLen : Nat
  deriving DecidableEq, Repr

/-- The scalar pipeline, BVU and FP unit of one engine (R96 to R118). -/
structure Core where
  /-- A: 36 bits, R96; reset 0 -/
  a : Word
  /-- H: 36 bits, R96; reset 0 -/
  h : Word
  /-- X: 36 bits, R96; reset 0 -/
  x : Word
  /-- Y: 36 bits, R96; reset 0 -/
  y : Word
  /-- B: 5 bits, R96; reset 0 -/
  b : BitVec 5
  /-- L: 15 bits, R96; reset 0 -/
  l : BitVec 15
  /-- C, string count: 24 bits, R96; reset 0 -/
  c : BitVec 24
  /-- PC: 15 bits, R96; reset 0 -/
  pc : BitVec 15
  /-- sequential flow has passed 0x7FFF: 1 bit, R101; reset 0 -/
  past : Bool
  /-- F: flags C Z N O D at [4:0], R97; reset 0 -/
  f : BitVec 5
  /-- LS0-LS2, LE0-LE2, LC0-LC2, LST: R96, R108; reset 0 -/
  loops : LoopRegs
  /-- V.0-V.7: 288 bits, R96; reset 0 -/
  v : Vec
  /-- EP: 48 bits, R99, R111; reset 0 -/
  ep : BitVec 48
  /-- FL: 5 bits, R99; reset 0 -/
  fl : BitVec 5
  /-- WIN: 17 bits, R99; reset 0 -/
  win : BitVec 17
  /-- FSR flags [4:0], controls [14:5] and record lost [18] (queue count [17:15] is fpq's length): Table 5.3; reset by R98 -/
  fsr : BitVec 19
  /-- TCAUSE: 8 bits, R99; reset 0 -/
  tcause : BitVec 8
  /-- TPC: 15 bits, R99; reset 0 -/
  tpc : BitVec 15
  /-- TINFO: 36 bits, R99; reset 0 -/
  tinfo : Word
  /-- TF: 5 bits, R99; reset 0 -/
  tf : BitVec 5
  /-- MB0-MB63: 64 words, R117; reset 0 -/
  mb : Vector Word 64
  /-- mailbox segments 0-3 (MBS): R117, Table 5.12; reset code 0, not outstanding, reported -/
  seg : Vector Segment 4
  /-- handler mode: 1 bit, R113; reset 0 -/
  handler : Bool
  /-- loads in their delay slots: R104; reset empty -/
  delay : List PendLoad
  /-- load shadow of a trap: R105; reset empty -/
  shadow : List Shadow
  /-- recent MTS to loop registers: Table 5.8, case 10; reset empty -/
  loopWrites : List LoopWrite
  /-- outstanding FP instruction: R161; reset none -/
  fpu : Option FpOp
  /-- FP queue, oldest first, at most 4 records: R172; reset empty -/
  fpq : List FpRecord
  /-- running activation (0x2400 + g:0C): R58, R323; reset none -/
  act : Option Activation
  /-- stopped (0x2400 + g:0B): R114, R115, R385; reset 0 -/
  stopped : Bool
  /-- serial part of the next transaction tag ("chosen by the requester", R214): 10 bits; reset 0 DESIGN CHOICE (log 3) -/
  serial : BitVec 10
  deriving DecidableEq, Repr

/-! ### Packets -/

/-- A token flit: token and control field (R24, R39). -/
structure Flit where
  token : BitVec 96
  ctl : BitVec 96
  deriving DecidableEq, Repr

/-- A flit on a link: its 192 bits, its frame tag (R209, R213), and the router that injected it (whose partition, pool or
staging credit it holds, R219, R220, R242). -/
structure NFlit where
  bits : BitVec 192
  tag : BitVec 2
  inj : Nat
  /-- a dual-clock queue delivered it after a double error, its tag forced to 00 (R231) -/
  spoiled : Bool := false
  deriving DecidableEq, Repr

/-- A word stored in a dual-clock queue (R230): the 192 bits and frame tag of a flit, and its 9 check bits, held as their difference
from the check bits of those 194 bits (0 as written), since the manual gives the code no arrangement (assumption 13). -/
structure QEntry where
  flit : NFlit
  wrong : BitVec 9
  deriving DecidableEq, Repr

/-- A dual-clock queue (R230, R232): its words, oldest first, the write and read counts as 5-bit Gray counts, and each count as it has
crossed to the other side. -/
structure CrossQ where
  entries : List QEntry
  wr : BitVec 5
  rd : BitVec 5
  wrSeen : BitVec 5
  rdSeen : BitVec 5
  deriving DecidableEq, Repr

/-- A transaction packet as a receiver's framing layer assembles it: control field, header, data flits, injecting router
(none: the cluster crossbar, R181). -/
structure Pkt where
  ctl : BitVec 96
  head : BitVec 96
  data : List (BitVec 192)
  inj : Option Nat
  /-- the engine that the network interface maps a sluice request to, by the packet's own generation (R226) -/
  engine : Option Nat := none
  deriving DecidableEq, Repr

/-! ### The token unit and the emit unit -/

/-- A ready-queue entry (R57): window, node, epoch, kind, order of entry, running. -/
structure REntry where
  q : BitVec 6
  node : BitVec 14
  epoch : Nat
  refire : Bool
  order : Nat
  running : Bool
  deriving DecidableEq, Repr

/-- A node that waits for a queue entry (R58). -/
structure Waiting where
  node : BitVec 14
  epoch : Nat
  refire : Bool
  deriving DecidableEq, Repr

/-- An open acceptance obligation (R67): the activation's node and epoch, the emit sequence and epoch tag of its tokens, the
emission credits its unaccepted tokens hold. -/
structure Obligation where
  node : BitVec 14
  epoch : Nat
  seq : BitVec 6
  tag : BitVec 8
  credits : Nat
  deriving DecidableEq, Repr

/-- A trace record waiting in a token unit's 8-record queue (R373, R374), with the buffer it goes to. -/
structure TraceRec where
  bits : BitVec 216
  buffer : Nat
  deriving DecidableEq, Repr

/-- The token unit and the emit unit of one engine. -/
structure TokenUnit where
  /-- view w of the flight's waterline: 48 bits, R33, R74; reset 0 -/
  view : Nat
  /-- F, frame count used by the index: R45, R47; reset 1 DESIGN CHOICE (set at every start, log 3) -/
  frames : Nat
  /-- T, tether in force at the engine: R47; reset 1 DESIGN CHOICE (set at every start, log 3) -/
  tether : Nat
  /-- pay-out of T and F that waits for a multiple: R47; reset none -/
  pay : Option Nat
  /-- the flight's start epoch in force, a full epoch (none outside a flight): R53, R94; reset none -/
  start : Option Nat
  /-- matching store, entry index to stored entry (70 bits): R46, R47; reset all empty with good check bits -/
  store : Tab StoredEntry
  /-- slot map, slot to 16 x node + input + 1 (0: unowned): R31; reset empty -/
  slotMap : Tab Nat
  /-- 64 bog balances of 32 bits by e mod 64: R48; reset 0 -/
  balances : Tab Nat
  /-- by node, the first epoch not handled (0: none handled above the view): R54; reset 0 -/
  next : Tab Nat
  /-- by slot, the value the input resolved to when its node was last handled: R51; reset 0 -/
  last : Tab Nat
  /-- by slot, how the two stored groups of its slot-map word differ from good ones: R28, R192; reset 0, and 0 after a scan -/
  slotWrong : Tab (BitVec 28)
  /-- by node, words of the journal records below its own in a slab, as the scan summed them: R60; reset 0 -/
  offsets : Tab Nat
  /-- Z, words of one journal slab, as the scan summed them: R60; reset 0 -/
  slab : Nat
  /-- static node count of the LOADED scan: R31, R68; reset 0 -/
  count : Nat
  /-- the LOADED scan passed and its results stand: R31; reset 0 -/
  scanned : Bool
  /-- lowest unretired epoch (0x2400 + g:08): R68; reset 0 -/
  lur : Nat
  /-- ready queue, 64 entries: R57; reset empty -/
  ready : List REntry
  /-- pending nodes without a queue entry: R58; reset empty -/
  waiting : List Waiting
  /-- order number of the next queue entry: R57; reset 0 -/
  order : Nat
  /-- recompute queue, at most 64 requests as received: R88, Table 4.8; reset empty -/
  recomp : List Flit
  /-- re-fires ordered while their activation runs, queued after its ENDA: R88; reset empty -/
  again : List Waiting
  /-- activations dispatched as first firings, of epochs not yet retired (node, epoch): R88; reset empty -/
  fired : List (Nat × Nat)
  /-- unanswered recompute obligations (node, epoch): R68, R88; reset empty -/
  unanswered : List (Nat × Nat)
  /-- open acceptance obligations: R67; reset empty -/
  obligations : List Obligation
  /-- free emission credits, 0 to 4,096: R61; reset 4,096 -/
  credits : Nat
  /-- dispatch ceiling in force while a halt runs: R90; reset none -/
  ceiling : Option Nat
  /-- highest epoch first-fired or handled: R90; reset 0 -/
  highest : Nat
  /-- tokens of the own emit unit on their way back: R64; reset empty -/
  loopback : List Flit
  /-- token queue partitions by injecting router, 4 flits each: R220; reset empty -/
  parts : Tab (List Flit)
  /-- trace queue, at most 8 records: R374; reset empty -/
  trace : List TraceRec
  /-- a trace record was dropped since the last one sent: R374; reset 0 -/
  gap : Bool
  /-- an uncorrectable read has stopped the token unit (0x2400 + g:0B): R385; reset 0 -/
  stopped : Bool
  /-- the last value reported to the cluster waterline node: R69; reset none -/
  reported : Option Nat
  deriving DecidableEq, Repr

/-- One engine: pipeline, token unit, local store with correction buffers and dredge pointers, responses passed inward. -/
structure Engine where
  core : Core
  tu : TokenUnit
  /-- local store, 17-bit address to stored word: R100, R192; reset zero with good check bits -/
  mem : Tab Stored
  /-- correction buffers of banks 0-3 and sluice (4), bank to (address, word): R196; reset empty -/
  corr : Tab (Nat × Stored)
  /-- correction buffer of the matching store: R196; reset none -/
  matchCorr : Option (Nat × StoredEntry)
  /-- dredge pointers of banks 0-4 and matching store (5): R203; reset 0 DESIGN CHOICE (log 3) -/
  dredge : Tab Nat
  /-- responses and ACCEPTs passed inward by the network interface: R213; reset empty -/
  rspIn : List Pkt
  deriving DecidableEq, Repr

/-- The clock-change sequence of a cluster (Table 13.3): none, standby PLL locking, dispatch stopped. -/
inductive ClockPhase where
  | idle | locking | stopping
  deriving DecidableEq, Repr

/-- One cluster: store, crossbar, network interface, waterline node, clock. -/
structure Cluster where
  /-- cluster store, 19-bit offset to stored word: R180; reset zero with good check bits -/
  store : Tab Stored
  /-- correction buffers of the 16 banks: R196; reset empty -/
  corr : Tab (Nat × Stored)
  /-- dredge pointers of the 16 banks, as rows: R203; reset 0 DESIGN CHOICE (log 3) -/
  dredge : Tab Nat
  /-- requests for the store or a sluice of the cluster, passed inward: R181, R219; reset empty -/
  reqQ : List Pkt
  /-- by bank of the store (16: a sluice), the requester served last, 0 to 15 the far ports, 16 the network port: R181; reset 16, so that
  port 0 is first DESIGN CHOICE (log 3) -/
  turn : Tab Nat
  /-- packets ejected to the network interface: R209; reset empty -/
  niIn : List (Pkt × BitVec 2)
  /-- retire reports and distributions for the waterline node: R221; reset empty -/
  wnIn : List Flit
  /-- highest report kept per engine of the cluster: R74; reset 0 -/
  wnReports : Tab Nat
  /-- last minimum reported to the device node: R74; reset none -/
  wnReported : Option Nat
  /-- clock setting in force, MHz (0x2210 + c:01): R262; reset 3,000 -/
  clock : Nat
  /-- ceiling, MHz (0x2210 + c:03): R287; reset 3,000 -/
  ceiling : Nat
  /-- clock change in progress: R262; reset idle -/
  phase : ClockPhase
  /-- target of the change, or of one abandoned that is to be tried again (0: none): R263; reset 0 -/
  target : Nat
  /-- consecutive samples with nothing to do: R77; reset 0 -/
  idleSamples : Nat
  deriving DecidableEq, Repr

/-- The states of a flight (Table 1.5, Table 4.1). -/
inductive FState where
  | idle | loaded | running | halting | halted | mired
  deriving DecidableEq, Repr

/-- A flight command on its way through this device: command, argument, ports whose completion is awaited (R382). -/
structure PendingCmd where
  cmd : Nat
  arg : Nat
  wait : BitVec 8
  scans : List Nat
  failed : Bool
  deriving DecidableEq, Repr

/-- The tether controller's memory for one flight (R76). -/
structure Tether where
  /-- consecutive quiet samples -/
  quiet : Nat
  /-- samples for which a pay-out stays suspended -/
  suspended : Nat
  /-- the views of the last 8 samples, newest first -/
  views : List Nat
  /-- the last pay-out: samples since it took effect, the advance then, row 3 has acted for it -/
  payout : Option (Nat × Nat × Bool)
  /-- tokens written into the bog during the sample -/
  inflow : Nat
  deriving DecidableEq, Repr

/-- One flight on this device (R70, Table 4.1, R74 to R86). -/
structure Flight where
  /-- state (:01): Table 4.1; reset IDLE -/
  state : FState
  /-- T in force (:05): R45, R47; reset 1 DESIGN CHOICE (no tether outside a flight, log 3) -/
  tether : Nat
  /-- F of the index for the flight's engines: R47; reset 1 DESIGN CHOICE (log 3) -/
  frames : Nat
  /-- pay-out waiting for its multiple: R47; reset none -/
  payPending : Option Nat
  /-- halt epoch (:09): R90; reset 0 DESIGN CHOICE (log 3) -/
  haltEpoch : Nat
  /-- view of this device (:0A), and epoch counter: R74, R265; reset 0 DESIGN CHOICE (log 3) -/
  view : Nat
  /-- condition becalmed (:10): R84; reset 0 -/
  becalmed : Bool
  /-- mired reason (:11): Table 4.1; reset 0 -/
  reason : Nat
  /-- state lost (:12): R82; reset 0 -/
  lost : Bool
  /-- restart epoch of a hold-off in force: R75; reset none -/
  holdoff : Option Nat
  /-- start epoch of the last restart, a full epoch: R53, R94; reset 0 -/
  startEpoch : Nat
  /-- h_req of the halt in force: R90; reset none -/
  hreq : Option Nat
  /-- the agreed halt epoch h has arrived: R90; reset 0 -/
  agreed : Bool
  /-- replies of devices below not yet in, as ports, and the maximum so far: R90; reset none -/
  haltWait : Option (BitVec 8 × Nat)
  /-- highest report per cluster at the device node: R74; reset empty -/
  clusterReports : Tab Nat
  /-- highest report per child port at the device node: R74; reset empty -/
  childReports : Tab Nat
  /-- last minimum reported to the parent: R74; reset none -/
  reported : Option Nat
  /-- command in progress: R382; reset none -/
  cmd : Option PendingCmd
  /-- tether controller: R76; reset at rest -/
  tc : Tether
  /-- the urgency boost of the lull watch: R84; reset 0 -/
  boost : Bool
  /-- halted for an absent partner, so that only resume-full resumes it: R258; reset 0 -/
  absence : Bool
  /-- peak bog fill (0x3410 + f:05): R81; reset 0 -/
  peak : Nat
  /-- snapshot written since MIRED: R86; reset 0 -/
  snapshot : Bool
  deriving DecidableEq, Repr

/-! ### Network -/

/-- A credit on its way back on a sideband (R209, R216, R242). -/
inductive CreditReturn where
  | link (key : Nat)
  | staging (key : Nat)
  deriving DecidableEq, Repr

/-- The on-chip network (R209 to R228). Keys: router k, port p (0 unit, 1 to 5, 6 peer link), channel v, class u make the
input-buffer key ((8k + p) x 4 + v) x 2 + u. -/
structure Noc where
  /-- input buffers, 8 flits each, the unit's own at port 0: R216; reset empty -/
  bufs : Tab (List NFlit)
  /-- flits waiting at the injecting units, key 4k + v: R220, R137; reset empty -/
  inject : Tab (List NFlit)
  /-- flits that a cluster's interface itself sends, key 4k + v: they do not pass the queue out of the cluster; reset empty -/
  relay : Tab (List NFlit)
  /-- dual-clock queues of router k and channel v, key (4k + d) x 4 + v: d = 0 out of the attached unit, 1 into it, 2 from the peer link:
  R230; reset empty -/
  cross : Tab CrossQ
  /-- by output 8k + code, the input served last (as (4p + v) x 2 + u): R217; reset 0 DESIGN CHOICE (log 3) -/
  turn : Tab Nat
  /-- packets and flits discarded, by source ID of the unit that counts them: R210, R215, R222, R256, R280; reset 0 -/
  discarded : Tab Nat
  /-- the SYNC slot of a pool is in use, 64 x target + k: R222; reset 0 -/
  syncUsed : Tab Nat
  /-- link credits in use by output buffer key: R216; reset 0 -/
  linkUsed : Tab Nat
  /-- the output port code (+1), urgency (x 16) and generation (x 256) of the packet in progress, by input key: R217; reset none -/
  follow : Tab Nat
  /-- the input key whose packet holds an output (key as of the output, +1): R217; reset none -/
  holder : Tab Nat
  /-- packets being assembled at ejection, by 4k + v: R213; reset none -/
  asm : Tab (List NFlit)
  /-- token credits in use, 64g + k: R220; reset 0 -/
  tokUsed : Tab Nat
  /-- token credits on their way back, 64g + k: R220; reset 0 -/
  tokBack : Tab Nat
  /-- request credits in use, 64 x target + k: R219; reset 0 -/
  poolUsed : Tab Nat
  /-- 16-bit counts of requests sent per pool: R222; reset 0 -/
  poolSent : Tab Nat
  /-- 16-bit counts of request heads received per pool: R222; reset 0 -/
  poolRecv : Tab Nat
  /-- staging room in use, 64 x (4 x port + v) + k: R242; reset 0 -/
  stageUsed : Tab Nat
  /-- credits on their way back: R209; reset empty -/
  back : List CreditReturn
  /-- generation in force (0x2A00:01): R226; reset 0 -/
  gen : Bool
  /-- drain status (0x2A00:02): R227; reset 0 -/
  drain : Nat
  /-- the route objects of the other generation while it drains: R224; reset empty -/
  oldRoutes : Tab Nat
  /-- a sequencer flip is requested (held or being built): R227, R228; reset 0 -/
  flipWanted : Bool
  /-- SYNCs that wait for a drain's completion, as pool 64 x target + k, requester's source engine and source node: R222; reset empty -/
  syncs : List (Nat × Nat × Nat)
  /-- 32-bit saturating counts of words corrected at dual-clock queues, by 8 x source + checker: R231; reset 0 -/
  queueFixed : Tab Nat
  deriving DecidableEq, Repr

/-! ### Bog -/

/-- The slots of a bucket (R78): its chunks of 64 slots, oldest first, and the place in the last chunk that is filled next. Its head pointer
names the first chunk, its tail pointer the place filled next. -/
structure BogChain where
  chunks : List Nat
  next : Nat
  deriving DecidableEq, Repr

/-- A debug probe of the originator (R28): its tag, the token-credit key it holds (64 x engine + 45), and whether it still holds it. -/
structure Probe where
  tag : Word
  key : Nat
  credit : Bool
  deriving DecidableEq, Repr

/-- A slot of the bog in use (R78): index in the region, flight, logical destination engine, tag epoch, epoch mod 2¹⁴;
draw number when drawn and unsettled, copies sent whose credits the draw holds, queued for draw, written after a closed window and
not yet queued again (R80), held flit (R257). -/
structure BogSlot where
  idx : Nat
  flight : Nat
  engine : Nat
  tag : Nat
  lap : Nat
  draw : Option Nat
  copies : Nat
  queued : Bool
  back : Bool
  held : Bool
  deriving DecidableEq, Repr

/-! ### Faults -/

/-- An event of a detector (R292): source ID, code, intrinsic level, details, stamp, injected, during injection; and what the collector
adds when the event enters its queue: the stamp under which it is decided, whether it came after its own stamp was closed, whether it
brought its source's window count to N, and the source's configuration word then (R296 to R300). -/
structure Event where
  src : Nat
  code : Nat
  level : Nat
  d0 : Nat
  d1 : Nat
  stamp : Nat
  injected : Bool
  during : Bool
  close : Nat
  late : Bool
  reached : Bool
  cfg : Nat
  deriving DecidableEq, Repr

/-- A decided event waiting to be written to the logbook (R308 to R310): its entry, and whether it takes a pinned entry too. -/
structure LogItem where
  entry : BitVec 256
  pinned : Bool
  deriving DecidableEq, Repr

/-- The fault collector and the logbook (R290 to R311). -/
structure Collector where
  /-- events detected, not yet in their class queue: R298; reset empty -/
  detected : List Event
  /-- class queues, 16 entries each: R298; reset empty -/
  queues : Tab (List Event)
  /-- events the collector has taken from the queues, in that order, until their stamp closes: R298; reset empty -/
  taken : List Event
  /-- class served last: R298; reset 29, so that class 0 is first DESIGN CHOICE (log 3) -/
  turn : Nat
  /-- window number and count by source: R296; reset 0 -/
  windows : Tab (Nat × Nat)
  /-- level at which the promoting event was recorded (+1) by source: R297; reset 0 -/
  promotedAt : Tab Nat
  /-- sources with the ALERT_N reaction taken, by source the levels as bits: R301; reset 0 -/
  alerts : Tab Nat
  /-- first-fault record: Table 15.9; reset 0 -/
  record : BitVec 256
  /-- record full (0x3001:02); reset 0 -/
  full : Bool
  /-- stamps closed up to here: R298; reset 0 -/
  closed : Nat
  /-- 64-entry write queue: R310; reset empty -/
  logQ : List LogItem
  /-- 512-entry buffer of events before the head is known: R308; reset empty -/
  early : List LogItem
  /-- the ring's head is known: R308; reset 0 -/
  headKnown : Bool
  /-- sequence of the newest ring entry, mod 2²⁴ (0x3003:01): R308; reset by the scan (none valid: 2²⁴ − 1) -/
  head : Nat
  /-- sequence of the next entry: R308; reset by the scan to head + 1 -/
  nextSeq : Nat
  /-- ring slots of the MRAM die: R307; kept; factory zero -/
  ring : Tab (BitVec 256)
  /-- pinned slots of the MRAM die: R307; kept; factory zero -/
  pinned : Tab (BitVec 256)
  /-- entries suppressed since the last ring entry: R310; reset 0 -/
  suppressed : Nat
  /-- second of the rate limit and ring entries written in it: R310; reset 0 -/
  rate : Nat × Nat
  /-- second of the EMCY limit and messages sent in it: R303; reset 0 -/
  emcyRate : Nat × Nat
  /-- error codes of the last 16 EMCY messages (0x1003), newest first: R303; reset empty -/
  errors : List Nat
  /-- an injection is armed (0x3002:05): R304; reset 0 -/
  armed : Bool
  deriving DecidableEq, Repr

/-! ### Peer links -/

/-- The states of a port (Table 12.7). -/
inductive PState where
  | disabled | detect | train | align | fecLock | discover | connected | absent | shutdown
  deriving DecidableEq, Repr

/-- A flit in a staging buffer (R242): flit, channel, class. -/
structure Staged where
  flit : NFlit
  chan : BitVec 2
  upper : Bool
  deriving DecidableEq, Repr

/-- One peer port (R234 to R258). Buffer-set keys are 2 x channel + class. -/
structure Port where
  /-- state (:01), by its step while the port retrains; reset 0 disabled until start-up enables it -/
  state : PState
  /-- the port retrains for its own reason (:01 reads 7): R246; reset 0 -/
  retrain : Bool
  /-- rate in force (1: 53.125 Gb/s): R246; reset 0 -/
  rate : Bool
  /-- FEC in force: R246; reset 0 -/
  fec : Bool
  /-- partner device (:05): R247; reset 0xFFFF -/
  partner : Nat
  /-- partner port (:06); reset 0xFF -/
  partnerPort : Nat
  /-- partner kind (:07); reset 0 -/
  kind : Nat
  /-- cause that holds the port in DISCOVER: 0 none, 1 duplicate ID, 2 mode, 3 ID conflict: R249; reset 0 -/
  held : Nat
  /-- the identity set of the partner waits until both ends know their IDs: R247; reset none -/
  identity : Option IdentitySet
  /-- sequence of the next sequenced block sent: R237; reset 0 -/
  txSeq : BitVec 16
  /-- replay buffer, oldest first, at most 1,024 blocks without scrambling: R244; reset empty -/
  replay : List (BitVec 1024)
  /-- blocks still to be sent again: R244; reset empty -/
  resend : List (BitVec 1024)
  /-- failures of replay of the sequence named: R244; reset none -/
  failures : Option (BitVec 16 × Nat)
  /-- sequence the receiver expects: R243; reset 0 -/
  rxNext : BitVec 16
  /-- a replay request is outstanding: R243; reset 0 -/
  wantReplay : Bool
  /-- credits per buffer set in use: R241; reset 0 -/
  credUsed : Tab Nat
  /-- freed counts last received: R241; reset 0 -/
  freedSeen : Tab Nat
  /-- freed counts of the own ingress: R240; reset 0 -/
  freed : Tab Nat
  /-- ingress buffer sets: R241; reset empty -/
  ingress : Tab (List NFlit)
  /-- channel and class of the packet being received: R238; reset none -/
  rxHead : Option (Nat × Bool)
  /-- staging buffers, in order of arrival: R242; reset empty -/
  staging : List Staged
  /-- a packet has begun and its remaining flits go first, channel and class: R242; reset none -/
  txHead : Option (Nat × Bool)
  /-- the buffer set that filled a slot last, for ties: R242; reset 0 -/
  turn : Nat
  /-- a status flit is due: R240; reset 0 -/
  statusDue : Bool
  /-- blocks sent since an unsequenced one: R239; reset 0 -/
  sinceFiller : Nat
  /-- time-sync flits to send: R271; reset empty -/
  syncOut : List (BitVec 192)
  /-- received status flits: R240; reset empty -/
  statusIn : List (BitVec 192)
  /-- received time-sync flits with receive stamp: R272; reset empty -/
  syncIn : List (BitVec 192 × Nat)
  /-- a good link-control flit came in the present 1 µs window: R255; reset 0 -/
  good : Bool
  /-- consecutive empty windows: R255; reset 0 -/
  empty : Nat
  /-- transmit scrambler state: R235; reset 0 DESIGN CHOICE (log 3) -/
  txScram : BitVec 58
  /-- receive descrambler state: R235; reset 0 DESIGN CHOICE (log 3) -/
  rxScram : BitVec 58
  /-- last FEC codeword count received: R245; reset 0 -/
  fecCount : BitVec 10
  /-- count of the next codeword sent: R245; reset 0 DESIGN CHOICE (log 3) -/
  fecNext : BitVec 10
  /-- blocks of the codeword being filled, oldest first, at most 4: R245; reset empty -/
  fecOut : List (BitVec 1026)
  /-- devices this port has entered in the absent map, kept until it reaches CONNECTED again: R256, R258; reset 0 -/
  absentSet : BitVec 1024
  /-- announce last heard: class, source device, hops, holdover: R266; reset none -/
  announced : Option (Nat × Nat × Nat × Bool)
  /-- port contained by a reaction: R301; reset 0 -/
  contained : Bool
  deriving DecidableEq, Repr

/-! ### Time -/

/-- The role of 0x2200:03 (Table 13.6). -/
inductive Role where
  | follower | master0 | master1 | backup | holdover | unlocked
  deriving DecidableEq, Repr

/-- The time base (R264 to R276). -/
structure TimeBase where
  /-- value in units of 2⁻³² ns: nanoseconds [95:32], visible fraction [31:16], hidden bits [15:0]: R264, Table 13.4; reset 0 -/
  value : BitVec 96
  /-- rate correction c (:06): R264; reset 0 -/
  c : Int
  /-- role (:03); reset unlocked -/
  role : Role
  /-- upstream port (:04): R266; reset none -/
  upstream : Option (BitVec 3)
  /-- last measured offset, ps (:05): R272; reset 0 -/
  offset : Int
  /-- last measured delay in stamp units: R272; reset 0 -/
  delay : Int
  /-- source device (:08); reset 0xFFFF -/
  source : Nat
  /-- class of the source followed or announced: R266; reset 2 DESIGN CHOICE (log 3) -/
  cls : Nat
  /-- hops (:09); reset 0 -/
  hops : Nat
  /-- consecutive exchanges within 2 ns: R268; reset 0 -/
  good : Nat
  /-- time lock reached: R268; reset 0 -/
  locked : Bool
  /-- a first exchange has stepped the counter: R268; reset 0 -/
  stepped : Bool
  /-- request outstanding: sequence and t1 in 2⁻¹⁶ ns: R272; reset none -/
  asked : Option (BitVec 8 × Nat)
  /-- sequence of the next request: R271; reset 0 -/
  seq : BitVec 8
  /-- responses discarded: R272; reset 0 -/
  lost : Nat
  /-- sequence of the last request given up, whose response has been counted already: R272; reset none -/
  gaveUp : Option (BitVec 8)
  /-- 10 MHz input: since when it is within tolerance, last edge, valid: R269; reset none -/
  ext10 : Option Nat
  ext10Last : Option Nat
  ext10Valid : Bool
  /-- PPS input: edges within tolerance, last edge, valid: R269; reset 0 -/
  pps : Nat
  ppsLast : Option Nat
  ppsValid : Bool
  /-- conflicting source (offset over 1 µs in LIVE): R268; reset none -/
  conflict : Option Nat
  /-- this part is a source, class 0 or 1: R266; reset 0 -/
  master : Bool
  /-- backup has taken over (class 2): R267; reset 0 -/
  takenOver : Bool
  deriving DecidableEq, Repr

/-! ### Power -/

/-- The states of a power domain (Table 14.7). -/
inductive DState where
  | live | quiesce | drain | isolate | off | power | restore | join
  deriving DecidableEq, Repr

/-- One power domain (R277 to R289). -/
structure Domain where
  /-- state (:01); reset LIVE -/
  state : DState
  /-- contained (:02); reset 0 -/
  contained : Bool
  /-- queued request (:04), 0 none; reset 0 -/
  queued : Nat
  /-- last accepted request (:03); reset 0 -/
  request : Nat
  /-- image lost (:05), clusters: R283; reset 0 -/
  imageLost : Bool
  /-- the sequence in progress ends in RESTORE, not OFF: R285; reset 0 -/
  resetting : Bool
  /-- a cancelled deflate awaits its flip back: R284; reset 0 -/
  cancelled : Bool
  /-- the flip of the sequence is in force: R279; reset 0 -/
  flipped : Bool
  /-- contained and neither back in service nor deflated since, so that the part is DEGRADED: R20, R285; reset 0 -/
  degrades : Bool
  deriving DecidableEq, Repr

/-! ### Dictionary, host, firmware -/

/-- A staged write (R328): index, sub-index, value, and for route entries router, table, entry (R334). -/
structure Stage where
  index : Nat
  sub : Nat
  route : Option (Nat × Nat × Nat)
  value : Nat
  deriving DecidableEq, Repr

/-- The transaction (Table 16.12). -/
structure Txn where
  /-- status (:02); reset 0 -/
  status : Nat
  /-- owner (:05); reset none -/
  owner : Option Path
  /-- staged objects in staging order (:06 counts them); reset empty -/
  staged : List Stage
  /-- last error (:07): code, index, sub-index; reset 0 -/
  error : Nat × Nat × Nat
  /-- sequence (:08): 16 bits; reset 0 -/
  seq : BitVec 16
  /-- the commit point (:03) as the accepted commit found it: R330; reset 0 -/
  point : Nat
  /-- the named flight went into or out of IDLE while pending: R331; reset 0 -/
  flightChanged : Bool
  deriving DecidableEq, Repr

/-- The outcome of a dictionary access as its path sees it (R314): path, abort code, bytes read. -/
structure Reply where
  path : Path
  abort : BitVec 32
  bytes : List (BitVec 8)
  deriving DecidableEq, Repr

/-- The mailbox registers (Table 16.3). -/
structure Mailbox where
  /-- MB_INDEX: 24 bits; reset 0 -/
  index : BitVec 32
  /-- MB_LEN; reset 0 -/
  len : BitVec 32
  /-- MB_OFFSET; reset 0 -/
  offset : BitVec 32
  /-- MB_STATUS busy, done, sequence; reset 0 -/
  busy : Bool
  done : Bool
  seq : BitVec 16
  /-- MB_ABORT; reset 0 -/
  abort : BitVec 32
  /-- MB_TOTAL; reset 0 -/
  total : BitVec 32
  /-- MB_DATA, 4,096 bytes by offset; reset not given: 0 DESIGN CHOICE (log 3) -/
  data : Tab Nat
  /-- write being collected: object key and bytes so far: R319; reset none -/
  collect : Option (Nat × List (BitVec 8))
  /-- image of the DOMAIN object being read: R319; reset none -/
  image : Option (Nat × List (BitVec 8))
  deriving DecidableEq, Repr

/-- One DMA channel (Table 17.5). -/
structure Dma where
  base : BitVec 64
  /-- log2 of entries; reset 1 -/
  size : BitVec 5
  head : BitVec 16
  tail : BitVec 16
  enable : Bool
  pause : Bool
  /-- 0 idle, 1 running, 2 paused, 3 error; reset 0 -/
  state : Nat
  error : Bool
  code : BitVec 4
  addr : BitVec 40
  completed : Nat
  deriving DecidableEq, Repr

/-- The PCI Express function and the host interface (chapter 17). -/
structure HostIf where
  mb : Mailbox
  /-- 8 DMA channels; reset per Table 17.5 -/
  dma : Vector Dma 8
  /-- APERTURE 0-14 bases: 35 bits; reset i x 2^29 -/
  aperture : Vector (BitVec 35) 15
  /-- MSI-X mask bits by vector: R340; reset all masked PRESUMED (PCI Express, log 6) -/
  unmasked : BitVec 64
  /-- MSI-X table entries, key 4 x vector + 0 address low, + 1 address high, + 2 data: 32 bits each, R336; reset 0 PRESUMED (PCI Express, log 6) -/
  msix : Tab Nat
  /-- bases that configuration software has written into BAR0, BAR2, BAR4: 64 bits each, R336; reset 0 PRESUMED (PCI Express, log 6) -/
  bars : Vector (BitVec 64) 3
  /-- MSI-X pending bits: R340; reset 0 -/
  pendingBits : BitVec 64
  /-- tick (1 µs) in which each vector was last sent (+1): R340; reset none -/
  sentTick : Tab Nat
  /-- link state (0x3500:01), generation and lanes; reset 0 -/
  link : Nat
  speed : BitVec 16
  /-- D3hot: R335; reset 0 -/
  d3hot : Bool
  /-- PERST_N is low: R345; reset 0 -/
  perst : Bool
  /-- AER records: uncorrectable internal error, unsupported request, poisoned TLP: R337, R339; reset 0 -/
  aer : BitVec 3
  /-- BOOT_STATUS [1:0]; reset 0 -/
  bootStatus : Nat
  /-- responses for the host interface: R347; reset empty -/
  rspIn : List Pkt
  deriving DecidableEq, Repr

/-- A dictionary access that waits while a firmware switch holds accesses (R354): a write, a read over CAN, a mailbox command, and a
mailbox write whose host interface has been reset, which is no longer reported (R347). -/
inductive Access where
  | write (path : Path) (index sub : Nat) (bytes : List (BitVec 8))
  | silent (index sub : Nat) (bytes : List (BitVec 8))
  | canRead (index sub : Nat)
  | mailbox (cmd : BitVec 32)
  deriving DecidableEq, Repr

/-- What a firmware switch defers to its end (R354): a halt request, an EMCY message, the root's stop of a MIRED flight, a sample of the
thermal policy. -/
inductive Deferred where
  | halt (f : Nat)
  | emcy (code src event : Nat)
  | stop (f reason : Nat)
  | sample (temps : List Int) (power : Nat) (clusterPower : List Nat)
  deriving DecidableEq, Repr

/-- The CAN port (R315 to R317). -/
structure Can where
  /-- NMT stop in force; reset 0 -/
  stopped : Bool
  /-- bit rates in force on the bus, as 0x2100:06: R321; reset 0x21 -/
  rates : Nat
  /-- segmented downloads that stand open, oldest first: object key and bytes so far: R315; reset empty -/
  transfers : List (Nat × List (BitVec 8))
  deriving DecidableEq, Repr

/-- One firmware slot of the logbook (chapter 17): its image bytes and 0 empty, 1 valid, 2 invalid, 3 being written. -/
structure FwSlot where
  state : Nat
  version : BitVec 32
  image : List (BitVec 8)
  deriving DecidableEq, Repr

/-- One copy of the non-volatile default area (R322): save count, CRC-32 stamp, saved values by object key. -/
structure NvCopy where
  count : BitVec 32
  crc : BitVec 32
  values : Tab Nat
  deriving DecidableEq, Repr

/-- Firmware, boot and non-volatile storage (R322, R352 to R355). -/
structure Firmware where
  slots : Vector FwSlot 2
  /-- preferred slot (0x2190:09); nv -/
  preferred : Bool
  /-- 0x2100:08: 0 A, 1 B, 2 host image, 3 peer image -/
  running : Nat
  /-- version of the running image (0x2100:09) -/
  version : BitVec 32
  /-- update status (0x2190:08); reset 0 -/
  update : Nat
  /-- image RAM in PCIe boot mode, byte offset to byte: R352; reset 0 -/
  ram : Tab Nat
  /-- boot mode (HI_STATE 7): R352; reset 0 -/
  bootMode : Bool
  /-- waiting for a peer image: R352; reset 0 -/
  peerBoot : Bool
  /-- the port whose partner the image is read from, and the words read so far: R352; reset none -/
  peerRead : Option (Nat × List Word)
  /-- ports whose partner delivered no valid image: R352; reset empty -/
  peerTried : List Nat
  /-- a switch is in progress, from the quiet point on: R354; reset 0 -/
  held : Bool
  /-- accesses held during a switch, in order of arrival: R354; reset empty -/
  heldAccesses : List Access
  /-- what the switch has deferred, in order: R354; reset empty -/
  deferred : List Deferred
  /-- the image of the switch failed its check or the core restarts, so that the old or preferred slot is run: R355; reset 0 -/
  reloading : Bool
  /-- times (ns) of the last watchdog expiries: R355; reset empty -/
  expiries : List Nat
  /-- the next save writes factory values: R322; reset 0 -/
  factoryNext : Bool
  /-- the two copies of the default area; kept -/
  nv : Vector NvCopy 2
  /-- the last time the seconds above 95 °C were written to the logbook: hour and count: R368; kept; factory 0 -/
  hot : Nat × Nat
  deriving DecidableEq, Repr

/-- Trace capture buffer b (R375). -/
structure TraceBuf where
  /-- write index (:02); reset 0 -/
  index : Nat
  /-- wrapped (:03); reset 0 -/
  wrapped : Bool
  /-- records written (:05); reset 0 -/
  written : Nat
  /-- records left to write after the marker (none: not triggered) -/
  left : Option Nat
  /-- stopped: R376; reset 0 -/
  stopped : Bool
  deriving DecidableEq, Repr

/-- The trace capture unit (R372 to R378). -/
structure Trace where
  /-- capture state (0x3600:02): 0 idle, 1 armed, 2 triggered, 3 stopped; reset 0 -/
  state : Nat
  bufs : Tab TraceBuf
  /-- records dropped (:05); reset 0 -/
  dropped : Nat
  /-- trigger time (:06); reset 0 -/
  time : Nat
  /-- firing trigger (:07); reset 0xFF -/
  firing : Nat
  deriving DecidableEq, Repr

/-- The instruction register of the TAP (Table 18.9). -/
inductive TapInstr where
  | extest | sample | idcode | clamp | highz | pulse | train | bypass
  deriving DecidableEq, Repr

/-- The TAP and boundary scan (R369 to R371). -/
structure Tap where
  /-- instruction in force; reset IDCODE PRESUMED (IEEE 1149.1, log 6) -/
  instr : TapInstr
  /-- boundary register as captured; reset empty -/
  captured : List Bool
  /-- boundary register as updated; reset empty -/
  cells : List Bool
  deriving DecidableEq, Repr

/-- The device states (Table 1.4). -/
inductive DevState where
  | off | reset | selftest | config | live | degraded
  deriving DecidableEq, Repr

/-- The management controller's requests to other devices and their messages, which travel port to port along tree edges
(R382); the manual gives no layout, so they stand as data. -/
inductive Service where
  | command (f root cmd arg : Nat)
  | completion (f : Nat) (refused : Bool)
  | haltReply (f highest : Nat)
  | haltEpoch (f h : Nat)
  | mired (f reason : Nat)
  | stop (f reason : Nat)
  | absence (f : Nat)
  | haltRequest (f : Nat)
  deriving DecidableEq, Repr

/-- What leaves the part, oldest first. -/
inductive Output where
  | service (port : Nat) (m : Service)
  | block (port : Nat) (bits : BitVec 1026)
  | codeword (port : Nat) (blocks : List (BitVec 1026)) (count : BitVec 10)
  | identity (port : Nat) (set : IdentitySet)
  | shutdownNotice (port : Nat)
  | trainingPattern (port : Nat)
  | msix (vector : Nat) (address : BitVec 64) (data : BitVec 32)
  | emcy (cobId : Nat) (code : Nat) (src : Nat) (event : Nat)
  | bootUp (nodeId : Nat)
  | heartbeat (nodeId : Nat) (state : Nat)
  | usdo (cobId : Nat) (abort : BitVec 32) (bytes : List (BitVec 8))
  | completion (bytes : List (BitVec 8))
  | completerAbort
  | unsupported
  | hostWrite (address : Nat) (words : List Word)
  | descriptorStatus (channel : Nat) (status : BitVec 4) (done : Nat)
  | epsPulse (i : Nat)
  | probeReport (words : List Word)
  | tdo (bits : BitVec 32)
  deriving DecidableEq, Repr

/-- The state of the part. -/
structure State where
  /-- the commands that wait, first in first out (the block's queue); reset empty -/
  pending : List Instr
  /-- device state (0x2100:04, Table 1.4): R19; reset OFF -/
  dev : DevState
  /-- start-up step in progress: 1 to 9 of Table 17.9, 10 at its end: R349; reset 1 -/
  startStep : Nat
  /-- the always-on region failed a check at start-up, so that the part stops at CONFIG: R350; reset 0 -/
  aonFailed : Bool
  /-- PORST_N is low: R345; reset 1 (asserted) -/
  porst : Bool
  /-- straps sampled (0x2100:03): R348; reset 0 DESIGN CHOICE (sampled at PORST_N rise, log 3) -/
  straps : Straps
  /-- device ID bits [9:4] adopted by discovery: R248; reset none -/
  upperId : Option (BitVec 6)
  /-- committed values of dictionary objects and counters, key 256 x index + sub: chapter 16; unlisted = the object's default -/
  objs : Tab Nat
  /-- retirement entries in force (0x2E90:04, Table 10.9): R207; kept in the logbook; factory none -/
  retired : List (BitVec 64)
  /-- resources still out of service after an unretire, until their domain's reset: R208; reset empty -/
  unretired : List (BitVec 64)
  /-- 512 engines; reset Engine.reset -/
  engines : Tab Engine
  /-- 32 clusters; reset Cluster.reset -/
  clusters : Tab Cluster
  /-- 32 flights; reset Flight.reset -/
  flights : Tab Flight
  /-- HBM lines as stored, line L to 256 bits: R183, R199; reset zero with good codes -/
  hbm : Tab Line
  /-- the stacks have lost their contents since start-up wrote them zero (R366): number of the free lines that stand there; reset none -/
  hbmGone : Option Nat
  /-- dredge laps on chip, by correction counter number of the bank: ns (+1) at which the pointer entered it, laps completed, ns of the last: R205;
  reset none -/
  chipLaps : Tab (Nat × Nat × Nat)
  /-- HBM request queues by stack: R189; reset empty -/
  hbmQ : Tab (List Pkt)
  /-- HBM dredge pointers by stack: R204; reset 0 DESIGN CHOICE (log 3) -/
  hbmDredge : Tab Nat
  /-- refresh doubled, by stack: R288; reset 0 -/
  hbmHot : Tab Nat
  /-- by region (64: none), the dredge lap in progress: ns of its entry, stacks that have left it, poisoned words seen: R205; reset none -/
  hbmLaps : Tab (Nat × BitVec 4 × Nat)
  /-- the on-chip network -/
  noc : Noc
  /-- bog front-end write buffer, 4,096 slots: R79; reset empty -/
  bogIn : List Flit
  /-- bog slots in use (always-on SRAM chains): R78; reset empty -/
  bog : List BogSlot
  /-- head and tail pointers of the 32,768 buckets, key 64 x engine + epoch mod 64: R78; reset empty -/
  bogChains : Tab BogChain
  /-- recompute requests addressed to unit code 0: R384; reset empty -/
  bogRecomp : List Flit
  /-- ACCEPTs and recompute requests that name no draw, discarded and counted: R384; reset 0 -/
  bogStray : Nat
  /-- responses for the units of the service router: R213; reset empty -/
  svcRsp : List Pkt
  /-- requests for the management controller: R352; reset empty -/
  svcReq : List Pkt
  /-- retire reports and distributions at the device waterline node, each with the router that injected it: R221; reset empty -/
  devIn : List (Flit × Nat)
  /-- probes under way with their reserved report buffers: R28; reset empty -/
  probes : List Probe
  /-- by word of always-on SRAM, how its stored group differs from a good one, key 2^32 x array + 4 x word + group: R192; arrays 0 the
  dictionary, 1 the bog controller, 2 + c interface c, 64 + k router k (assumption 86); reset 0 -/
  aon : Tab (BitVec 14)
  /-- the fault collector and logbook -/
  col : Collector
  /-- 8 peer ports; reset Port.reset -/
  ports : Tab Port
  /-- the time base -/
  time : TimeBase
  /-- 40 power domains; reset Domain.reset -/
  domains : Tab Domain
  /-- consecutive samples above the cap at the lowest ceilings: R288; reset 0 -/
  capSamples : Nat
  /-- last time-base second counted above 95 °C (+1): R368; reset none -/
  hotSecond : Nat
  /-- temperatures by sensor, 0.1 °C (0x2390 + s:01), as last sampled; reset none -/
  temps : List Int
  /-- package power, W (0x2380:05); reset 0 (reflects hardware state) -/
  power : Nat
  /-- HBM refresh doubled when a sensor reached 95 °C is hbmHot; thermal trip stands: R287, R303; reset 0 -/
  tripped : Bool
  /-- the transaction -/
  txn : Txn
  /-- the reply of the last dictionary access -/
  reply : Option Reply
  /-- the PCI Express function -/
  host : HostIf
  /-- the CAN port -/
  can : Can
  /-- firmware, boot and non-volatile storage -/
  fw : Firmware
  /-- the trace capture unit -/
  trace : Trace
  /-- the TAP -/
  tap : Tap
  /-- EPS backlogs: R275; reset 0 -/
  eps : Vector Nat 4
  /-- what has left the part, oldest first (the model's own record of outputs) -/
  outbox : List Output
  /-- number of free values used so far (the model's own, DESIGN CHOICE, log 5); reset 0 -/
  free : Nat
  deriving DecidableEq, Repr

/-- Why a step stops: nothing stops it. The manual gives every command an effect, and a command whose condition fails has none, as one
that names a unit the part does not have (assumptions 14 and 15). -/
inductive Fault where
  deriving DecidableEq, Repr

/-- Why a command is refused. -/
inductive Refusal where
  /-- raised by exec for a command whose meaning is not written; safe: nothing is claimed of it. -/
  | notModelled (mnemonic : String)
  deriving DecidableEq, Repr

/-! ### Reset values -/

/-- A segment at reset (Table 5.12). -/
def Segment.reset : Segment := { code := 0, outstanding := false, reported := true, tag := 0, space := 0, len := 0, dest := 63 }

/-- The loop registers with no level open. -/
def LoopRegs.reset : LoopRegs :=
  { ls := Vector.replicate 3 0, le := Vector.replicate 3 0, lc := Vector.replicate 3 0, lst := 0 }

/-- The pipeline after a reset of its cluster domain with an FP-control default of 0 (Table 5.1, R98). -/
def Core.reset : Core :=
  { a := 0, h := 0, x := 0, y := 0, b := 0, l := 0, c := 0, pc := 0, past := false, f := 0, loops := LoopRegs.reset, v := 0,
    ep := 0, fl := 0, win := 0, fsr := 0, tcause := 0, tpc := 0, tinfo := 0, tf := 0, mb := Vector.replicate 64 0,
    seg := Vector.replicate 4 Segment.reset, handler := false, delay := [], shadow := [], loopWrites := [], fpu := none,
    fpq := [], act := none, stopped := false, serial := 0 }

/-- The token unit after a reset. -/
def TokenUnit.reset : TokenUnit :=
  { view := 0, frames := 1, tether := 1, pay := none, start := none, store := [], slotMap := [], balances := [], next := [], last := [], slotWrong := [],
    offsets := [], slab := 0, count := 0, scanned := false, lur := 0, ready := [], waiting := [], order := 0, recomp := [], again := [], fired := [], unanswered := [],
    obligations := [], credits := 4096, ceiling := none, highest := 0, loopback := [], parts := [], trace := [], gap := false,
    stopped := false, reported := none }

/-- An engine after a reset of its cluster domain, every stored word zero (R283, Table 17.9). -/
def Engine.reset : Engine :=
  { core := Core.reset, tu := TokenUnit.reset, mem := [], corr := [], matchCorr := none, dredge := [], rspIn := [] }

/-- A cluster after reset. -/
def Cluster.reset : Cluster :=
  { store := [], corr := [], dredge := [], reqQ := [], turn := [], niIn := [], wnIn := [], wnReports := [], wnReported := none,
    clock := 3000, ceiling := 3000, phase := .idle, target := 0, idleSamples := 0 }

/-- The tether controller at rest. -/
def Tether.reset : Tether := { quiet := 0, suspended := 0, views := [], payout := none, inflow := 0 }

/-- A flight after reset (Table 4.1). -/
def Flight.reset : Flight :=
  { state := .idle, tether := 1, frames := 1, payPending := none, haltEpoch := 0, view := 0, becalmed := false, reason := 0,
    lost := false, holdoff := none, startEpoch := 0, hreq := none, agreed := false, haltWait := none, clusterReports := [],
    childReports := [], reported := none, cmd := none, tc := Tether.reset, boost := false, absence := false,
    peak := 0, snapshot := false }

/-- The network after reset. -/
def Noc.reset : Noc :=
  { bufs := [], inject := [], relay := [], cross := [], turn := [], discarded := [], syncUsed := [], linkUsed := [], follow := [], holder := [], asm := [], tokUsed := [], tokBack := [], poolUsed := [],
    poolSent := [], poolRecv := [], stageUsed := [], back := [], gen := false, drain := 0, oldRoutes := [], flipWanted := false,
    syncs := [], queueFixed := [] }

/-- A dual-clock queue after reset. -/
def CrossQ.reset : CrossQ := { entries := [], wr := 0, rd := 0, wrSeen := 0, rdSeen := 0 }

/-- The collector after reset with the logbook as the factory leaves it (R307). -/
def Collector.reset : Collector :=
  { detected := [], queues := [], taken := [], turn := 29, windows := [], promotedAt := [], alerts := [], record := 0, full := false, closed := 0,
    logQ := [], early := [], headKnown := false, head := 2 ^ 24 - 1, nextSeq := 0, ring := [], pinned := [], suppressed := 0, rate := (0, 0),
    emcyRate := (0, 0), errors := [], armed := false }

/-- A port after reset. -/
def Port.reset : Port :=
  { state := .disabled, retrain := false, rate := false, fec := false, partner := 0xFFFF, partnerPort := 0xFF, kind := 0, held := 0, identity := none,
    txSeq := 0, replay := [], resend := [], failures := none, rxNext := 0, wantReplay := false, credUsed := [], freedSeen := [],
    freed := [], ingress := [], rxHead := none, staging := [], txHead := none, turn := 0, statusDue := false, sinceFiller := 0, syncOut := [],
    statusIn := [], syncIn := [], good := false, empty := 0, txScram := 0, rxScram := 0, fecCount := 0, fecNext := 0, fecOut := [], absentSet := 0,
    announced := none, contained := false }

/-- The time base after reset (Table 13.4, Table 13.6). -/
def TimeBase.reset : TimeBase :=
  { value := 0, c := 0, role := .unlocked, upstream := none, offset := 0, delay := 0, source := 0xFFFF, cls := 2, hops := 0, good := 0,
    locked := false, stepped := false, asked := none, seq := 0, lost := 0, gaveUp := none, ext10 := none, ext10Last := none, ext10Valid := false,
    pps := 0, ppsLast := none, ppsValid := false, conflict := none, master := false, takenOver := false }

/-- A domain after reset (Table 14.7). -/
def Domain.reset : Domain :=
  { state := .live, contained := false, queued := 0, request := 0, imageLost := false, resetting := false, cancelled := false,
    flipped := false, degrades := false }

/-- The transaction object after reset (Table 16.12). -/
def Txn.reset : Txn := { status := 0, owner := none, staged := [], error := (0, 0, 0), seq := 0, point := 0, flightChanged := false }

/-- The mailbox after reset (Table 16.3). -/
def Mailbox.reset : Mailbox :=
  { index := 0, len := 0, offset := 0, busy := false, done := false, seq := 0, abort := 0, total := 0, data := [], collect := none,
    image := none }

/-- A DMA channel after reset (Table 17.5). -/
def Dma.reset : Dma :=
  { base := 0, size := 1, head := 0, tail := 0, enable := false, pause := false, state := 0, error := false, code := 0, addr := 0,
    completed := 0 }

/-- The host interface after reset (Tables 17.2, 17.3). -/
def HostIf.reset : HostIf :=
  { mb := Mailbox.reset, dma := Vector.replicate 8 Dma.reset, aperture := Vector.ofFn (fun i => BitVec.ofNat 35 (i.val * 2 ^ 29)),
    unmasked := 0, msix := [], bars := Vector.replicate 3 0, pendingBits := 0, sentTick := [], link := 0, speed := 0, d3hot := false, perst := false, aer := 0, bootStatus := 0,
    rspIn := [] }

/-- The CAN port after reset. -/
def Can.reset : Can := { stopped := false, rates := 0x21, transfers := [] }

/-- Firmware and non-volatile storage as the model takes them at first: slot A holds a valid image (assumption 7),
slot B is empty, and no defaults have been saved. -/
def Firmware.reset : Firmware :=
  { slots := #v[{ state := 1, version := 0, image := [] }, { state := 0, version := 0, image := [] }], preferred := false,
    running := 0, version := 0, update := 0, ram := [], bootMode := false, peerBoot := false, peerRead := none, peerTried := [], held := false, heldAccesses := [], deferred := [],
    reloading := false, expiries := [], factoryNext := false, nv := Vector.replicate 2 { count := 0, crc := 0, values := [] }, hot := (0, 0) }

/-- A trace buffer after reset. -/
def TraceBuf.reset : TraceBuf := { index := 0, wrapped := false, written := 0, left := none, stopped := false }

/-- The trace capture unit after reset (Table 19.2). -/
def Trace.reset : Trace := { state := 0, bufs := [], dropped := 0, time := 0, firing := 0xFF }

/-- The TAP after reset. -/
def Tap.reset : Tap := { instr := .idcode, captured := [], cells := [] }

/-- The straps before they are sampled. -/
def Straps.zero : Straps := { devid := 0, tmstr := false, tbkup := false, bootsrc := 0 }

/-- The part with its supplies present and PORST_N low: device state OFF, everything reset (R346, Table 1.4). -/
def State.reset : State :=
  { pending := [], dev := .off, startStep := 1, aonFailed := false, porst := true, straps := Straps.zero, upperId := none, objs := [], retired := [],
    unretired := [], engines := [], clusters := [], chipLaps := [],
    flights := [], hbm := [], hbmGone := none, hbmQ := [], hbmDredge := [], hbmHot := [], hbmLaps := [], noc := Noc.reset, bogIn := [], bog := [], bogChains := [], bogRecomp := [], bogStray := 0,
    svcRsp := [], svcReq := [], devIn := [], probes := [], aon := [], col := Collector.reset, ports := [], time := TimeBase.reset, domains := [],
    capSamples := 0, hotSecond := 0, temps := [], power := 0, tripped := false, txn := Txn.reset, reply := none, host := HostIf.reset,
    can := Can.reset, fw := Firmware.reset, trace := Trace.reset, tap := Tap.reset, eps := Vector.replicate 4 0, outbox := [],
    free := 0 }

end Sys2Proof.Machine
end

