-- ==== Sys2Proof/Machine/Flags.lean ====
section
/-! DEFINITION. Flag computations (R127, R128, R129, R153, R168): F as C [0], Z [1], N [2], O [3], D [4]. -/

namespace Sys2Proof.Machine

/-- F with C, Z, N, O replaced and D kept. -/
def setCZNO (f : BitVec 5) (c z n o : Bool) : BitVec 5 :=
  BitVec.ofBool (f.getLsbD 4) ++ BitVec.ofBool o ++ BitVec.ofBool n ++ BitVec.ofBool z ++ BitVec.ofBool c

/-- F with Z and N replaced, C, O and D kept. -/
def setZN (f : BitVec 5) (z n : Bool) : BitVec 5 := setCZNO f (f.getLsbD 0) z n (f.getLsbD 3)

/-- F with C, Z and N replaced, O and D kept. -/
def setCZN (f : BitVec 5) (c z n : Bool) : BitVec 5 := setCZNO f c z n (f.getLsbD 3)

/-- F of an addition a + m + cin (R127). -/
def flagsAdd (f : BitVec 5) (a m : Word) (cin : Bool) : BitVec 5 :=
  let r := a + m + (if cin then 1 else 0)
  setCZNO f (decide (2 ^ 36 ≤ a.toNat + m.toNat + (if cin then 1 else 0))) (r == 0) r.msb ((a.msb == m.msb) && (r.msb != a.msb))

/-- F of a subtraction a − m − cin (R127). -/
def flagsSub (f : BitVec 5) (a m : Word) (cin : Bool) : BitVec 5 :=
  let r := a - m - (if cin then 1 else 0)
  setCZNO f (decide (a.toNat < m.toNat + (if cin then 1 else 0))) (r == 0) r.msb ((a.msb != m.msb) && (r.msb != a.msb))

/-- F of a logical result (R127). -/
def flagsLogic (f : BitVec 5) (r : Word) : BitVec 5 := setZN f (r == 0) r.msb

/-- A shift's result and carry: the carry kept when k is 0 (R127). -/
def shlOut {w : Nat} (v : BitVec w) (k : Nat) (c : Bool) : BitVec w × Bool :=
  if k = 0 then (v, c) else (v <<< k, if k ≤ w then v.getLsbD (w - k) else false)

/-- Logical shift right (R127). -/
def shrOut {w : Nat} (v : BitVec w) (k : Nat) (c : Bool) : BitVec w × Bool :=
  if k = 0 then (v, c) else (v >>> k, if k ≤ w then v.getLsbD (k - 1) else false)

/-- Arithmetic shift right (R127). -/
def sarOut (v : Word) (k : Nat) (c : Bool) : Word × Bool :=
  if k = 0 then (v, c) else
    let j := min k 36
    (v.sshiftRight j, v.getLsbD (j - 1))

/-- Rotate left (R127). -/
def rolOut (v : Word) (k : Nat) (c : Bool) : Word × Bool :=
  if k = 0 then (v, c) else
    let r := v.rotateLeft (k % 36)
    (r, r.getLsbD 0)

/-- F of a comparison of FP numbers (Table 8.4): less, equal, unordered. -/
def flagsCompare (f : BitVec 5) (lt eq un : Bool) : BitVec 5 := setCZNO f un eq lt false

end Sys2Proof.Machine
end

