-- ==== Sys2Proof/Config.lean ====
section
/-! DEFINITION. What an implementation fixes and the free values: constants without a body, so no proof can see what they are. -/

namespace Sys2Proof.Config

/-- The free value number n of a counter or reading that the model does not follow: by how much the cycle counters
(0x3200 + g:0B and :11 to :19, 0x2210 + c:06) have advanced when they are read, as the model keeps no cycle times (assumption 4). -/
opaque freeCount : Nat → Nat

/-- What a logbook slot holds after a failed write number n (R310; assumption 5). -/
opaque freeEntry : Nat → BitVec 256

/-- What HBM line l holds after the loss of the stacks' contents number n (R366; assumption 5). -/
opaque freeLine : Nat → Nat → Line

/-- The serial number 0x1018:04, "const, per part" (Table 16.2). -/
opaque serialNumber : BitVec 32

/-- The subsystem IDs 0x3500:06, nv, whose factory value the manual does not give (Table 17.1). -/
opaque subsystemIds : Nat

/-- Measured asymmetry-free fixed latencies of a port's transmit path, in 2⁻¹⁶ ns, by port (R272). -/
opaque txLatency : Nat → Nat

/-- The part's frequency error, of which the manual gives the bound alone (Table 13.1; assumption 5). -/
opaque refclkError : Nat

/-- Version of the image in firmware slot A as shipped, and its bytes (chapter 17: the manual does not give them; assumption 7). -/
opaque factoryVersion : BitVec 32
opaque factoryByte : Nat → BitVec 8

/-- The queue index that a dual-clock queue's event names, by source and checker: the manual numbers no queues (R231, Table 15.2;
assumption 13). -/
opaque queueIndex : Nat → Nat → Nat

/-- Whether a queue's eight check bits, of three or more set, are the column of a stored bit: the manual gives no arrangement of the
code (R231; assumption 13). -/
opaque queueColumn : Nat → Bool

/-- Whether a result is rounded up in a reserved rounding code, which only the FP-control default can load (code, quotient,
remainder; assumption 11). -/
opaque reservedRoundUp : Nat → Nat → Nat → Bool

/-- Whether an overflow in a reserved rounding code delivers infinity (code, sign; assumption 11). -/
opaque reservedOverflow : Nat → Bool → Bool

end Sys2Proof.Config
end

