-- ==== Sys2Proof/Machine/Table.lean ====
section
/-! DEFINITION. Sparse tables: reading, storing in the canonical form, and the form itself. -/

namespace Sys2Proof.Machine

/-- What key `k` reads as, where an unlisted key reads as `d`. -/
def tget {α : Type} (d : α) : Tab α → Nat → α
  | [], _ => d
  | (k', v) :: t, k => if k' = k then v else tget d t k

/-- Key `k` listed with value `v`, the keys rising. -/
def tset {α : Type} (k : Nat) (v : α) : Tab α → Tab α
  | [] => [(k, v)]
  | (k', v') :: t => if k < k' then (k, v) :: (k', v') :: t else if k = k' then (k, v) :: t else (k', v') :: tset k v t

/-- Key `k` no longer listed. -/
def terase {α : Type} (k : Nat) : Tab α → Tab α
  | [] => []
  | (k', v') :: t => if k = k' then terase k t else (k', v') :: terase k t

/-- Key `k` stored with `v` in the canonical form: not listed when `v` is what the unlisted key reads as. -/
def tput {α : Type} [DecidableEq α] (d : α) (k : Nat) (v : α) (t : Tab α) : Tab α :=
  if v = d then terase k t else tset k v t

/-- Every key of the table is above `lo`, the keys rise strictly, and no entry equals what its key reads as unlisted. -/
def tabWfFrom {α : Type} [DecidableEq α] (d : Nat → α) : Option Nat → Tab α → Bool
  | _, [] => true
  | lo, (k, v) :: t => (match lo with | none => true | some l => decide (l < k)) && decide (v ≠ d k) && tabWfFrom d (some k) t

/-- The canonical form of a sparse table. -/
def tabWf {α : Type} [DecidableEq α] (d : Nat → α) (t : Tab α) : Bool := tabWfFrom d none t

/-- Every key of a list, put with the value `f` gives it. -/
def tputAll {α : Type} [DecidableEq α] (d : α) : List (Nat × α) → Tab α → Tab α
  | [], t => t
  | (k, v) :: l, t => tputAll d l (tput d k v t)

/-- The first element that satisfies `p`, and the list without it. -/
def takeFirst {α : Type} (p : α → Bool) : List α → Option (α × List α)
  | [] => none
  | a :: l => if p a then some (a, l) else
      match takeFirst p l with
      | none => none
      | some (b, l') => some (b, a :: l')

/-- The first element that satisfies `p` replaced by `f` of it. -/
def updFirst {α : Type} (p : α → Bool) (f : α → α) : List α → List α
  | [] => []
  | a :: l => if p a then f a :: l else a :: updFirst p f l

end Sys2Proof.Machine
end

