-- ==== Sys2Proof/Machine/Bits.lean ====
section
/-! DEFINITION. Bits, fields and codes: nonets and halves (R2), nets (R4), CRC codes (R37, R215, R236), the nonet code (R193, R194),
the HBM line code (R199 to R201), bytes on the dictionary paths (R313). -/

namespace Sys2Proof.Machine

/-! ### Fields -/

/-- Sign extension of a 12-bit address field to a word (R102). -/
def sext12 (a : BitVec 12) : Word := a.signExtend 36

/-- Nonet n of a word (R2). -/
def nonetOf (w : Word) (n : Nat) : BitVec 9 := w.extractLsb' (9 * n) 9

/-- Half h of a word (R2). -/
def halfOf (w : Word) (h : Nat) : BitVec 18 := w.extractLsb' (18 * h) 18

/-- Field [lo+len-1:lo] replaced. -/
def setField {n : Nat} (x : BitVec n) (lo len : Nat) (v : BitVec len) : BitVec n :=
  (x &&& ~~~((BitVec.allOnes len).zeroExtend n <<< lo)) ||| (v.zeroExtend n <<< lo)

/-- Word i of a vector (R5). -/
def vecWord (v : Vec) (i : Nat) : Word := v.extractLsb' (36 * i) 36

/-- Word i of a vector replaced. -/
def setVecWord (v : Vec) (i : Nat) (w : Word) : Vec := setField v (36 * i) 36 w

/-- The vector of the words f 0 to f 7. -/
def vecOf (f : Nat → Word) : Vec :=
  f 7 ++ f 6 ++ f 5 ++ f 4 ++ f 3 ++ f 2 ++ f 1 ++ f 0

/-- A bit vector whose bit i (i < n) is `f i`. -/
def bitsOf (n : Nat) (f : Nat → Bool) : BitVec n :=
  go n 0
where
  go : Nat → BitVec n → BitVec n
    | 0, acc => acc
    | i + 1, acc => go i (if f i then acc ||| (1#n <<< i) else acc)

/-- Number of i < n with `f i`. -/
def countTo (n : Nat) (f : Nat → Bool) : Nat :=
  match n with
  | 0 => 0
  | i + 1 => countTo i f + (if f i then 1 else 0)

/-- Whether some i < n has `f i`. -/
def anyTo (n : Nat) (f : Nat → Bool) : Bool :=
  match n with
  | 0 => false
  | i + 1 => f i || anyTo i f

/-- The least i of lo, lo+1, …, lo+n-1 with `f i`. -/
def firstFrom (n lo : Nat) (f : Nat → Bool) : Option Nat :=
  match n with
  | 0 => none
  | i + 1 => if f lo then some lo else firstFrom i (lo + 1) f

/-- Parity of the low 64 bits of a number. -/
def parity64 (x : BitVec 64) : Bool :=
  let x := x ^^^ (x >>> 32)
  let x := x ^^^ (x >>> 16)
  let x := x ^^^ (x >>> 8)
  let x := x ^^^ (x >>> 4)
  let x := x ^^^ (x >>> 2)
  let x := x ^^^ (x >>> 1)
  x.getLsbD 0

/-! ### CRC codes -/

/-- The remainder after bits i-1 down to 0 of x, taken high bit first. -/
def crcBits {w n : Nat} (poly : BitVec w) (x : BitVec n) : Nat → BitVec w → BitVec w
  | 0, c => c
  | i + 1, c =>
    let fb := c.getLsbD (w - 1) != x.getLsbD i
    let c' := c <<< 1
    crcBits poly x i (if fb then c' ^^^ poly else c')

/-- CRC-8 of a token's bits [87:0] (R37). -/
def crc8Token (t : BitVec 96) : BitVec 8 := crcBits 0x07#8 t 88 0

/-- CRC-8 of R37 over the low n bits of x. -/
def crc8Over {n : Nat} (x : BitVec n) : BitVec 8 := crcBits 0x07#8 x n 0

/-- A token with its CRC-8 written (R37). -/
def sealToken (t : BitVec 96) : BitVec 96 := setField t 88 8 (crc8Token t)

/-- CRC-12 over the low n bits of a flit (R215). -/
def crc12 {n : Nat} (len : Nat) (x : BitVec n) : BitVec 12 := crcBits 0x80F#12 x len 0

/-- CRC-32 of a link block over bits [991:0] (R236). -/
def crc32Block (b : BitVec 1024) : BitVec 32 := crcBits 0x04C11DB7#32 b 992 0xFFFFFFFF#32

/-- CRC-32 of R236 continued over bytes, each high bit first. -/
def crc32Bytes : List (BitVec 8) → BitVec 32 → BitVec 32
  | [], c => c
  | b :: l, c => crc32Bytes l (crcBits 0x04C11DB7#32 b 8 c)

/-! ### The control field -/

/-- Parity bit i: the even parity of field bits j in [87:0] with j mod 8 = i (Table 2.5). -/
def ctlParity (c : BitVec 96) : BitVec 8 :=
  (List.range 11).foldl (fun p k => p ^^^ c.extractLsb' (8 * k) 8) 0

/-- A control field with its parity written (R39). -/
def sealCtl (c : BitVec 96) : BitVec 96 := setField c 88 8 (ctlParity c)

/-! ### The nonet code -/

/-- Virtual bits a0 and a1 of nonet n at a cell address (R193). -/
def virtualBits (adr n : Nat) : Bool × Bool :=
  let x := BitVec.ofNat 64 adr
  (parity64 (x &&& 0x5555555555555555#64) != (n % 2 == 1), parity64 (x &&& 0xAAAAAAAAAAAAAAAA#64) != (n / 2 % 2 == 1))

/-- Check bits c3 to c0 of a nonet (R193). -/
def checkBits (adr n : Nat) (d : BitVec 9) : BitVec 4 :=
  let (a0, a1) := virtualBits adr n
  let b := fun i => d.getLsbD i
  let c0 := b 0 ^^ b 1 ^^ b 3 ^^ b 4 ^^ b 6 ^^ b 8 ^^ a1
  let c1 := b 0 ^^ b 2 ^^ b 3 ^^ b 5 ^^ b 6 ^^ a0 ^^ a1
  let c2 := b 1 ^^ b 2 ^^ b 3 ^^ b 7 ^^ b 8 ^^ a0 ^^ a1
  let c3 := b 4 ^^ b 5 ^^ b 6 ^^ b 7 ^^ b 8 ^^ a0 ^^ a1
  BitVec.ofBool c3 ++ BitVec.ofBool c2 ++ BitVec.ofBool c1 ++ BitVec.ofBool c0

/-- Parity of a nonet, its virtual bits and its check bits c0 to c3. -/
def nonetParity (adr n : Nat) (g : BitVec 13) : Bool :=
  let (a0, a1) := virtualBits adr n
  parity64 (g.zeroExtend 64) ^^ a0 ^^ a1

/-- The stored group of a nonet (Table 10.1). -/
def encodeNonet (adr n : Nat) (d : BitVec 9) : BitVec 14 :=
  let low := checkBits adr n d ++ d
  BitVec.ofBool (nonetParity adr n low) ++ low

/-- Outcomes of a group's check (Table 10.3). -/
inductive CodeOut where
  | clean
  | single (pos : Nat)
  | decoder
  | double
  deriving DecidableEq, Repr

/-- Syndrome S and parity P of a stored group (R194). -/
def syndrome (adr n : Nat) (g : BitVec 14) : BitVec 4 × Bool :=
  let d := g.extractLsb' 0 9
  (checkBits adr n d ^^^ g.extractLsb' 9 4, nonetParity adr n (g.extractLsb' 0 13) ^^ g.getLsbD 13)

/-- Table 10.3. -/
def classify (s : BitVec 4) (p : Bool) : CodeOut :=
  match p, s.toNat with
  | false, 0 => .clean
  | true, 0 => .single 0
  | true, 14 => .decoder
  | true, 15 => .decoder
  | true, k => .single k
  | false, _ => .double

/-- The bit of a stored group that stands at a Hamming position (R193; position 0 stands for c4). -/
def positionBit (pos : Nat) : Nat :=
  match pos with
  | 0 => 13 | 1 => 9 | 2 => 10 | 3 => 0 | 4 => 11 | 5 => 1 | 6 => 2 | 7 => 3 | 8 => 12
  | k => k - 5

/-- A stored group with the bit at a position inverted. -/
def flipPosition (g : BitVec 14) (pos : Nat) : BitVec 14 := g ^^^ (1#14 <<< positionBit pos)

/-- The patterns of R206 for the group of a nonet at an address: clean; every stored bit inverted, correctable at its position; every two,
a double error; an address whose hash differs in a0 or a1, a decoder fault. -/
def nonetPatterns (adr n : Nat) (d : BitVec 9) : Bool :=
  let g := encodeNonet adr n d
  let out := fun (a : Nat) (x : BitVec 14) => classify (syndrome a n x).1 (syndrome a n x).2
  out adr g == .clean &&
  (List.range 14).all (fun p => out adr (flipPosition g p) == .single p) &&
  (List.range 14).all (fun p => (List.range p).all (fun q => out adr (flipPosition (flipPosition g p) q) == .double)) &&
  out (adr ^^^ 1) g == .decoder && out (adr ^^^ 2) g == .decoder

/-- Group n of a stored word or entry. -/
def groupOf {w : Nat} (s : BitVec w) (n : Nat) : BitVec 14 := s.extractLsb' (14 * n) 14

/-- A word as stored at a cell address (R192, R198). -/
def encodeWord (adr : Nat) (w : Word) : Stored :=
  encodeNonet adr 3 (nonetOf w 3) ++ encodeNonet adr 2 (nonetOf w 2) ++ encodeNonet adr 1 (nonetOf w 1) ++ encodeNonet adr 0 (nonetOf w 0)

/-- The data bits of a stored word, uncorrected. -/
def dataOf (s : Stored) : Word :=
  s.extractLsb' 42 9 ++ s.extractLsb' 28 9 ++ s.extractLsb' 14 9 ++ s.extractLsb' 0 9

/-- A matching entry as stored at an index (Table 3.2): value, present, mark. -/
def encodeEntry (ix : Nat) (value : Word) (present mark : Bool) : StoredEntry :=
  encodeNonet ix 4 (0#7 ++ BitVec.ofBool mark ++ BitVec.ofBool present) ++ encodeWord ix value

/-- The data bits of a stored matching entry: value, present, mark. -/
def entryData (s : StoredEntry) : Word × Bool × Bool :=
  (dataOf (s.extractLsb' 0 56), s.getLsbD 56, s.getLsbD 57)

/-- Outcome of one group, and the group corrected. -/
def checkGroup (adr n : Nat) (g : BitVec 14) : CodeOut × BitVec 14 :=
  let (s, p) := syndrome adr n g
  match classify s p with
  | .single pos => (.single pos, flipPosition g pos)
  | o => (o, g)

/-! ### The HBM line code -/

/-- The address fold of line L (R200). -/
def foldOf (l : Nat) : BitVec 10 :=
  BitVec.ofNat 10 l ^^^ BitVec.ofNat 10 (l / 2 ^ 10) ^^^ BitVec.ofNat 10 (l / 2 ^ 20) ^^^ BitVec.ofNat 10 (l / 2 ^ 30 % 8)

/-- Hamming position of information bit i of a pair: 3 to 91, powers of two left out (R200). -/
def infoPos (i : Nat) : Nat :=
  if i < 1 then 3 else if i < 4 then i + 4 else if i < 11 then i + 5 else if i < 26 then i + 6 else if i < 57 then i + 7 else i + 8

/-- XOR of the positions of the set information bits below i, and their parity. -/
def infoFold (x : BitVec 84) : Nat → BitVec 7 × Bool
  | 0 => (0, false)
  | i + 1 =>
    let (s, p) := infoFold x i
    if x.getLsbD i then (s ^^^ BitVec.ofNat 7 (infoPos i), !p) else (s, p)

/-- The check byte of a pair: Hamming check bits [6:0], overall parity [7] (R200). -/
def pairCheck (pair : BitVec 72) (poison : BitVec 2) (f : BitVec 10) : BitVec 8 :=
  let (s, p) := infoFold (f ++ poison ++ pair) 84
  BitVec.ofBool (p ^^ parity64 (s.zeroExtend 64)) ++ s

/-- Pair p (0 to 2) of a line. -/
def linePair (x : Line) (p : Nat) : BitVec 72 := x.extractLsb' (72 * p) 72

/-- Word i (0 to 5) of a line (R183). -/
def lineWord (x : Line) (i : Nat) : Word := x.extractLsb' (36 * i) 36

/-- Check byte of pair p as stored (Table 10.6). -/
def lineCheck (x : Line) (p : Nat) : BitVec 8 := x.extractLsb' (216 + 10 * p) 8

/-- Poison bits of pair p as stored (Table 10.6). -/
def linePoison (x : Line) (p : Nat) : BitVec 2 := x.extractLsb' (224 + 10 * p) 2

/-- Word i is poisoned (Table 10.6). -/
def wordPoisoned (x : Line) (i : Nat) : Bool := (linePoison x (i / 2)).getLsbD (i % 2)

/-- A line with good codes for L (Table 10.6). -/
def encodeLine (l : Nat) (data : BitVec 216) (poison : BitVec 6) : Line :=
  let f := foldOf l
  let q := fun p => poison.extractLsb' (2 * p) 2
  let c := fun p => pairCheck (data.extractLsb' (72 * p) 72) (q p) f
  f ++ q 2 ++ c 2 ++ q 1 ++ c 1 ++ q 0 ++ c 0 ++ data

/-- A line of zeros with good codes. -/
def zeroLine (l : Nat) : Line := encodeLine l 0 0

/-- Outcomes of a line's read (R201). -/
inductive LineOut where
  | clean | correctable | uncorrectable | addressFault
  deriving DecidableEq, Repr

/-- A pair's syndrome against its check byte: Hamming part and overall parity (R201, as Table 10.3). -/
def pairSyndrome (x : Line) (p : Nat) (f : BitVec 10) : BitVec 7 × Bool :=
  let (s, q) := infoFold (f ++ linePoison x p ++ linePair x p) 84
  let c := lineCheck x p
  (s ^^^ c.extractLsb' 0 7, q ^^ parity64 (c.zeroExtend 64))

/-- Outcome of one pair: 0 clean, 1 single, 2 double, 3 a fold position; and the position of the single error. -/
def pairOut (x : Line) (p : Nat) (f : BitVec 10) : Nat × Nat :=
  let (s, q) := pairSyndrome x p f
  let k := s.toNat
  match q, k with
  | false, 0 => (0, 0)
  | true, 0 => (1, 0)
  | true, _ => if 81 < k ∧ k ≤ 91 then (3, k) else if k ≤ 91 then (1, k) else (2, k)
  | false, _ => (2, k)

/-- Number of bits in which two folds differ. -/
def foldDiff (a b : BitVec 10) : Nat := countTo 10 (fun i => (a ^^^ b).getLsbD i)

/-- Classification of a line read at L (R201). -/
def lineOut (l : Nat) (x : Line) : LineOut :=
  let f := foldOf l
  let o := fun p => (pairOut x p f).1
  let d := foldDiff f (x.extractLsb' 246 10)
  if o 0 = 3 ∨ o 1 = 3 ∨ o 2 = 3 ∨ 2 ≤ d then .addressFault
  else if o 0 = 2 ∨ o 1 = 2 ∨ o 2 = 2 then .uncorrectable
  else if o 0 = 1 ∨ o 1 = 1 ∨ o 2 = 1 ∨ d = 1 then .correctable
  else .clean

/-- The information bit that stands at a Hamming position, if one does. -/
def infoAt (pos : Nat) : Option Nat := firstFrom 84 0 (fun i => infoPos i == pos)

/-- Data and poison of pair p with a single error corrected. -/
def pairFixed (x : Line) (p : Nat) (f : BitVec 10) : BitVec 72 × BitVec 2 :=
  match pairOut x p f with
  | (1, pos) =>
    match infoAt pos with
    | some i =>
      if i < 72 then (linePair x p ^^^ (1#72 <<< i), linePoison x p)
      else if i < 74 then (linePair x p, linePoison x p ^^^ (1#2 <<< (i - 72)))
      else (linePair x p, linePoison x p)
    | none => (linePair x p, linePoison x p)
  | _ => (linePair x p, linePoison x p)

/-- A correctable line corrected (R201). -/
def fixLine (l : Nat) (x : Line) : Line :=
  let f := foldOf l
  let a := pairFixed x 0 f
  let b := pairFixed x 1 f
  let c := pairFixed x 2 f
  encodeLine l (c.1 ++ b.1 ++ a.1) (c.2 ++ b.2 ++ a.2)

/-- Stack of line L (R184). -/
def stackOf (l : Nat) : Nat := l / 8 % 4

/-- Pseudo-channel, bank and row of line L within its stack (R184). -/
def placeOf (l : Nat) : Nat × Nat × Nat :=
  let m := 8 * (l / 32) + l % 8
  let q := m / 256
  (m / 8 % 32, q / 4 % 48, q / 192)

/-! ### Bytes -/

/-- The value of bytes, least significant first (R313). -/
def bytesToNat : List (BitVec 8) → Nat
  | [] => 0
  | b :: l => b.toNat + 256 * bytesToNat l

/-- n bytes of a value, least significant first (R313). -/
def natToBytes : Nat → Nat → List (BitVec 8)
  | 0, _ => []
  | n + 1, v => BitVec.ofNat 8 v :: natToBytes n (v / 256)

/-- Saturating increment at 2^w - 1. -/
def satInc (w v : Nat) : Nat := if v + 1 < 2 ^ w then v + 1 else 2 ^ w - 1

end Sys2Proof.Machine
end

