-- ==== Sys2Proof/Machine/Objects.lean ====
section
/-! DEFINITION. The object dictionary's table of objects: class, type width, range and default of each (R11, R313, R320,
Tables 16.2, 16.6 to 16.13 and the tables they name). -/

namespace Sys2Proof.Machine

/-- Access classes (Table 0.5). -/
inductive Cls where
  | const | ro | wo | rw | tx | lv
  deriving DecidableEq, Repr

/-- One object: class, length in bytes (for a DOMAIN of varying length, its longest), DOMAIN or string, number of usable bits,
range, default, non-volatile. -/
structure ObjInfo where
  cls : Cls
  bytes : Nat
  domain : Bool
  bits : Nat
  ok : Nat → Bool
  dflt : Nat
  nv : Bool

/-- An unsigned object of n bytes whose whole range is allowed. -/
def uN (n : Nat) (c : Cls) (d : Nat) : Option ObjInfo :=
  some { cls := c, bytes := n, domain := false, bits := 8 * n, ok := fun _ => true, dflt := d, nv := false }

/-- A BOOLEAN. -/
def bool1 (c : Cls) (d : Nat) : Option ObjInfo :=
  some { cls := c, bytes := 1, domain := false, bits := 1, ok := fun _ => true, dflt := d, nv := false }

/-- A DOMAIN or string of n bytes. -/
def domN (n : Nat) (c : Cls) (d : Nat) : Option ObjInfo :=
  some { cls := c, bytes := n, domain := true, bits := 8 * n, ok := fun _ => true, dflt := d, nv := false }

/-- The object with a range. -/
def within (p : Nat → Bool) (o : Option ObjInfo) : Option ObjInfo := o.map (fun i => { i with ok := p })

/-- The object with a non-volatile default. -/
def nvDefault (o : Option ObjInfo) : Option ObjInfo := o.map (fun i => { i with nv := true })

/-- A range lo to hi. -/
def span (lo hi v : Nat) : Bool := decide (lo ≤ v) && decide (v ≤ hi)

/-- Powers of two from 1 to 32. -/
def pow2to32 (v : Nat) : Bool := v == 1 || v == 2 || v == 4 || v == 8 || v == 16 || v == 32

/-- A clock setting: 1,000 to 3,000 MHz in 125 MHz steps (R13). -/
def clockSetting (v : Nat) : Bool := span 1000 3000 v && v % 125 == 0

/-- A 16-bit two's complement value within ± n. -/
def within16 (n v : Nat) : Bool := decide (v ≤ n) || span (65536 - n) 65535 v

/-- The sentinel of an object that has not been written and follows another value (0x1014, 0x2240:01, 0x3500:06). -/
def unwritten : Nat := 2 ^ 40

/-- "AVZ5120-H144" as bytes, first character lowest. -/
def orderingCode : Nat := 0x3434_3148_2D30_3231_355A_5641

/-- "B0" as bytes. -/
def steppingString : Nat := 0x3042

/-- CiA 1301 objects (Table 16.2). -/
def objCia (ix sub : Nat) : Option ObjInfo :=
  match ix, sub with
  | 0x1000, 0 => uN 4 .const 0
  | 0x1001, 0 => uN 1 .ro 0
  | 0x1003, 0 => within (fun v => v == 0) (uN 4 .rw 0)
  | 0x1003, k => if k ≤ 0x10 then uN 4 .ro 0 else none
  | 0x1014, 0 => uN 4 .rw unwritten
  | 0x1017, 0 => nvDefault (uN 2 .rw 100)
  | 0x1018, 1 => uN 4 .const 0x0041_5657
  | 0x1018, 2 => uN 4 .const 0x0005_1200
  | 0x1018, 3 => uN 4 .const 0x0002_0000
  | 0x1018, 4 => uN 4 .const 0
  | _, _ => none

/-- Transactions, identity, non-volatile defaults, firmware (Tables 16.6, 16.7, 16.12, 16.13, 17.10). A value other than the one named for
:01, :02 of 0x2180 and :06 of 0x2190 is refused with 0x0609_0030, which the manual does not say (DESIGN CHOICE, assumption 101). -/
def objManage (ix sub : Nat) : Option ObjInfo :=
  match ix, sub with
  | 0x2000, 1 => within (fun v => v / 256 % 256 == 0) (uN 4 .wo 0)
  | 0x2000, 2 => uN 1 .ro 0
  | 0x2000, 3 => within (fun v => v / 2 ^ 53 % 1024 == 0) (uN 8 .rw 0)
  | 0x2000, 4 => within (span 100 600000) (uN 4 .rw 10000)
  | 0x2000, 5 => uN 1 .ro 0
  | 0x2000, 6 => uN 2 .ro 0
  | 0x2000, 7 => uN 8 .ro 0
  | 0x2000, 8 => uN 2 .ro 0
  | 0x2030, 1 => within (span 0 45) (uN 1 .lv 0)
  | 0x2030, 2 => within (span 1 3) (uN 1 .lv 0)
  | 0x2030, 3 => within (span 0 1023) (uN 2 .lv 0)
  | 0x2030, 4 => uN 8 .tx 0
  | 0x2100, 1 => domN 12 .const orderingCode
  | 0x2100, 2 => domN 2 .const steppingString
  | 0x2100, 3 => uN 2 .ro 0
  | 0x2100, 4 => uN 1 .ro 0
  | 0x2100, 5 => uN 1 .ro 0
  | 0x2100, 6 => nvDefault (within (fun v => decide (v % 16 ≤ 2) && span 1 3 (v / 16)) (uN 1 .tx 0x21))
  | 0x2100, 7 => nvDefault (within (span 0 6) (uN 1 .tx 0))
  | 0x2100, 8 => uN 1 .ro 0
  | 0x2100, 9 => uN 4 .ro 0
  | 0x2100, 0xF => within (fun v => v == 0xA5) (uN 1 .wo 0)
  | 0x2180, 1 => within (fun v => v == 1) (uN 1 .wo 0)
  | 0x2180, 2 => within (fun v => v == 1) (uN 1 .wo 0)
  | 0x2180, 3 => uN 4 .ro 0
  | 0x2190, 1 => domN (2 ^ 23) .wo 0
  | 0x2190, 2 => uN 1 .ro 0
  | 0x2190, 3 => uN 1 .ro 0
  | 0x2190, 4 => uN 4 .ro 0
  | 0x2190, 5 => uN 4 .ro 0
  | 0x2190, 6 => within (fun v => v == 1) (uN 1 .wo 0)
  | 0x2190, 7 => nvDefault (bool1 .lv 1)
  | 0x2190, 8 => uN 1 .ro 0
  | 0x2190, 9 => uN 1 .ro 0
  | _, _ => none

/-- Clocks, time base, domains, thermal (Tables 13.6, 14.7, R368). A value other than 0 to 0x2230 + i:04 is refused with 0x0609_0030, which the
manual does not say (DESIGN CHOICE, assumption 101). -/
def objClock (ix sub : Nat) : Option ObjInfo :=
  if ix = 0x2200 then
    match sub with
    | 1 => uN 8 .ro 0 | 2 => uN 2 .ro 0 | 3 => uN 1 .ro 5 | 4 => uN 1 .ro 0xFF | 5 => uN 4 .ro 0 | 6 => uN 4 .ro 0
    | 7 => uN 8 .lv 0 | 8 => uN 2 .ro 0xFFFF | 9 => uN 1 .ro 0 | 0xA => uN 1 .ro 0 | 0xB => nvDefault (bool1 .tx 0)
    | _ => none
  else if ix ≤ 0x220F then (if sub = 1 ∧ 0x2208 ≤ ix then within (within16 10000) (uN 2 .lv 0) else none)
  else if ix ≤ 0x222F then
    match sub with
    | 1 => uN 2 .ro 3000 | 2 => within clockSetting (uN 2 .lv 3000) | 3 => uN 2 .ro 3000 | 4 => uN 4 .ro 0 | 5 => uN 4 .ro 0
    | 6 => uN 8 .ro 0 | _ => none
  else if ix ≤ 0x2233 then
    match sub with
    | 1 => within (fun v => decide (v < 32) || v == 0xFF) (uN 1 .lv 0xFF) | 2 => within (span 0 15) (uN 1 .lv 0) | 3 => uN 2 .ro 0
    | 4 => within (fun v => v == 0) (bool1 .rw 0) | _ => none
  else if ix = 0x2240 then (if sub = 1 then bool1 .lv unwritten else none)
  else if ix < 0x2300 then none
  else if ix ≤ 0x2327 then
    match sub with
    | 1 => uN 1 .ro 0 | 2 => bool1 .ro 0 | 3 => within (span 1 3) (uN 1 .lv 0) | 4 => uN 1 .ro 0 | 5 => bool1 .ro 0 | 6 => uN 4 .ro 0
    | _ => none
  else if ix = 0x2380 then
    match sub with
    | 1 => within (span 100 560) (uN 2 .lv 560) | 2 => within (span 60 99) (uN 1 .lv 90) | 3 => uN 1 .lv 85 | 4 => uN 2 .lv 20
    | 5 => uN 2 .ro 0 | 6 => nvDefault (uN 4 .ro 0) | _ => none
  else if 0x2390 ≤ ix ∧ ix < 0x2390 + 46 then (if sub = 1 then uN 2 .ro 0 else none)
  else none

/-- Engines and clusters (Tables 16.8, 16.9). -/
def objEngine (ix sub : Nat) : Option ObjInfo :=
  if ix < 0x2600 then
    match sub with
    | 1 => within (span 0 16383) (uN 2 .tx 0) | 2 => uN 4 .tx 0x18000 | 3 => uN 4 .tx 0x18000 | 4 => uN 4 .tx 0x18000
    | 5 => within (span 1 32) (uN 1 .tx 1) | 6 => uN 2 .ro 0 | 7 => bool1 .ro 0 | 8 => uN 8 .ro 0 | 9 => uN 1 .ro 0
    | 0xA => uN 2 .ro 4096 | 0xB => bool1 .ro 0 | 0xC => bool1 .ro 0
    | 0x10 => nvDefault (uN 2 .tx 0)
    | _ => none
  else if ix < 0x2620 then
    match sub with
    | 1 => uN 1 .ro 0xFF | 2 => within (span 0 4) (uN 1 .tx 0) | 3 => uN 1 .ro 0 | 4 => uN 1 .ro 0 | _ => none
  else none

/-- Flights, tether, lull watch (Tables 4.1, 4.4, R84). -/
def objFlight (ix sub : Nat) : Option ObjInfo :=
  if ix < 0x2820 then
    match sub with
    | 1 => uN 1 .ro 0 | 2 => uN 4 .tx 0 | 3 => within pow2to32 (uN 1 .tx 8) | 4 => within (span 1 16384) (uN 2 .tx 2048)
    | 5 => uN 1 .ro 0 | 6 => within (span 0 (2 ^ 48 - 1)) (uN 8 .tx 0) | 7 => within (span 1 6) (uN 1 .tx 0)
    | 8 => within (fun v => decide (v < 2 ^ 48) || v == 2 ^ 64 - 1) (uN 8 .tx 0) | 9 => uN 8 .ro 0 | 0xA => uN 8 .ro 0
    | 0xB => within (span 1000 1000000) (uN 4 .lv 10000) | 0xC => within (span 0 1023) (uN 2 .tx 0)
    | 0xD => within (fun v => decide (v < 8) || v == 0xFF) (uN 1 .tx 0xFF) | 0xE => uN 1 .tx 0 | 0x10 => uN 1 .ro 0
    | 0x11 => uN 1 .ro 0 | 0x12 => bool1 .ro 0 | _ => none
  else if ix < 0x2840 then
    match sub with
    | 1 => within pow2to32 (uN 1 .lv 1) | 2 => uN 1 .lv 75 | 3 => uN 1 .lv 25 | 4 => uN 4 .lv 4096 | 5 => uN 4 .lv 256
    | 6 => within (span 1 255) (uN 1 .lv 8) | 7 => within clockSetting (uN 2 .lv 2000) | 8 => bool1 .lv 1 | 9 => bool1 .lv 1
    | _ => none
  else if ix < 0x2860 then
    match sub with
    | 1 => within (span 10 10000000) (uN 4 .lv 1000) | 2 => within (span 10 100000000) (uN 4 .lv 10000) | 3 => bool1 .lv 1
    | _ => none
  else none

/-- Identity engine map of cluster router k: byte 0 the logical cluster, byte 1 + i the physical engine of logical engine i
(the manual gives the DOMAIN no layout; assumption 8). -/
def identityMap (k : Nat) : Nat := k + 256 * 0x0F0E0D0C0B0A09080706050403020100

/-- Network, peer ports (Tables 11.8, 12.7, 12.8). -/
def objNet (ix sub : Nat) : Option ObjInfo :=
  if ix = 0x2A00 then
    match sub with
    | 1 => uN 1 .ro 0 | 2 => uN 1 .ro 0 | 3 => uN 4 .ro 0 | 4 => uN 4 .ro 0 | _ => none
  else if ix = 0x2A01 then (if 1 ≤ sub ∧ sub ≤ 4 then within (span 1000 1000000) (uN 4 .lv 100000) else none)
  else if 0x2A40 ≤ ix ∧ ix ≤ 0x2A6D then
    match sub with
    | 1 => domN 256 .tx 0 | 2 => domN 8192 .tx 0 | 3 => domN 64 .tx 0 | 4 => uN 1 .tx 0x3F
    | 5 => if ix < 0x2A60 then domN 17 .tx (identityMap (ix - 0x2A40)) else none
    | _ => none
  else if ix = 0x2C00 then
    match sub with
    | 1 => uN 2 .ro 0 | 2 => nvDefault (within (span 0 1) (uN 1 .tx 0))
    | 3 => nvDefault (within (fun v => decide (v < 64) || v == 0xFF) (uN 1 .tx 0xFF)) | 4 => uN 1 .tx 0x0F | 5 => domN 128 .tx 0
    | 6 => domN 128 .ro 0 | _ => none
  else if 0x2C20 ≤ ix ∧ ix ≤ 0x2C27 then
    match sub with
    | 1 => uN 1 .ro 0 | 2 => bool1 .lv 1 | 3 => within (span 0 1) (uN 1 .tx 0) | 4 => bool1 .tx 0 | 5 => uN 2 .ro 0xFFFF
    | 6 => uN 1 .ro 0xFF | 7 => uN 1 .ro 0 | 8 => domN 128 .tx 0 | 9 => within (fun v => decide (v < 32) || v == 0xFF) (uN 1 .tx 0xFF)
    | 0xA => within (span 10 10000) (uN 4 .lv 300)
    | k => if 0x10 ≤ k ∧ k ≤ 0x15 then uN 4 .lv 0 else none
  else none

/-- Protection objects (Table 10.8). -/
def objProtect (ix sub : Nat) : Option ObjInfo :=
  if ix = 0x2E00 then
    match sub with
    | 1 => bool1 .lv 1 | 2 => bool1 .lv 1 | 3 => within (span 1 100) (uN 1 .lv 10) | _ => none
  else if 0x2E10 ≤ ix ∧ ix ≤ 0x2E3F then (if 1 ≤ sub ∧ sub ≤ 128 ∧ (ix - 0x2E10) * 128 + sub ≤ 3712 then uN 4 .lv 0 else none)
  else if 0x2E40 ≤ ix ∧ ix ≤ 0x2E80 then (if 1 ≤ sub ∧ sub ≤ 3 then uN 4 .ro 0 else none)
  else if ix = 0x2E90 then
    match sub with
    | 1 => uN 2 .ro 0 | 2 => uN 8 .tx 0 | 3 => uN 8 .tx 0 | 4 => domN (8 * 4096) .ro 0 | _ => none
  else none

/-- The factory value of a source configuration word (Table 15.4). -/
def sourceConfig : Nat := 16 + 1000 * 2 ^ 16 + 0x02 * 2 ^ 32 + 0x0F * 2 ^ 40 + 0x6F * 2 ^ 48

/-- Collector and logbook objects (Table 15.9). A value other than 1 to 0x3003:07 is refused with 0x0609_0030, which the manual does not say
(DESIGN CHOICE, assumption 101). -/
def objFault (ix sub : Nat) : Option ObjInfo :=
  if ix = 0x3000 then
    match sub with
    | 1 => uN 1 .ro 0 | 2 => uN 8 .ro 0 | 3 => uN 4 .ro 0 | _ => none
  else if ix = 0x3001 then
    match sub with
    | 1 => domN 32 .ro 0 | 2 => within (fun v => v == 0) (bool1 .rw 0) | 3 => within (span 1 4) (uN 1 .lv 2) | _ => none
  else if ix = 0x3002 then
    match sub with
    | 1 => uN 2 .lv 0 | 2 => uN 1 .lv 0 | 3 => uN 2 .lv 0 | 4 => within (span 1 65535) (uN 2 .lv 1)
    | 5 => within (span 0 1) (uN 1 .lv 0) | 6 => uN 2 .ro 0 | 7 => uN 4 .ro 0 | 8 => uN 4 .ro 0 | 9 => bool1 .lv 0 | _ => none
  else if ix = 0x3003 then
    match sub with
    | 1 => uN 4 .ro 0 | 2 => within (span 0 (2 ^ 24 - 1)) (uN 4 .lv 0) | 3 => domN 32 .ro 0 | 4 => uN 1 .lv 0 | 5 => uN 4 .ro 0
    | 6 => uN 4 .ro 0 | 7 => within (fun v => v == 1) (uN 1 .wo 0) | 8 => within (span 1 1000) (uN 2 .lv 1000) | 9 => domN 32 .ro 0
    | _ => none
  else if 1 ≤ sub ∧ sub ≤ 0x20 then
    if 0x3040 ≤ ix ∧ ix < 0x305E then nvDefault (within (fun v => decide (1 ≤ v / 2 ^ 16 % 2 ^ 16)) (uN 8 .lv sourceConfig))
    else if 0x3060 ≤ ix ∧ ix < 0x307E then uN 2 .rw 0
    else if 0x3080 ≤ ix ∧ ix < 0x309E then uN 4 .lv 0
    else none
  else none

/-- Engine counters (Table 16.10). -/
def objCounter (sub : Nat) : Option ObjInfo :=
  if (1 ≤ sub ∧ sub ≤ 0xD) ∨ (0x10 ≤ sub ∧ sub ≤ 0x19) then uN 8 .lv 0 else if sub = 0x20 then bool1 .lv 0 else none

/-- HBM, regions, bog, PCIe, trace (R81, R185, Tables 16.11, 17.1, 19.2). -/
def objHost (ix sub : Nat) : Option ObjInfo :=
  if ix = 0x3400 then
    match sub with
    | 1 => uN 8 .const 28991029248 | 2 => uN 4 .const 6144 | 3 => uN 4 .ro 0 | _ => none
  else if 0x3410 ≤ ix ∧ ix < 0x3430 then
    match sub with
    | 1 => uN 4 .tx 0 | 2 => within (span 0 100) (uN 1 .lv 50) | 3 => within (fun v => decide (65536 ≤ v)) (uN 4 .tx 262144)
    | 4 => uN 4 .ro 0 | 5 => uN 4 .ro 0 | 6 => uN 4 .tx 0 | _ => none
  else if 0x3440 ≤ ix ∧ ix < 0x3480 then
    match sub with
    | 1 => within (span 0 5) (uN 1 .tx 0) | 2 => uN 8 .tx 0 | 3 => uN 8 .tx 0
    | 4 => within (fun v => decide (v < 32) || v == 0xFF) (uN 1 .tx 0xFF) | 5 => bool1 .tx 1 | _ => none
  else if ix = 0x3500 then
    match sub with
    | 1 => uN 1 .ro 0 | 2 => uN 2 .ro 0 | 3 => uN 4 .ro 0 | 4 => uN 4 .ro 0 | 6 => nvDefault (uN 4 .rw unwritten) | _ => none
  else if ix = 0x3600 then
    match sub with
    | 1 => bool1 .lv 0 | 2 => uN 1 .ro 0 | 3 => uN 4 .lv 0 | 4 => within (fun v => decide (v < 16) || v == 0xFF) (uN 1 .lv 0xFF)
    | 5 => uN 8 .ro 0 | 6 => uN 8 .ro 0 | 7 => uN 1 .ro 0xFF | _ => none
  else if 0x3610 ≤ ix ∧ ix < 0x3620 then
    match sub with
    | 1 => within (fun v => decide (v < 64) || v == 0xFF) (uN 1 .tx 0xFF) | 2 => uN 4 .ro 0 | 3 => bool1 .ro 0 | 4 => uN 4 .lv 0
    | 5 => uN 8 .ro 0 | _ => none
  else if 0x3620 ≤ ix ∧ ix < 0x3624 then
    match sub with
    | 1 => within (span 0 2) (uN 1 .lv 0) | 2 => within (span 0 31) (uN 1 .lv 0) | 3 => within (span 0 (2 ^ 48 - 1)) (uN 8 .lv 0)
    | 4 => within (span 0 511) (uN 2 .lv 0) | 5 => within (span 0 16383) (uN 2 .lv 0)
    | 6 => within (span 0 (2 ^ 36 - 1)) (uN 8 .lv 0) | 7 => within (span 0 (2 ^ 36 - 1)) (uN 8 .lv 0) | _ => none
  else if 0x3640 ≤ ix ∧ ix < 0x3680 ∧ 1 ≤ sub ∧ sub ≤ 16 then
    match sub % 4 with
    | 1 => within (fun v => decide (v < 512) || v == 0xFFFF) (uN 2 .lv 0xFFFF)
    | 2 => within (span 0 16383) (uN 2 .lv 0)
    | 3 => within (span 1 16384) (uN 2 .lv 1)
    | _ => within (fun v => decide (v < 16) || v == 0xFF) (uN 1 .lv 0xFF)
  else none

/-- The object at an index and sub-index (R320). -/
def objInfo (ix sub : Nat) : Option ObjInfo :=
  if ix < 0x2000 then objCia ix sub
  else if ix < 0x2200 then objManage ix sub
  else if ix < 0x2400 then objClock ix sub
  else if ix < 0x2800 then objEngine ix sub
  else if ix < 0x2A00 then objFlight ix sub
  else if ix < 0x2E00 then objNet ix sub
  else if ix < 0x3000 then objProtect ix sub
  else if ix < 0x3200 then objFault ix sub
  else if ix < 0x3400 then objCounter sub
  else if ix < 0x3700 then objHost ix sub
  else none

/-- Some sub-index of the index is an object (R320). -/
def objIndex (ix : Nat) : Bool :=
  (objInfo ix 0).isSome || (objInfo ix 1).isSome || (objInfo ix 2).isSome

/-- What an object reads as before it is written or counted. -/
def objDefault (key : Nat) : Nat :=
  match objInfo (key / 256) (key % 256) with
  | some i => i.dflt
  | none => 0

end Sys2Proof.Machine
end

