-- ==== Sys2Proof/Machine/Ops.lean ====
section
/-! DEFINITION. The named operations over the state: units, dictionary values, time, events, storage reads and writes with
their codes, register writes, taking a trap and returning from one. -/

namespace Sys2Proof.Machine

/-! ### Units and values -/

/-- Engine g. -/
def State.engine (s : State) (g : Nat) : Engine := tget Engine.reset s.engines g

/-- Engine g replaced. -/
def State.setEngine (s : State) (g : Nat) (e : Engine) : State := { s with engines := tput Engine.reset g e s.engines }

/-- Pipeline of engine g. -/
def State.core (s : State) (g : Nat) : Core := (s.engine g).core

/-- Pipeline of engine g replaced. -/
def State.setCore (s : State) (g : Nat) (c : Core) : State := s.setEngine g { s.engine g with core := c }

/-- Token unit of engine g. -/
def State.tu (s : State) (g : Nat) : TokenUnit := (s.engine g).tu

/-- Token unit of engine g replaced. -/
def State.setTu (s : State) (g : Nat) (t : TokenUnit) : State := s.setEngine g { s.engine g with tu := t }

/-- Cluster c. -/
def State.cluster (s : State) (c : Nat) : Cluster := tget Cluster.reset s.clusters c

/-- Cluster c replaced. -/
def State.setCluster (s : State) (c : Nat) (x : Cluster) : State := { s with clusters := tput Cluster.reset c x s.clusters }

/-- Flight f. -/
def State.flight (s : State) (f : Nat) : Flight := tget Flight.reset s.flights f

/-- Flight f replaced. -/
def State.setFlight (s : State) (f : Nat) (x : Flight) : State := { s with flights := tput Flight.reset f x s.flights }

/-- Domain d. -/
def State.domain (s : State) (d : Nat) : Domain := tget Domain.reset s.domains d

/-- Domain d replaced. -/
def State.setDomain (s : State) (d : Nat) (x : Domain) : State := { s with domains := tput Domain.reset d x s.domains }

/-- Peer port p. -/
def State.port (s : State) (p : Nat) : Port := tget Port.reset s.ports p

/-- Peer port p replaced. -/
def State.setPort (s : State) (p : Nat) (x : Port) : State := { s with ports := tput Port.reset p x s.ports }

/-- Committed value of an object or counter. -/
def State.obj (s : State) (ix sub : Nat) : Nat := tget (objDefault (256 * ix + sub)) s.objs (256 * ix + sub)

/-- Value of an object or counter set. -/
def State.setObj (s : State) (ix sub v : Nat) : State :=
  { s with objs := tput (objDefault (256 * ix + sub)) (256 * ix + sub) v s.objs }

/-- A saturating counter of w bits raised by 1. -/
def State.bump (s : State) (w ix sub : Nat) : State := s.setObj ix sub (satInc w (s.obj ix sub))

/-- An engine counter of Table 16.10 raised by n: it wraps at 2^48, sets its overflow bit, and asks for vector 3 where enabled;
the second component says whether the vector is asked for (R325). -/
def State.count (s : State) (g sub n : Nat) : State × Bool :=
  let v := s.obj (0x3200 + g) sub
  let c := v % 2 ^ 48 + n
  let beyond := if c < 2 ^ 48 then v / 2 ^ 48 % 2 else 1
  (s.setObj (0x3200 + g) sub (c % 2 ^ 48 + beyond * 2 ^ 48), decide (2 ^ 48 ≤ c) && s.obj (0x3200 + g) 0x20 == 1)

/-- Nanoseconds of the time base: bits [79:16] of Table 13.4 (R264). -/
def State.now (s : State) : Nat := (s.time.value.extractLsb' 32 64).toNat

/-- Stamp in units of 2⁻¹⁶ ns, bits [79:0] of Table 13.4. -/
def State.stamp (s : State) : Nat := (s.time.value.extractLsb' 16 80).toNat

/-- The class whose queue the collector serves next: the first after the one served last that holds an event (R298). -/
def Collector.nextClass (c : Collector) : Option Nat :=
  ((List.range 30).map (fun i => (c.turn + 1 + i) % 30)).find? (fun k => !(tget [] c.queues k).isEmpty)

/-- An event as the collector takes it at `now`: one whose stamp has closed meanwhile, as its queue was backed up, is handled under its
own new stamp (R298). -/
def Event.arrived (e : Event) (now closed : Nat) : Event :=
  if e.close < closed then { e with late := true, close := max now closed } else e

/-- The collector takes one event from its queues (R298). -/
def Collector.takeOne (c : Collector) (now : Nat) : Collector :=
  match c.nextClass with
  | none => c
  | some k =>
    { c with queues := tput [] k ((tget [] c.queues k).drop 1) c.queues,
             taken := c.taken ++ ((tget [] c.queues k).take 1).map (fun e => e.arrived now c.closed), turn := k }

/-- One nominal nanosecond of the time base: its value rises by 2³² + c units (R264), and the collector takes one event (R298;
assumption 2). -/
def State.idle (s : State) : State :=
  { s with time := { s.time with value := s.time.value + BitVec.ofInt 96 (2 ^ 32 + s.time.c) }, col := s.col.takeOne s.now }

/-- The next free value's number (assumption 5), and the state that has used it. -/
def State.fresh (s : State) : Nat × State := (s.free, { s with free := s.free + 1 })

/-- An output sent. -/
def State.put (s : State) (o : Output) : State := { s with outbox := s.outbox ++ [o] }

/-- The message of vector v: the data of its table entry, written to the address there (R336). -/
def HostIf.message (h : HostIf) (v : Nat) : Output :=
  .msix v (BitVec.ofNat 64 (tget 0 h.msix (4 * v) + 2 ^ 32 * tget 0 h.msix (4 * v + 1))) (BitVec.ofNat 32 (tget 0 h.msix (4 * v + 2)))

/-- MSI-X vector v sent at most once per tick, or its pending bit set when masked (R340). -/
def State.vector (s : State) (v : Nat) : State :=
  let h := s.host
  if h.unmasked.getLsbD v then
    if tget 0 h.sentTick v = s.now / 1000 + 1 then s
    else { s with host := { h with sentTick := tput 0 v (s.now / 1000 + 1) h.sentTick }, outbox := s.outbox ++ [h.message v] }
  else { s with host := { h with pendingBits := h.pendingBits ||| (1#64 <<< v) } }

/-- An engine counter raised by 1, with its wrap interrupt (R325). -/
def State.tick1 (s : State) (g sub : Nat) : State :=
  let (s', w) := s.count g sub 1
  if w then s'.vector 3 else s'

/-- A device state entered, with vector 12 when it changes (Table 17.4). -/
def State.enterDev (s : State) (d : DevState) : State := if s.dev = d then s else { s with dev := d }.vector 12

/-- A flight state entered, with vector 16 + f when it changes; a change into or out of IDLE fails a pending commit that names
the flight (R331). -/
def State.enterFlight (s : State) (f : Nat) (st : FState) : State :=
  let x := s.flight f
  if x.state = st then s else
    let idle := x.state = .idle ∨ st = .idle
    let s := s.setFlight f { x with state := st }
    let named := s.txn.point
    let s := if idle ∧ s.txn.status = 3 ∧ 2 ^ 63 ≤ named ∧ named / 2 ^ 48 % 32 = f then { s with txn := { s.txn with flightChanged := true } } else s
    s.vector (16 + f)

/-! ### Device, clusters, flights -/

/-- Device ID, if bits [9:4] are known (R22, R248). -/
def State.deviceId (s : State) : Option Nat :=
  let hi := if s.obj 0x2C00 2 = 0 then (if s.obj 0x2C00 3 = 0xFF then none else some (s.obj 0x2C00 3)) else s.upperId.map (·.toNat)
  hi.map (fun h => 16 * h + s.straps.devid.toNat)

/-- Device ID as 0x2C00:01 reads it, 0xFFFF while unknown. -/
def State.devId (s : State) : Nat := match s.deviceId with | some d => d | none => 0xFFFF

/-- Cluster of engine g (R7). -/
def clusterOf (g : Nat) : Nat := g / 16

/-- Cluster c lies in the mask of flight f on this device (Table 4.1). -/
def State.inFlight (s : State) (f c : Nat) : Bool := (s.obj (0x2800 + f) 2).testBit c

/-- The flight whose mask holds cluster c (R36). -/
def State.flightOf (s : State) (c : Nat) : Option Nat := firstFrom 32 0 (fun f => s.inFlight f c)

/-- An engine is retired (R208), by an entry of kind 4 or of a page that takes the engine with it. -/
def retiresEngine (g : Nat) (e : BitVec 64) : Bool :=
  let kind := (e.extractLsb' 0 4).toNat
  let page := (e.extractLsb' 13 5).toNat
  (e.extractLsb' 4 9).toNat == g && (kind == 4 || (kind == 1 && (page == 0 || page == 31)))

/-- Entries that keep a resource out of service: those in force and those unretired but not yet reset (R208). -/
def State.outOfService (s : State) : List (BitVec 64) := s.retired ++ s.unretired

/-- Engine g is retired (R208). -/
def State.retiredEngine (s : State) (g : Nat) : Bool := s.outOfService.any (retiresEngine g)

/-- Page of a local address is retired at engine g. -/
def State.retiredPage (s : State) (g adr : Nat) : Bool :=
  s.outOfService.any (fun e => (e.extractLsb' 0 4).toNat == 1 && (e.extractLsb' 4 9).toNat == g && (e.extractLsb' 13 5).toNat == adr / 0x1000)

/-- A cluster-store bank is retired. -/
def State.retiredBank (s : State) (c bank : Nat) : Bool :=
  s.outOfService.any (fun e => (e.extractLsb' 0 4).toNat == 2 && (e.extractLsb' 4 5).toNat == c && (e.extractLsb' 9 4).toNat == bank)

/-- The row of HBM line L is retired. -/
def State.retiredRow (s : State) (l : Nat) : Bool :=
  let (pc, bank, row) := placeOf l
  s.outOfService.any (fun e => (e.extractLsb' 0 4).toNat == 3 && (e.extractLsb' 4 2).toNat == stackOf l &&
    (e.extractLsb' 6 5).toNat == pc && (e.extractLsb' 11 6).toNat == bank && (e.extractLsb' 17 15).toNat == row)

/-- Byte i of a DOMAIN value. -/
def domByte (v i : Nat) : Nat := v / 2 ^ (8 * i) % 256

/-- The map object of cluster c in a generation (R93). -/
def State.engineMap (s : State) (c : Nat) (gen : Bool) : Nat :=
  if gen = s.noc.gen then s.obj (0x2A40 + c) 5 else
    tget (objDefault (256 * (0x2A40 + c) + 5)) s.noc.oldRoutes (256 * (0x2A40 + c) + 5)

/-- Logical number of physical engine g in a generation (R93). -/
def State.logical (s : State) (g : Nat) (gen : Bool) : Nat :=
  let m := s.engineMap (g / 16) gen
  16 * domByte m 0 + (firstFrom 16 0 (fun i => domByte m (1 + i) == g % 16)).getD 0

/-- Physical engine of logical engine l at cluster c, in a generation (R93). -/
def State.physicalAt (s : State) (c l : Nat) (gen : Bool) : Nat := 16 * c + domByte (s.engineMap c gen) (1 + l % 16) % 16

/-- Physical cluster that holds logical cluster lc in a generation. -/
def State.physicalCluster (s : State) (lc : Nat) (gen : Bool) : Option Nat :=
  firstFrom 32 0 (fun c => domByte (s.engineMap c gen) 0 == lc)

/-- Physical engine of logical engine l in the generation in force; none maps to a retired engine (R93, R208). -/
def State.physical (s : State) (l : Nat) : Option Nat :=
  ((s.physicalCluster (l / 16) s.noc.gen).map (fun c => s.physicalAt c l s.noc.gen)).filter (fun g => !s.retiredEngine g)

/-- Physical engines of flight f on this device, retired ones left out (R208: no logical number maps to them). -/
def State.enginesOf (s : State) (f : Nat) : List Nat :=
  (List.range 512).filter (fun g => s.inFlight f (g / 16) && !s.retiredEngine g)

/-- Cluster c may be used: its domain is LIVE and not contained. -/
def State.serving (s : State) (c : Nat) : Bool := (s.domain c).state = .live ∧ ¬ (s.domain c).contained

/-! ### Events -/

/-- An event of a detector, stamped now (R292, R298). -/
def State.raiseFull (s : State) (src code level d0 d1 : Nat) (injected during : Bool) : State :=
  let e : Event := {
    src := src, code := code, level := level, d0 := d0 % 2 ^ 40, d1 := d1 % 2 ^ 40, stamp := s.now, injected := injected, during := during,
    close := 0, late := false, reached := false, cfg := 0 }
  { s with col := { s.col with detected := s.col.detected ++ [e] } }

/-- An event that no injection made. -/
def State.raise (s : State) (src code level d0 d1 : Nat) : State := s.raiseFull src code level d0 d1 false false

/-- An event whose code and details the manual does not give, so that they are free values (assumption 5). -/
def State.raiseFree (s : State) (src level : Nat) : State :=
  let (a, s) := s.fresh
  let (b, s) := s.fresh
  let (c, s) := s.fresh
  s.raise src (Config.freeCount a % 256) level (Config.freeCount b) (Config.freeCount c)

/-- The source field of a detail (R292). -/
def sourceField (ctl : BitVec 96) : Nat :=
  (ctl.extractLsb' 82 6).toNat + 2 ^ 6 * (ctl.extractLsb' 68 14).toNat + 2 ^ 20 * (ctl.extractLsb' 59 9).toNat + 2 ^ 29 * (ctl.extractLsb' 49 10).toNat

/-- The token field of a detail (R292). -/
def tokenField (t : BitVec 96) : Nat :=
  (t.extractLsb' 55 14).toNat + 2 ^ 14 * (t.extractLsb' 69 8).toNat + 2 ^ 22 * (t.extractLsb' 77 5).toNat

/-- Source ID of unit class c, instance i (R290). -/
def srcId (c i : Nat) : Nat := 32 * c + i

/-! ### Checks and injection -/

/-- How a stored group that differs from a good one in `d` decodes: the code is linear, so its outcome depends on the difference alone
(R193, R194). -/
def wrongGroup (d : BitVec 14) : CodeOut :=
  let (sy, p) := syndrome 0 0 (encodeNonet 0 0 0 ^^^ d)
  classify sy p

/-- Such a group is uncorrectable. -/
def wrongBad (d : BitVec 14) : Bool :=
  match wrongGroup d with
  | .clean => false
  | .single _ => false
  | _ => true

/-- The mask a checker applies to its next check, and the state with the check not yet counted (R304). -/
def State.injectMask (s : State) (src chk : Nat) : Option Nat :=
  if s.col.armed ∧ s.obj 0x3002 1 = src ∧ s.obj 0x3002 2 = chk then some (s.obj 0x3002 3) else none

/-- An injected check counted as delivered or consumed (R305). -/
def State.injectDone (s : State) (delivered : Bool) : State :=
  let left := s.obj 0x3002 6 - 1
  let s := s.setObj 0x3002 6 left
  let s := if delivered then s.bump 32 0x3002 7 else s.bump 32 0x3002 8
  if left = 0 then { s with col := { s.col with armed := false } } else s

/-- The object that holds a correction counter: number k of 0x2E10–0x2E3F (assumption 9). -/
def State.bumpCorrection (s : State) (k : Nat) : State := s.bump 32 (0x2E10 + k / 128) (k % 128 + 1)

/-- How a nonet group's check ended: the group with a real single error corrected, whether one was, whether the group is
uncorrectable, whether the outcome is injected or real during an injection, address-decoder fault. -/
structure GroupOut where
  group : BitVec 14
  fixed : Bool
  bad : Bool
  injected : Bool
  during : Bool
  decoder : Bool

/-- One nonet group checked by checker chk of source src at a cell address, with correction counter k (R194 to R196, R305, R306). -/
def State.checkNonet (s : State) (src chk k adr n : Nat) (g : BitVec 14) : GroupOut × State :=
  let (sy, p) := syndrome adr n g
  let real := sy ≠ 0 ∨ p
  match s.injectMask src chk with
  | none =>
    match classify sy p with
    | .clean => ({ group := g, fixed := false, bad := false, injected := false, during := false, decoder := false }, s)
    | .single pos =>
      ({ group := flipPosition g pos, fixed := true, bad := false, injected := false, during := false, decoder := false },
        (s.bumpCorrection k).raise src 0x01 1 adr (chk + 2 ^ 7 * sy.toNat))
    | .decoder => ({ group := g, fixed := false, bad := true, injected := false, during := false, decoder := true }, s)
    | .double => ({ group := g, fixed := false, bad := true, injected := false, during := false, decoder := false }, s)
  | some m =>
    let s := s.injectDone (decide ¬ real)
    let m5 := BitVec.ofNat 5 m
    let (sy', p') := if real then (sy, p) else (m5.extractLsb' 0 4, parity64 (m5.zeroExtend 64))
    match classify sy' p' with
    | .clean => ({ group := g, fixed := false, bad := false, injected := false, during := false, decoder := false }, s)
    | .single pos =>
      ({ group := if real then flipPosition g pos else g, fixed := decide real, bad := false, injected := decide ¬ real, during := decide real, decoder := false },
        (s.bumpCorrection k).raiseFull src 0x01 1 adr (chk + 2 ^ 7 * sy'.toNat) (decide ¬ real) (decide real))
    | .decoder => ({ group := g, fixed := false, bad := true, injected := decide ¬ real, during := decide real, decoder := true }, s)
    | .double => ({ group := g, fixed := false, bad := true, injected := decide ¬ real, during := decide real, decoder := false }, s)

/-! ### Always-on SRAM -/

/-- Key of a group of an always-on word (R192; assumption 86). -/
def aonKey (array word n : Nat) : Nat := 2 ^ 32 * array + 4 * word + n

/-- Fault source that owns an always-on array: none other owns the dictionary's (R291; assumption 86). -/
def aonSource (array : Nat) : Nat :=
  if array = 0 then srcId 29 0 else if array = 1 then srcId 23 0 else if array < 64 then srcId 17 (array - 2)
  else if array < 96 then srcId 18 (array - 64) else srcId 19 (array - 96)

/-- One group of an always-on word read and checked: corrected and reported at level 1, or, uncorrectable, reported at level 4 under the
array's owner (R23, R195, R291, R304). True when the word cannot be used. -/
def State.readAonGroup (s : State) (array word n : Nat) : Bool × State :=
  let src := aonSource array
  let d := tget 0 s.aon (aonKey array word n)
  let (d, inj, dur, s) := match (if array = 0 then s.injectMask src 0 else none) with
    | none => (d, false, false, s)
    | some m => if d = 0 then (BitVec.ofNat 14 (m % 32 * 2 ^ 9), true, false, s.injectDone true) else (d, false, true, s.injectDone false)
  let detail := word + 2 ^ 32 * array
  match wrongGroup d with
  | .clean => (false, s)
  | .single pos =>
    (false, ({ s with aon := if inj then s.aon else tput 0 (aonKey array word n) 0 s.aon }).raiseFull src 0x01 1 word (2 ^ 7 * pos) inj dur)
  | _ => (true, s.raiseFull src 0x48 4 detail 0 inj dur)

/-- A word of an always-on array read by its owner. -/
def State.readAon (s : State) (array word : Nat) : Bool × State :=
  let (a, s) := s.readAonGroup array word 0
  let (b, s) := s.readAonGroup array word 1
  let (c, s) := s.readAonGroup array word 2
  let (d, s) := s.readAonGroup array word 3
  (a || b || c || d, s)

/-- A word of an always-on array written: fresh check bits (R192). -/
def State.freshAon (s : State) (array word : Nat) : State :=
  if s.aon.isEmpty then s
  else { s with aon := (List.range 4).foldl (fun a n => tput 0 (aonKey array word n) 0 a) s.aon }

/-- How the check of a whole cell ended. -/
structure CellOut (w : Nat) where
  cell : BitVec w
  fixed : Bool
  bad : Bool
  injected : Bool
  during : Bool
  decoder : Bool

/-- Groups n−1 down to 0 of a cell checked; an uncorrectable group outside the access is reported as latent (R195). -/
def State.checkCell {w : Nat} (s : State) (src chk k adr : Nat) (inside : BitVec 5) (cell : BitVec w) : Nat → CellOut w × State
  | 0 => ({ cell := cell, fixed := false, bad := false, injected := false, during := false, decoder := false }, s)
  | n + 1 =>
    let (o, s) := State.checkCell s src chk k adr inside cell n
    let (g, s) := s.checkNonet src chk k adr n (groupOf cell n)
    let c := if g.fixed then setField o.cell (14 * n) 14 g.group else o.cell
    if g.bad then
      if inside.getLsbD n then
        ({ cell := c, fixed := o.fixed, bad := true, injected := if o.bad then o.injected else g.injected,
           during := if o.bad then o.during else g.during, decoder := o.decoder || g.decoder }, s)
      else ({ o with cell := c }, s.raiseFull src 0x03 2 adr chk g.injected g.during)
    else ({ o with cell := c, fixed := o.fixed || g.fixed }, s)

/-! ### Local store -/

/-- Bank of a local address: 0 to 3, or 4 the sluice (R175). -/
def bankOf (adr : Nat) : Nat := if adr < 0x1F800 then adr / 0x8000 else 4

/-- The local store's cell at an address: from the correction buffer when it holds that word, else from the bank (R196). -/
def Engine.cell (e : Engine) (adr : Nat) : Stored :=
  match e.corr.find? (fun x => x.1 == bankOf adr) with
  | some (_, a, v) => if a = adr then v else tget (encodeWord adr 0) e.mem adr
  | none => tget (encodeWord adr 0) e.mem adr

/-- A word of the local store as data, unchecked: what a fault-free reader sees. -/
def State.localWord (s : State) (g adr : Nat) : Word := dataOf ((s.engine g).cell adr)

/-- The answer of a storage read: the word, or uncorrectable with whether it was an address fault, injected, during injection. -/
inductive ReadOut where
  | ok (w : Word)
  | bad (decoder injected during : Bool)
  deriving DecidableEq, Repr

/-- A local word read by any master: every group checked, corrected, counted, put into the correction buffer when that is
free (R195, R196); a retired page reads as uncorrectable (R208). -/
def State.readLocal (s : State) (g adr : Nat) (inside : BitVec 5) : ReadOut × State :=
  if s.retiredPage g adr then (.bad false false false, s) else
  let b := bankOf adr
  let (o, s) := s.checkCell g b (6 * g + b) adr inside ((s.engine g).cell adr) 4
  let e := s.engine g
  let s := if o.fixed ∧ ¬ e.corr.any (fun x => x.1 == b) then s.setEngine g { e with corr := tset b (adr, o.cell) e.corr } else s
  if o.bad then (.bad o.decoder o.injected o.during, s) else (.ok (dataOf o.cell), s)

/-- Nonets named by a mask written with fresh check bits; nothing is read, and the write-back of covered nonets is cancelled
(R198, R196). -/
def writeGroups (adr : Nat) (cover : BitVec 4) (w : Word) (old : Stored) : Stored :=
  let f := fun (c : Stored) (n : Nat) => if cover.getLsbD n then setField c (14 * n) 14 (encodeNonet adr n (nonetOf w n)) else c
  f (f (f (f old 0) 1) 2) 3

/-- A local word written by any master, nonet by nonet. -/
def State.writeLocal (s : State) (g adr : Nat) (cover : BitVec 4) (w : Word) : State :=
  let e := s.engine g
  let b := bankOf adr
  let stored := tget (encodeWord adr 0) e.mem adr
  let mem := tput (encodeWord adr 0) adr (writeGroups adr cover w stored) e.mem
  let corr := e.corr.filterMap (fun x =>
    if x.1 == b && x.2.1 == adr then (if cover = 15 then none else some (b, (adr, writeGroups adr cover w x.2.2))) else some x)
  s.setEngine g { e with mem := mem, corr := corr }

/-- A word read by engine g's own pipeline: an uncorrectable read is reported at level 3 under the engine (R197, R291). -/
def State.engineRead (s : State) (g adr : Nat) (inside : BitVec 5) : Option Word × State :=
  match s.readLocal g adr inside with
  | (.ok w, s) => (some w, s)
  | (.bad d i u, s) => (none, s.raiseFull g 0x02 3 adr (g + (if d then 1024 else 0)) i u)

/-- n words from an address read by the pipeline in rising order, address modulo 2^17; the first failing address, or the words.
Every word of the access is checked, those after a failing one too (R195). -/
def State.engineReads (s : State) (g : Nat) : Nat → Nat → Sum Nat (List Word) × State
  | _, 0 => (.inr [], s)
  | adr, n + 1 =>
    let (r, s) := s.engineRead g (adr % 0x20000) 31
    let (l, s) := State.engineReads s g (adr + 1) n
    (match r, l with
      | none, _ => .inl (adr % 0x20000)
      | some _, .inl a => .inl a
      | some w, .inr l => .inr (w :: l), s)

/-- Words written from an address on, address modulo 2^17. -/
def State.writeLocals (s : State) (g : Nat) : Nat → List Word → State
  | _, [] => s
  | adr, w :: l => State.writeLocals (s.writeLocal g (adr % 0x20000) 15 w) g (adr + 1) l

/-- The vector of 8 words. -/
def vecOfList (l : List Word) : Vec := vecOf (fun i => l.getD i 0)

/-- The 8 words of a vector. -/
def listOfVec (v : Vec) : List Word := (List.range 8).map (vecWord v)

/-! ### Registers -/

/-- Register of a code (Table 5.7), zero-extended (R122). -/
def Core.reg (c : Core) (code : Nat) : Word :=
  match code with
  | 0 => c.a | 1 => c.h | 2 => c.x | 3 => c.y | 4 => c.b.zeroExtend 36 | 5 => c.l.zeroExtend 36 | 6 => c.c.zeroExtend 36
  | 7 => c.f.zeroExtend 36
  | k => vecWord c.v (k - 8)

/-- Register of a code written with the low bits of a value (R122). -/
def Core.setReg (c : Core) (code : Nat) (w : Word) : Core :=
  match code with
  | 0 => { c with a := w } | 1 => { c with h := w } | 2 => { c with x := w } | 3 => { c with y := w }
  | 4 => { c with b := w.truncate 5 } | 5 => { c with l := w.truncate 15 } | 6 => { c with c := w.truncate 24 }
  | 7 => { c with f := w.truncate 5 }
  | k => { c with v := setVecWord c.v (k - 8) w }

/-- The register a load names as a vector: code 8 the whole V. -/
def Core.loadReg (c : Core) (code : BitVec 4) : Vec := if code = 8 then c.v else (c.reg code.toNat).zeroExtend 288

/-- A load's value written. -/
def Core.commitLoad (c : Core) (code : BitVec 4) (v : Vec) : Core :=
  if code = 8 then { c with v := v } else c.setReg code.toNat (v.truncate 36)

/-- Loads whose delay ends now written, in issue order; the others one slot nearer (R104). -/
def Core.ageLoads (c : Core) : Core :=
  let due := c.delay.filter (fun p => p.slots ≤ 1)
  let rest := (c.delay.filter (fun p => !(p.slots ≤ 1 : Bool))).map (fun p => { p with slots := p.slots - 1 })
  due.foldl (fun c p => c.commitLoad p.reg p.value) { c with delay := rest }

/-- Every load in its delay written, in issue order. -/
def Core.endLoads (c : Core) : Core := c.delay.foldl (fun c p => c.commitLoad p.reg p.value) { c with delay := [] }

/-! ### Traps -/

/-- Node of the running activation. -/
def Core.node (c : Core) : Nat := match c.act with | some a => a.node.toNat | none => 0

/-- Engine g stops with a level-3 event 0x1F of a cause, which carries the marks of the check that stops it (R114, R115, R136, R305). -/
def State.stopMarked (s : State) (g cause : Nat) (injected during : Bool) : State :=
  let c := s.core g
  (s.setCore g { c with stopped := true }).raiseFull g 0x1F 3 (c.pc.toNat + 2 ^ 15 * cause) c.node injected during

/-- Engine g stops for a cause that no check found (R114). -/
def State.stopEngine (s : State) (g cause : Nat) : State := s.stopMarked g cause false false

/-- Marks of engine g's last uncorrectable read, for the event of a stop that follows from it (R305, R306). -/
def State.readMarks (s : State) (g : Nat) : Bool × Bool :=
  match s.col.detected.reverse.find? (fun e => e.src == g && e.code == 0x02) with
  | some e => (e.injected, e.during)
  | none => (false, false)

/-- Token-unit read found uncorrectable at engine g: the engine stops, a running activation goes on (R385). -/
def State.stopUnit (s : State) (g : Nat) : State := s.setTu g { s.tu g with stopped := true }

/-- Engine g has stopped, by its pipeline or by its token unit (0x2400 + g:0B). -/
def State.unitStopped (s : State) (g : Nat) : Bool := (s.core g).stopped || (s.tu g).stopped

/-- Loads in their delay at a trap: their values written, the pre-load values kept (R105). -/
def Core.shadowLoads (c : Core) : Core :=
  c.delay.foldl (fun c p => { (c.commitLoad p.reg p.value) with shadow := c.shadow ++ [{ load := p, before := c.loadReg p.reg }] })
    { c with delay := [], shadow := [] }

/-- Taking a trap, of an instruction that stood in a load's delay slot or not: TPC, TCAUSE, TINFO, TF := F, handler mode,
PC := cause (R113, R105). -/
def Core.takeTrap (c : Core) (slot : Bool) (cause : BitVec 6) (imprecise : Bool) (tpc : BitVec 15) (info : Word) : Core :=
  let c := c.shadowLoads
  { c with tpc := tpc, tcause := BitVec.ofBool imprecise ++ BitVec.ofBool slot ++ cause, tinfo := info, tf := c.f,
           handler := true, pc := cause.zeroExtend 15, past := false }

/-- A synchronous cause at engine g: a trap, or in handler mode a double trap (R113, R114). -/
def State.syncTrap (s : State) (g : Nat) (slot : Bool) (cause : BitVec 6) (tpc : BitVec 15) (info : Word) : State :=
  let c := s.core g
  if c.handler then s.stopEngine g cause.toNat else s.setCore g (c.takeTrap slot cause false tpc info)

/-- The FP trap: the oldest record leaves the queue and stands in TINFO (R173). -/
def Core.takeFpTrap (c : Core) (tpc : BitVec 15) : Core :=
  match c.fpq with
  | [] => c
  | r :: q => { c with fpq := q }.takeTrap false 6 true tpc ((r.set ++ r.pc).zeroExtend 36)

/-- Returning from a trap: F := TF, PC := TPC, registers under a shadow at their pre-load value, handler mode off; with the
loads whose delay goes on, so that the codelet sees what it would have seen without the trap (R113, R105). -/
def Core.returnTrap (c : Core) : Core × List PendLoad :=
  let c := { c with f := c.tf, pc := c.tpc, past := false, handler := false }
  let loads := c.shadow.map (·.load)
  let d := c.shadow.foldr (fun x d => d.commitLoad x.load.reg x.before) c
  ({ d with shadow := [] }, loads)

end Sys2Proof.Machine
end

