-- ==== Sys2Proof/Machine/Operands.lean ====
section
/-! DEFINITION. Instruction words: fields, the forms R120 allows, the registers an instruction touches, the operand forms of
Table 5.6, and the issue and completion of an instruction. -/

namespace Sys2Proof.Machine

/-! ### Fields of an instruction word (Table 6.1) -/

/-- Opcode [35:27]. -/
def opOf (w : Word) : Nat := (w.extractLsb' 27 9).toNat
/-- Mode [26:24]. -/
def modeOf (w : Word) : Nat := (w.extractLsb' 24 3).toNat
/-- Field [23:12]. -/
def highOf (w : Word) : BitVec 12 := w.extractLsb' 12 12
/-- addr [11:0]. -/
def addrOf (w : Word) : BitVec 12 := w.extractLsb' 0 12
/-- Register code addr[3:0]. -/
def codeOf (w : Word) : Nat := (w.extractLsb' 0 4).toNat

/-- Mode 111 names a register code with addr[11:4] zero (Table 5.7). -/
def regCodeOk (w : Word) : Bool := w.extractLsb' 4 8 == 0
/-- Mode 111 names a code 0 to 7. -/
def regLowOk (w : Word) : Bool := w.extractLsb' 3 9 == 0

/-- Format M with modes lo to hi (Table 6.1). -/
def legalM (w : Word) (lo hi : Nat) : Bool :=
  decide (lo ≤ modeOf w) && decide (modeOf w ≤ hi) && (modeOf w == 0 || highOf w == 0) && (modeOf w != 7 || regCodeOk w)
/-- Mode 111 with addr zero and [23:12] zero. -/
def legalImplied (w : Word) : Bool := modeOf w == 7 && highOf w == 0 && addrOf w == 0
/-- Format MF with modes lo to 110 and the function bits above the low n zero. -/
def legalMF (w : Word) (lo n : Nat) : Bool :=
  decide (lo ≤ modeOf w) && decide (modeOf w ≤ 6) && highOf w >>> n == 0
/-- Format LDR, STR: register code 0 to 7 in [15:12]. -/
def legalMFReg (w : Word) (lo : Nat) : Bool := legalMF w lo 3
/-- Format J. -/
def legalJ (w : Word) : Bool :=
  (modeOf w == 0 && w.extractLsb' 15 9 == 0) || (modeOf w == 7 && highOf w == 0 && regLowOk w)
/-- Format SY in mode 000 with an n-bit number. -/
def legalSy (w : Word) (n : Nat) : Bool := modeOf w == 0 && highOf w == 0 && addrOf w >>> n == 0
/-- Format FM of the FP unit. -/
def legalFM (w : Word) : Bool :=
  if opOf w % 2 = 0 then legalM w 1 7 else legalM w 1 6

/-- The opcodes of the two groups that share format M with all modes. -/
def isPlainM (op : Nat) : Bool :=
  (0x010 ≤ op && op ≤ 0x014) || (0x016 ≤ op && op ≤ 0x01C) || (0x020 ≤ op && op ≤ 0x025) || op == 0x028 || op == 0x029 ||
  (0x02C ≤ op && op ≤ 0x02F) || op == 0x001

/-- The word has a listed opcode and one of its forms (R120, R144, R159). -/
def legal (w : Word) : Bool :=
  let op := opOf w
  if isPlainM op then legalM w 0 7
  else if op = 0x015 ∨ op = 0x01D then legalImplied w
  else if op = 0x002 then legalMFReg w 0
  else if op = 0x009 then legalMFReg w 1
  else if op = 0x003 ∨ op = 0x00A then legalMF w 1 2
  else if op = 0x004 ∨ op = 0x00B then legalMF w 1 1
  else if op = 0x005 ∨ op = 0x00C ∨ op = 0x030 ∨ op = 0x031 then legalM w 1 6
  else if op = 0x008 then legalM w 1 7
  else if 0x080 ≤ op ∧ op ≤ 0x090 then legalJ w
  else if op = 0x091 ∨ op = 0x095 ∨ op = 0x0A3 ∨ op = 0x0AD ∨ op = 0x1C0 ∨ op = 0x1C4 then legalImplied w
  else if op = 0x094 then modeOf w == 0 || (modeOf w == 7 && w.extractLsb' 12 10 == 0)
  else if 0x098 ≤ op ∧ op ≤ 0x09B then modeOf w == 0 && w.extractLsb' 13 11 == 0 && (op == 0x09B || !w.getLsbD 12)
  else if 0x0A0 ≤ op ∧ op ≤ 0x0A2 then (modeOf w == 0 && highOf w == 0) || (modeOf w == 7 && highOf w == 0 && regLowOk w)
  else if op = 0x0A8 then modeOf w == 7 && addrOf w == 0 && !w.getLsbD 12
  else if op = 0x0A9 then (modeOf w == 1 || modeOf w == 2 || modeOf w == 3 || modeOf w == 6) && !w.getLsbD 12
  else if op = 0x0AA ∨ op = 0x0AB then modeOf w == 7 && addrOf w == 0 && w.extractLsb' 12 5 == 0
  else if op = 0x0AC then legalSy w 2
  else if op = 0x1C1 ∨ op = 0x1C2 then legalSy w 7
  else if op = 0x1C3 then legalSy w 5
  else if op = 0x100 ∨ op = 0x101 ∨ (0x106 ≤ op ∧ op ≤ 0x10D) ∨ op = 0x128 then legalM w 1 6
  else if op = 0x102 then legalImplied w
  else if op = 0x104 ∨ op = 0x105 then legalM w 1 6 || legalImplied w
  else if (0x110 ≤ op ∧ op ≤ 0x116) ∨ op = 0x118 ∨ op = 0x120 ∨ op = 0x121 ∨ (0x194 ≤ op ∧ op ≤ 0x19B) then modeOf w == 2 || modeOf w == 3
  else if op = 0x122 then (modeOf w == 2 || modeOf w == 3) && w.extractLsb' 21 3 == 0 && w.extractLsb' 12 8 == 0
  else if op = 0x129 then
    decide (1 ≤ modeOf w) && w.extractLsb' 14 10 == 0 && (modeOf w != 7 || addrOf w == 0)
  else if (0x180 ≤ op ∧ op ≤ 0x187) ∨ (0x18A ≤ op ∧ op ≤ 0x191) then legalFM w
  else if op = 0x188 ∨ op = 0x189 ∨ (0x1A0 ≤ op ∧ op ≤ 0x1A9) ∨ op = 0x1B0 then legalImplied w
  else false

/-! ### Registers touched (R161) -/

/-- The instruction reads or writes register `code` (0 A, 1 H, 7 F) as its mode-111 operand or named register. -/
def namesReg (w : Word) (code : Nat) : Bool :=
  let op := opOf w
  if op = 0x002 ∨ op = 0x009 then (w.extractLsb' 12 3).toNat == code
  else modeOf w == 7 && codeOf w == code && (isPlainM op || op == 0x008 || (0x080 ≤ op && op ≤ 0x090) || (0x0A0 ≤ op && op ≤ 0x0A2))

/-- The instruction reads or writes A. -/
def touchesA (w : Word) : Bool :=
  let op := opOf w
  namesReg w 0 || op == 0x001 || (0x003 ≤ op && op ≤ 0x005) || op == 0x008 || (0x00A ≤ op && op ≤ 0x00C) || op == 0x030 || op == 0x031 ||
  (0x010 ≤ op && op ≤ 0x015) || (0x018 ≤ op && op ≤ 0x02F) || (op == 0x094 && modeOf w == 7) || op == 0x099 || op == 0x09B ||
  (0x0A0 ≤ op && op ≤ 0x0A2) || op == 0x0AA || op == 0x0AB || op == 0x1C1 || op == 0x1C2 || op == 0x102 || op == 0x128 || op == 0x129 ||
  (0x180 ≤ op && op ≤ 0x1A9)

/-- The instruction reads or writes H. -/
def touchesH (w : Word) : Bool :=
  let op := opOf w
  namesReg w 1 || op == 0x005 || op == 0x00C || op == 0x024 || op == 0x025 || (0x028 ≤ op && op ≤ 0x02F) ||
  (0x180 ≤ op && op ≤ 0x1A9)

/-- The instruction reads or writes F. -/
def touchesF (w : Word) : Bool :=
  let op := opOf w
  namesReg w 7 || (0x010 ≤ op && op ≤ 0x015) || (0x018 ≤ op && op ≤ 0x02F) || (0x081 ≤ op && op ≤ 0x08F) || op == 0x09A || op == 0x09B ||
  op == 0x128 || op == 0x129 || op == 0x1C4

/-- FP instructions whose result takes H (R161). -/
def fpWritesH (op : Nat) : Bool :=
  op == 0x1A1 || op == 0x1A7 || op == 0x1A9 || (op % 2 == 1 && ((0x180 ≤ op && op ≤ 0x18D) || (0x194 ≤ op && op ≤ 0x19B)))
/-- FP instructions whose outstanding result holds H: every .D form and FCVT.D.S, FITOF.D, FUTOF.D (R161). -/
def fpHoldsH (op : Nat) : Bool := fpWritesH op || op == 0x1A0 || (op % 2 == 1 && 0x180 ≤ op && op ≤ 0x1A9)
/-- FCMP and FCMPE. -/
def fpWritesF (op : Nat) : Bool := 0x18E ≤ op && op ≤ 0x191
/-- FP instructions that write A. -/
def fpWritesA (op : Nat) : Bool := !fpWritesF op
/-- The FP instruction writes the register of a code. -/
def fpWrites (op : Nat) (code : BitVec 4) : Bool :=
  (code == 0 && fpWritesA op) || (code == 1 && fpWritesH op) || (code == 7 && fpWritesF op)

/-- An outstanding FP instruction holds the instruction at issue (R161). -/
def Core.fpStall (c : Core) (w : Word) : Bool :=
  match c.fpu with
  | none => false
  | some f =>
    let op := f.opcode.toNat
    touchesA w || (fpHoldsH op && touchesH w) || (fpWritesF op && touchesF w) || opOf w == 0x1B0 || opOf w == 0x0A3 || opOf w == 0x1C3

/-! ### Operand forms (Table 5.6) -/

/-- Effective address of a mode 001 to 110 (R102). -/
def Core.ea (c : Core) (mode : Nat) (addr : BitVec 12) : Nat :=
  match mode with
  | 1 => c.b.toNat * 0x1000 + addr.toNat
  | 2 => (c.x + sext12 addr).toNat % 0x20000
  | 3 => (c.y + sext12 addr).toNat % 0x20000
  | 4 => c.x.toNat % 0x20000
  | 5 => c.y.toNat % 0x20000
  | _ => 0x1F000 + addr.toNat

/-- The index step of modes 100 and 101, made at completion (R102). -/
def Core.step (c : Core) (mode : Nat) (addr : BitVec 12) : Core :=
  if mode = 4 then { c with x := c.x + sext12 addr } else if mode = 5 then { c with y := c.y + sext12 addr } else c

/-- The immediate of format M, mode 000: [23:0] sign-extended (R121). -/
def immM (w : Word) : Word := (w.extractLsb' 0 24).signExtend 36

/-- How control goes on after an instruction completes: in sequence, to a target, not at all (ENDA, a PC already set), or back
from a trap, where the reinstated delays are not aged. -/
inductive Flow where
  | seq
  | jump (target : BitVec 15)
  | ended
  | returned
  deriving DecidableEq, Repr

/-- What an instruction does at issue: completes, with its flow and the loads it starts; traps synchronously; stalls; or stops
the engine. -/
inductive Eff where
  | done (s : State) (flow : Flow) (loads : List PendLoad)
  | trap (cause : BitVec 6) (tpc : BitVec 15) (info : Word) (s : State)
  | stall
  | halt (s : State)

/-- Completed in sequence, nothing loaded. -/
def Eff.next (s : State) : Eff := .done s .seq []

/-- An illegal-instruction trap at engine g's PC (Table 5.10). -/
def illegalEff (s : State) (g : Nat) : Eff := let c := s.core g; .trap 0 c.pc (c.pc.zeroExtend 36) s

/-- A trap whose TINFO is a local address, TPC the instruction. -/
def addressEff (s : State) (g cause adr : Nat) : Eff := .trap (BitVec.ofNat 6 cause) (s.core g).pc (BitVec.ofNat 36 adr) s

/-- The operand m of format M (R121, Table 5.6) handed on, or the trap its read raises. -/
def withOperand (g : Nat) (w : Word) (s : State) (k : Word → State → Eff) : Eff :=
  let c := s.core g
  match modeOf w with
  | 0 => k (immM w) s
  | 7 => k (c.reg (codeOf w)) s
  | m =>
    let adr := c.ea m (addrOf w)
    match s.engineRead g adr 31 with
    | (some v, s) => k v s
    | (none, s) => addressEff s g 3 adr

/-- The pair at the effective address, aligned to 2 (R103). -/
def withPair (g : Nat) (w : Word) (s : State) (k : Word → Word → State → Eff) : Eff :=
  let adr := (s.core g).ea (modeOf w) (addrOf w)
  if adr % 2 = 1 then addressEff s g 2 adr else
  match s.engineReads g adr 2 with
  | (.inr [lo, hi], s) => k lo hi s
  | (.inr _, s) => k 0 0 s
  | (.inl a, s) => addressEff s g 3 a

/-- The vector at an address, aligned to 8 (R103, R156). -/
def withVector (g adr : Nat) (s : State) (k : Vec → State → Eff) : Eff :=
  if adr % 8 ≠ 0 then addressEff s g 2 adr else
  match s.engineReads g adr 8 with
  | (.inr l, s) => k (vecOfList l) s
  | (.inl a, s) => addressEff s g 3 a

/-- Words from an address handed on, or the trap of the first failing one (R152). -/
def withWords (g adr n : Nat) (s : State) (k : List Word → State → Eff) : Eff :=
  match s.engineReads g adr n with
  | (.inr l, s) => k l s
  | (.inl a, s) => addressEff s g 3 a

/-- Words of two operands, both read and checked before a failing one traps; the first operand's failure is the one named (R156). -/
def withBoth (g a n b m : Nat) (s : State) (k : List Word → List Word → State → Eff) : Eff :=
  let (p, s) := s.engineReads g a n
  let (q, s) := s.engineReads g b m
  match p, q with
  | .inl e, _ => addressEff s g 3 e
  | .inr _, .inl e => addressEff s g 3 e
  | .inr p, .inr q => k p q s

/-- A store of engine g is refused: bank 0 (Table 5.5), or a retired page (R208). -/
def storeTrap (s : State) (g adr : Nat) : Option Nat :=
  if adr < 0x8000 then some 1 else if s.retiredPage g adr then some 3 else none

/-- A refused store traps; at a retired page it fails as an uncorrectable read does, with its level-3 event (R197, R208). -/
def refuseStore (s : State) (g cause adr : Nat) : Eff :=
  addressEff (if cause = 3 then s.raise g 0x02 3 adr g else s) g cause adr

/-- Words stored from an address on by the pipeline. -/
def storeWords (g adr : Nat) (cover : BitVec 4) (l : List Word) (s : State) (k : State → Eff) : Eff :=
  match storeTrap s g adr with
  | some cause => refuseStore s g cause adr
  | none =>
    match l with
    | [v] => k (s.writeLocal g adr cover v)
    | l => k (s.writeLocals g adr l)

/-! ### Issue and completion -/

/-- Registers of the loops as the end check sees them: the oldest write in its window undone (R109, Table 5.8, case 10). -/
def Core.seenLoops (c : Core) : LoopRegs :=
  c.loopWrites.foldr (fun x l =>
    let n := x.special.toNat
    let v := x.before
    if n = 0x09 then { l with lst := v.truncate 2 }
    else if h : 0x0A ≤ n ∧ n ≤ 0x0C then { l with ls := l.ls.set (n - 0x0A) (v.truncate 15) (by omega) }
    else if h : 0x0D ≤ n ∧ n ≤ 0x0F then { l with le := l.le.set (n - 0x0D) (v.truncate 15) (by omega) }
    else if h : 0x10 ≤ n ∧ n ≤ 0x12 then { l with lc := l.lc.set (n - 0x10) (v.truncate 24) (by omega) }
    else l) c.loops

/-- A loop register the end check may write: not one that an MTS within two instructions wrote (R109). -/
def Core.mayWriteLoop (c : Core) (special : Nat) : Bool := !c.loopWrites.any (fun x => x.special.toNat == special)

/-- LCn written by the end check. -/
def Core.setLc (c : Core) (m : Nat) (v : BitVec 24) : Core :=
  if h : m < 3 then (if c.mayWriteLoop (0x10 + m) then { c with loops := { c.loops with lc := c.loops.lc.set m v h } } else c) else c

/-- LST written by the end check. -/
def Core.setLst (c : Core) (m : Nat) : Core :=
  if c.mayWriteLoop 0x09 then { c with loops := { c.loops with lst := BitVec.ofNat 2 m } } else c

/-- The end check of R109 from level m, deciding on the registers as seen; the start of the level that goes round again, or none
when control leaves the loops. -/
def Core.endCheck (c : Core) (l : LoopRegs) (m : Nat) : Core × Option (BitVec 15) :=
  match m with
  | 0 =>
    let lc := (l.lc.toList.getD 0 0) - 1
    let c := c.setLc 0 lc
    if lc ≠ 0 then (c, some (l.ls.toList.getD 0 0)) else (c.setLst 0, none)
  | m' + 1 =>
    let lc := (l.lc.toList.getD (m' + 1) 0) - 1
    let c := c.setLc (m' + 1) lc
    if lc ≠ 0 then (c, some (l.ls.toList.getD (m' + 1) 0)) else
    let c := c.setLst (m' + 1)
    if l.le.toList.getD m' 0 = l.le.toList.getD (m' + 1) 0 then Core.endCheck c l m' else (c, none)
termination_by structural m

/-- The PC after sequential flow: the next address, or past 0x7FFF (R101). -/
def Core.advance (c : Core) (pc : BitVec 15) : Core :=
  if pc = 0x7FFF then { c with pc := pc, past := true } else { c with pc := pc + 1 }

/-- MTS writes to loop registers one instruction older; the end checks of three instructions, the MTS's own among them, do not see
them (R109, Table 5.8, case 10). -/
def Core.ageLoops (c : Core) : Core :=
  { c with loopWrites := (c.loopWrites.filter (fun x => decide (1 < x.left))).map (fun x => { x with left := x.left - 1 }) }

/-- Completion of an instruction that stood at `pc`: loads due written last, new loads begun, the end check, the next PC (R104, R109). -/
def Core.complete (c : Core) (pc : BitVec 15) (flow : Flow) (loads : List PendLoad) : Core :=
  let c := if flow = .returned then c else c.ageLoads
  let c := { c with delay := c.delay ++ loads }
  let l := c.seenLoops
  let m := l.lst.toNat
  let c := match flow with
    | .ended => c
    | .returned => c
    | .jump t => { c with pc := t }
    | .seq =>
      if ¬ c.handler ∧ 0 < m ∧ l.le.toList.getD (m - 1) 0 = pc then
        match c.endCheck l (m - 1) with
        | (c, some t) => { c with pc := t }
        | (c, none) => c.advance pc
      else c.advance pc
  c.ageLoops

/-- The FP trap is due at this instruction boundary: four records, outside handler mode, no load in its delay (R105, R173). -/
def Core.fpDue (c : Core) : Bool := decide (4 ≤ c.fpq.length) && !c.handler && c.delay.isEmpty

/-- Engine g may issue: an activation runs, and the engine is neither stopped nor held by retirement (R114, R208). -/
def State.issuing (s : State) (g : Nat) : Bool := (s.core g).act.isSome && !(s.core g).stopped && !s.retiredEngine g

/-- The FP trap at an instruction boundary, when it is due; TPC names the instruction that would have issued next (R173). -/
def Core.boundary (c : Core) : Core := if c.fpDue then c.takeFpTrap c.pc else c

/-- The effect of an instruction made the next state (R113, R114). A synchronous trap goes before an FP trap that is due at the same
instruction; the FP trap then comes straight after RETT (R114, R174). -/
def applyEff (s0 : State) (g : Nat) (e : Eff) : State :=
  let c0 := s0.core g
  match e with
  | .stall => if c0.fpDue then s0.setCore g c0.boundary else s0
  | .halt s => if c0.fpDue then s0.setCore g c0.boundary else s
  | .trap cause tpc info s =>
    if c0.fpu.isSome then s0 else s.syncTrap g (!c0.delay.isEmpty) cause tpc info
  | .done s flow loads =>
    if c0.fpDue then s0.setCore g c0.boundary else
    let c := (s.core g).complete c0.pc flow loads
    s.setCore g (if flow = .returned then c.boundary else c)

/-- Engine g fetches the word at its PC (R101, R115): uncorrectable, the engine stops. -/
def withFetch (g : Nat) (s : State) (k : Word → State → State) : State :=
  match s.readLocal g (s.core g).pc.toNat 31 with
  | (.ok w, s) => k w s
  | (.bad _ i u, s) => s.stopMarked g 8 i u

/-- Engine g issues the instruction of opcode `op`: the step occurs when that instruction stands at the PC; a form R120
refuses traps (assumption 10). -/
def issue (g op : Nat) (body : Word → State → Eff) (s : State) : State :=
  if s.issuing g ∧ ¬ (s.core g).past then
    withFetch g s fun w t =>
      if opOf w = op then
        if (t.core g).fpStall w then (if (s.core g).fpDue then s.setCore g (s.core g).boundary else s)
        else applyEff t g (if legal w then body w t else illegalEff t g)
      else s
  else s

/-- Engine g's core changed by an instruction that only writes registers, completing in sequence. -/
def regEff (s : State) (g : Nat) (c : Core) : Eff := .next (s.setCore g c)

end Sys2Proof.Machine
end

