-- ==== Sys2Proof/Machine/Memory.lean ====
section
/-! DEFINITION. Loads, stores and local atomics (R123 to R125, Table 6.3). -/

namespace Sys2Proof.Machine

/-- Core with the index step of its mode made. -/
def stepped (s : State) (g : Nat) (w : Word) : Core := (s.core g).step (modeOf w) (addrOf w)

/-- A load of one register: modes 001 to 110 start a delay of one slot, the others write at once (R104, R124). -/
def loadInto (g : Nat) (w : Word) (code : Nat) (v : Word) (s : State) : Eff :=
  let c := stepped s g w
  if modeOf w = 0 ∨ modeOf w = 7 then regEff s g (c.setReg code v)
  else .done (s.setCore g c) .seq [{ reg := BitVec.ofNat 4 code, slots := 1, value := v.zeroExtend 288 }]

/-- LD: a := m. -/
def bodyLd (g : Nat) (w : Word) (s : State) : Eff := withOperand g w s fun m s => loadInto g w 0 m s

/-- LDR: r := m, mode 000 gives [11:0] sign-extended. -/
def bodyLdr (g : Nat) (w : Word) (s : State) : Eff :=
  let code := (w.extractLsb' 12 3).toNat
  if modeOf w = 0 then loadInto g w code (sext12 (addrOf w)) s else withOperand g w s fun m s => loadInto g w code m s

/-- A partial load reads its word with only its own nonets inside the access (R195). -/
def withPart (g : Nat) (w : Word) (inside : BitVec 5) (s : State) (k : Word → State → Eff) : Eff :=
  let adr := (s.core g).ea (modeOf w) (addrOf w)
  match s.engineRead g adr inside with
  | (some v, s) => k v s
  | (none, s) => addressEff s g 3 adr

/-- LDN: a := zx(nonet n). -/
def bodyLdn (g : Nat) (w : Word) (s : State) : Eff :=
  let n := (w.extractLsb' 12 2).toNat
  withPart g w (1#5 <<< n) s fun m s => loadInto g w 0 ((nonetOf m n).zeroExtend 36) s

/-- LDHF: a := zx(half h). -/
def bodyLdhf (g : Nat) (w : Word) (s : State) : Eff :=
  let h := (w.extractLsb' 12 1).toNat
  withPart g w (3#5 <<< (2 * h)) s fun m s => loadInto g w 0 ((halfOf m h).zeroExtend 36) s

/-- LDP: a := mem[ea]; h := mem[ea + 1], both delayed one slot. -/
def bodyLdp (g : Nat) (w : Word) (s : State) : Eff :=
  withPair g w s fun lo hi s =>
    .done (s.setCore g (stepped s g w)) .seq
      [{ reg := 0, slots := 1, value := lo.zeroExtend 288 }, { reg := 1, slots := 1, value := hi.zeroExtend 288 }]

/-- A store of one word at ea, of the nonets covered; bank 0 traps before anything is written. -/
def storeAt (g : Nat) (w : Word) (cover : BitVec 4) (v : Word) (s : State) : Eff :=
  storeWords g ((s.core g).ea (modeOf w) (addrOf w)) cover [v] s fun s => regEff s g (stepped s g w)

/-- ST: mem[ea] := a; in mode 111 register := a. -/
def bodySt (g : Nat) (w : Word) (s : State) : Eff :=
  let c := s.core g
  if modeOf w = 7 then regEff s g (c.setReg (codeOf w) c.a) else storeAt g w 15 c.a s

/-- STR: mem[ea] := zx(r). -/
def bodyStr (g : Nat) (w : Word) (s : State) : Eff := storeAt g w 15 ((s.core g).reg (w.extractLsb' 12 3).toNat) s

/-- STN: nonet n := a[8:0]. -/
def bodyStn (g : Nat) (w : Word) (s : State) : Eff :=
  let n := (w.extractLsb' 12 2).toNat
  storeAt g w (1#4 <<< n) (((s.core g).a.truncate 9).zeroExtend 36 <<< (9 * n)) s

/-- STHF: half h := a[17:0]. -/
def bodySthf (g : Nat) (w : Word) (s : State) : Eff :=
  let h := (w.extractLsb' 12 1).toNat
  storeAt g w (3#4 <<< (2 * h)) (((s.core g).a.truncate 18).zeroExtend 36 <<< (18 * h)) s

/-- STP: mem[ea] := a; mem[ea + 1] := h. -/
def bodyStp (g : Nat) (w : Word) (s : State) : Eff :=
  let c := s.core g
  let adr := c.ea (modeOf w) (addrOf w)
  if adr % 2 = 1 then addressEff s g 2 adr else
  storeWords g adr 15 [c.a, c.h] s fun s => regEff s g (stepped s g w)

/-- XADD and SWAP: t := mem[ea]; mem[ea] := f t a; a := t, in banks 1 and 2 only (R125). A corrected word is written once (R198). -/
def bodyAtomic (f : Word → Word → Word) (g : Nat) (w : Word) (s : State) : Eff :=
  let c := s.core g
  let adr := c.ea (modeOf w) (addrOf w)
  if adr < 0x8000 ∨ 0x18000 ≤ adr then illegalEff s g else
  match s.engineRead g adr 31 with
  | (none, s) => addressEff s g 3 adr
  | (some t, s) =>
    let s := s.writeLocal g adr 15 (f t c.a)
    regEff s g { stepped s g w with a := t }

/-- LD (R123). -/
def execLd (g : BitVec 9) (s : State) : Host.Outcome State Fault Refusal := .next (issue g.toNat 0x001 (bodyLd g.toNat) s)
/-- LDR (R123). -/
def execLdr (g : BitVec 9) (s : State) : Host.Outcome State Fault Refusal := .next (issue g.toNat 0x002 (bodyLdr g.toNat) s)
/-- LDN (R123). -/
def execLdn (g : BitVec 9) (s : State) : Host.Outcome State Fault Refusal := .next (issue g.toNat 0x003 (bodyLdn g.toNat) s)
/-- LDHF (R123). -/
def execLdhf (g : BitVec 9) (s : State) : Host.Outcome State Fault Refusal := .next (issue g.toNat 0x004 (bodyLdhf g.toNat) s)
/-- LDP (R123). -/
def execLdp (g : BitVec 9) (s : State) : Host.Outcome State Fault Refusal := .next (issue g.toNat 0x005 (bodyLdp g.toNat) s)
/-- ST (R123). -/
def execSt (g : BitVec 9) (s : State) : Host.Outcome State Fault Refusal := .next (issue g.toNat 0x008 (bodySt g.toNat) s)
/-- STR (R123). -/
def execStr (g : BitVec 9) (s : State) : Host.Outcome State Fault Refusal := .next (issue g.toNat 0x009 (bodyStr g.toNat) s)
/-- STN (R123). -/
def execStn (g : BitVec 9) (s : State) : Host.Outcome State Fault Refusal := .next (issue g.toNat 0x00A (bodyStn g.toNat) s)
/-- STHF (R123). -/
def execSthf (g : BitVec 9) (s : State) : Host.Outcome State Fault Refusal := .next (issue g.toNat 0x00B (bodySthf g.toNat) s)
/-- STP (R123). -/
def execStp (g : BitVec 9) (s : State) : Host.Outcome State Fault Refusal := .next (issue g.toNat 0x00C (bodyStp g.toNat) s)
/-- XADD (R123, R125). -/
def execXadd (g : BitVec 9) (s : State) : Host.Outcome State Fault Refusal := .next (issue g.toNat 0x030 (bodyAtomic (· + ·) g.toNat) s)
/-- SWAP (R123, R125). -/
def execSwap (g : BitVec 9) (s : State) : Host.Outcome State Fault Refusal := .next (issue g.toNat 0x031 (bodyAtomic (fun _ a => a) g.toNat) s)

end Sys2Proof.Machine
end

