-- ==== Sys2Proof/Machine/Arith.lean ====
section
/-! DEFINITION. Integer arithmetic, logic, shifts, multiply and divide (R126 to R130, Tables 6.4 and 6.5). -/

namespace Sys2Proof.Machine

/-- An instruction whose operand is m and whose effect is on registers alone: the index step is made, then f's writes stand. -/
def aluBody (f : Core → Word → Core) (g : Nat) (w : Word) (s : State) : Eff :=
  withOperand g w s fun m s => regEff s g (f (stepped s g w) m)

/-- The carry flag. -/
def Core.carry (c : Core) : Bool := c.f.getLsbD 0

/-- a := a + m + cin with flags. -/
def addWith (cin : Core → Bool) (c : Core) (m : Word) : Core :=
  { c with a := c.a + m + (if cin c then 1 else 0), f := flagsAdd c.f c.a m (cin c) }

/-- a := a − m − cin with flags. -/
def subWith (cin : Core → Bool) (c : Core) (m : Word) : Core :=
  { c with a := c.a - m - (if cin c then 1 else 0), f := flagsSub c.f c.a m (cin c) }

/-- CMP: flags of a − m. -/
def cmpWith (c : Core) (m : Word) : Core := { c with f := flagsSub c.f c.a m false }

/-- A logical operation into A with Z and N. -/
def logicWith (op : Word → Word → Word) (c : Core) (m : Word) : Core :=
  { c with a := op c.a m, f := flagsLogic c.f (op c.a m) }

/-- TST: Z and N of a and m. -/
def tstWith (c : Core) (m : Word) : Core := { c with f := flagsLogic c.f (c.a &&& m) }

/-- A shift of A by m[5:0]. -/
def shiftWith (sh : Word → Nat → Bool → Word × Bool) (c : Core) (m : Word) : Core :=
  let (r, cy) := sh c.a (m.toNat % 64) c.carry
  { c with a := r, f := setCZN c.f cy (r == 0) r.msb }

/-- A:H as a pair, A the low word (R3). -/
def Core.pair (c : Core) : BitVec 72 := c.h ++ c.a

/-- A:H written. -/
def Core.setPair (c : Core) (v : BitVec 72) : Core := { c with a := v.extractLsb' 0 36, h := v.extractLsb' 36 36 }

/-- A shift of A:H by m[6:0]. -/
def shiftPairWith (sh : BitVec 72 → Nat → Bool → BitVec 72 × Bool) (c : Core) (m : Word) : Core :=
  let (r, cy) := sh c.pair (m.toNat % 128) c.carry
  { c.setPair r with f := setCZN c.f cy (r == 0) r.msb }

/-- MUL (R128). -/
def mulSigned (c : Core) (m : Word) : Core :=
  let p : BitVec 72 := c.a.signExtend 72 * m.signExtend 72
  let big := decide (p.extractLsb' 36 36 ≠ (if p.getLsbD 35 then BitVec.allOnes 36 else 0))
  { c.setPair p with f := setCZNO c.f big (p == 0) p.msb big }

/-- MULU (R128). -/
def mulUnsigned (c : Core) (m : Word) : Core :=
  let p : BitVec 72 := c.a.zeroExtend 72 * m.zeroExtend 72
  let big := decide (p.extractLsb' 36 36 ≠ 0)
  { c.setPair p with f := setCZNO c.f big (p == 0) p.msb big }

/-- The result registers and flags of a divide (R129): D, O given. -/
def divideOut (c : Core) (a h : Word) (d o : Bool) : Core :=
  { c with a := a, h := h, f := BitVec.ofBool d ++ BitVec.ofBool o ++ BitVec.ofBool a.msb ++ BitVec.ofBool (a == 0) ++ 0#1 }

/-- A divide of the integer dvd by dvs with quotients from lo to hi (R129). -/
def divideWith (dvd : Core → Int) (dvs : Word → Int) (lo hi : Int) (c : Core) (m : Word) : Core :=
  if m = 0 then divideOut c (BitVec.allOnes 36) c.a true false else
  let q := Int.tdiv (dvd c) (dvs m)
  let r := dvd c - q * dvs m
  if q < lo ∨ hi < q then divideOut c (BitVec.allOnes 36) c.a false true
  else divideOut c (BitVec.ofInt 36 q) (BitVec.ofInt 36 r) false false

/-- NEG and NOT take mode 111 with no operand. -/
def unaryBody (f : Core → Core) (g : Nat) (_w : Word) (s : State) : Eff := regEff s g (f (s.core g))

/-- ADX: in mode 100 x := x + m with no step (R102). -/
def bodyAdx (g : Nat) (w : Word) (s : State) : Eff :=
  withOperand g w s fun m s =>
    let c := if modeOf w = 4 then s.core g else stepped s g w
    regEff s g { c with x := c.x + m }

/-- ADY: in mode 101 y := y + m with no step (R102). -/
def bodyAdy (g : Nat) (w : Word) (s : State) : Eff :=
  withOperand g w s fun m s =>
    let c := if modeOf w = 5 then s.core g else stepped s g w
    regEff s g { c with y := c.y + m }

/-- No carry in. -/
def noCarry (_ : Core) : Bool := false

/-- ADD (R126). -/
def execAdd (g : BitVec 9) (s : State) : Host.Outcome State Fault Refusal := .next (issue g.toNat 0x010 (aluBody (addWith noCarry) g.toNat) s)
/-- ADC (R126). -/
def execAdc (g : BitVec 9) (s : State) : Host.Outcome State Fault Refusal := .next (issue g.toNat 0x011 (aluBody (addWith Core.carry) g.toNat) s)
/-- SUB (R126). -/
def execSub (g : BitVec 9) (s : State) : Host.Outcome State Fault Refusal := .next (issue g.toNat 0x012 (aluBody (subWith noCarry) g.toNat) s)
/-- SBB (R126). -/
def execSbb (g : BitVec 9) (s : State) : Host.Outcome State Fault Refusal := .next (issue g.toNat 0x013 (aluBody (subWith Core.carry) g.toNat) s)
/-- CMP (R126). -/
def execCmp (g : BitVec 9) (s : State) : Host.Outcome State Fault Refusal := .next (issue g.toNat 0x014 (aluBody cmpWith g.toNat) s)
/-- NEG (R126): 0 − a. -/
def execNeg (g : BitVec 9) (s : State) : Host.Outcome State Fault Refusal :=
  .next (issue g.toNat 0x015 (unaryBody (fun c => { c with a := 0 - c.a, f := flagsSub c.f 0 c.a false }) g.toNat) s)
/-- ADX (R126). -/
def execAdx (g : BitVec 9) (s : State) : Host.Outcome State Fault Refusal := .next (issue g.toNat 0x016 (bodyAdx g.toNat) s)
/-- ADY (R126). -/
def execAdy (g : BitVec 9) (s : State) : Host.Outcome State Fault Refusal := .next (issue g.toNat 0x017 (bodyAdy g.toNat) s)
/-- AND (R126). -/
def execAnd (g : BitVec 9) (s : State) : Host.Outcome State Fault Refusal := .next (issue g.toNat 0x018 (aluBody (logicWith (· &&& ·)) g.toNat) s)
/-- OR (R126). -/
def execOr (g : BitVec 9) (s : State) : Host.Outcome State Fault Refusal := .next (issue g.toNat 0x019 (aluBody (logicWith (· ||| ·)) g.toNat) s)
/-- XOR (R126). -/
def execXor (g : BitVec 9) (s : State) : Host.Outcome State Fault Refusal := .next (issue g.toNat 0x01A (aluBody (logicWith (· ^^^ ·)) g.toNat) s)
/-- ANDN (R126). -/
def execAndn (g : BitVec 9) (s : State) : Host.Outcome State Fault Refusal :=
  .next (issue g.toNat 0x01B (aluBody (logicWith (fun a m => a &&& ~~~m)) g.toNat) s)
/-- TST (R126). -/
def execTst (g : BitVec 9) (s : State) : Host.Outcome State Fault Refusal := .next (issue g.toNat 0x01C (aluBody tstWith g.toNat) s)
/-- NOT (R126). -/
def execNot (g : BitVec 9) (s : State) : Host.Outcome State Fault Refusal :=
  .next (issue g.toNat 0x01D (unaryBody (fun c => { c with a := ~~~c.a, f := flagsLogic c.f (~~~c.a) }) g.toNat) s)
/-- SHL (R126). -/
def execShl (g : BitVec 9) (s : State) : Host.Outcome State Fault Refusal := .next (issue g.toNat 0x020 (aluBody (shiftWith shlOut) g.toNat) s)
/-- SHR (R126). -/
def execShr (g : BitVec 9) (s : State) : Host.Outcome State Fault Refusal := .next (issue g.toNat 0x021 (aluBody (shiftWith shrOut) g.toNat) s)
/-- SAR (R126). -/
def execSar (g : BitVec 9) (s : State) : Host.Outcome State Fault Refusal := .next (issue g.toNat 0x022 (aluBody (shiftWith sarOut) g.toNat) s)
/-- ROL (R126). -/
def execRol (g : BitVec 9) (s : State) : Host.Outcome State Fault Refusal := .next (issue g.toNat 0x023 (aluBody (shiftWith rolOut) g.toNat) s)
/-- SHLP (R126). -/
def execShlp (g : BitVec 9) (s : State) : Host.Outcome State Fault Refusal := .next (issue g.toNat 0x024 (aluBody (shiftPairWith shlOut) g.toNat) s)
/-- SHRP (R126). -/
def execShrp (g : BitVec 9) (s : State) : Host.Outcome State Fault Refusal := .next (issue g.toNat 0x025 (aluBody (shiftPairWith shrOut) g.toNat) s)
/-- MUL (R128). -/
def execMul (g : BitVec 9) (s : State) : Host.Outcome State Fault Refusal := .next (issue g.toNat 0x028 (aluBody mulSigned g.toNat) s)
/-- MULU (R128). -/
def execMulu (g : BitVec 9) (s : State) : Host.Outcome State Fault Refusal := .next (issue g.toNat 0x029 (aluBody mulUnsigned g.toNat) s)
/-- DIV (R129). -/
def execDiv (g : BitVec 9) (s : State) : Host.Outcome State Fault Refusal :=
  .next (issue g.toNat 0x02C (aluBody (divideWith (fun c => c.a.toInt) BitVec.toInt (-(2 ^ 35)) (2 ^ 35 - 1)) g.toNat) s)
/-- DIVU (R129). -/
def execDivu (g : BitVec 9) (s : State) : Host.Outcome State Fault Refusal :=
  .next (issue g.toNat 0x02D (aluBody (divideWith (fun c => (c.a.toNat : Int)) (fun m => (m.toNat : Int)) 0 (2 ^ 36 - 1)) g.toNat) s)
/-- DIVL (R129). -/
def execDivl (g : BitVec 9) (s : State) : Host.Outcome State Fault Refusal :=
  .next (issue g.toNat 0x02E (aluBody (divideWith (fun c => c.pair.toInt) BitVec.toInt (-(2 ^ 35)) (2 ^ 35 - 1)) g.toNat) s)
/-- DIVLU (R129). -/
def execDivlu (g : BitVec 9) (s : State) : Host.Outcome State Fault Refusal :=
  .next (issue g.toNat 0x02F (aluBody (divideWith (fun c => (c.pair.toNat : Int)) (fun m => (m.toNat : Int)) 0 (2 ^ 36 - 1)) g.toNat) s)

end Sys2Proof.Machine
end

