-- ==== Sys2Proof/Machine/Send.lean ====
section
/-! DEFINITION. Building and sending packets: control fields, tokens, transaction heads and data flits (R24, R39, R213 to R215),
route entries (R224 to R226), injection, responses and ACCEPT. -/

namespace Sys2Proof.Machine

/-! ### Fields -/

/-- Token fields (Table 2.1). -/
def tokValue (t : BitVec 96) : Word := t.extractLsb' 0 36
def tokDevice (t : BitVec 96) : Nat := (t.extractLsb' 36 10).toNat
def tokEngine (t : BitVec 96) : Nat := (t.extractLsb' 46 9).toNat
def tokSlot (t : BitVec 96) : Nat := (t.extractLsb' 55 14).toNat
def tokTag (t : BitVec 96) : BitVec 8 := t.extractLsb' 69 8
def tokFlight (t : BitVec 96) : Nat := (t.extractLsb' 77 5).toNat
def tokClass (t : BitVec 96) : Nat := (t.extractLsb' 82 3).toNat

/-- A token with good CRC-8 (R24, R37). -/
def mkToken (value : Word) (device engine slot : Nat) (tag : Nat) (flight cls : Nat) : BitVec 96 :=
  sealToken (0#8 ++ 0#3 ++ BitVec.ofNat 3 cls ++ BitVec.ofNat 5 flight ++ BitVec.ofNat 8 tag ++ BitVec.ofNat 14 slot ++
    BitVec.ofNat 9 engine ++ BitVec.ofNat 10 device ++ value)

/-- Control-field fields (Table 2.5). -/
def ctlRoute (c : BitVec 96) : BitVec 42 := c.extractLsb' 0 42
def ctlGen (c : BitVec 96) : Bool := c.getLsbD 42
def ctlVc (c : BitVec 96) : BitVec 2 := c.extractLsb' 43 2
def ctlUrgency (c : BitVec 96) : BitVec 4 := c.extractLsb' 45 4
def ctlDevice (c : BitVec 96) : Nat := (c.extractLsb' 49 10).toNat
def ctlEngine (c : BitVec 96) : Nat := (c.extractLsb' 59 9).toNat
def ctlNode (c : BitVec 96) : Nat := (c.extractLsb' 68 14).toNat
def ctlSeq (c : BitVec 96) : BitVec 6 := c.extractLsb' 82 6

/-- Source node 0x3FFF: the source is a unit of its device (R40). -/
def ctlUnit (c : BitVec 96) : Bool := ctlNode c == 0x3FFF

/-- The source fields of a control field: device, engine or unit code, node, emit sequence. -/
structure Src where
  device : Nat
  engine : Nat
  node : Nat
  seq : Nat
  deriving DecidableEq, Repr

/-- Source fields as a control field carries them. -/
def srcOf (c : BitVec 96) : Src := { device := ctlDevice c, engine := ctlEngine c, node := ctlNode c, seq := (ctlSeq c).toNat }

/-- A control field with its parity (R39). -/
def mkCtl (route : BitVec 42) (gen : Bool) (vc urgency : Nat) (src : Src) : BitVec 96 :=
  sealCtl (0#8 ++ BitVec.ofNat 6 src.seq ++ BitVec.ofNat 14 src.node ++ BitVec.ofNat 9 src.engine ++ BitVec.ofNat 10 src.device ++
    BitVec.ofNat 4 urgency ++ BitVec.ofNat 2 vc ++ BitVec.ofBool gen ++ route)

/-- Virtual channel codes (Table 11.7). -/
abbrev vcReq : Nat := 0
abbrev vcRsp : Nat := 1
abbrev vcToken : Nat := 2
abbrev vcEscape : Nat := 3

/-- Header fields (Table 11.4). -/
def hdOffset (h : BitVec 96) : Nat := (h.extractLsb' 0 36).toNat
def hdSpace (h : BitVec 96) : Nat := (h.extractLsb' 36 4).toNat
def hdOp (h : BitVec 96) : Nat := (h.extractLsb' 40 6).toNat
def hdLen (h : BitVec 96) : Nat := (h.extractLsb' 46 6).toNat + 1
def hdTag (h : BitVec 96) : BitVec 12 := h.extractLsb' 52 12
def hdStatus (h : BitVec 96) : Nat := (h.extractLsb' 64 4).toNat
def hdFlight (h : BitVec 96) : Nat := (h.extractLsb' 68 5).toNat
def hdNamed (h : BitVec 96) : Bool := h.getLsbD 73

/-- A transaction head with its CRC-12 (Table 11.4, R215). -/
def mkHead (offset space op len : Nat) (tag : BitVec 12) (status flight : Nat) (named : Bool) : BitVec 96 :=
  let h : BitVec 84 := 0#10 ++ BitVec.ofBool named ++ BitVec.ofNat 5 flight ++ BitVec.ofNat 4 status ++ tag ++
    BitVec.ofNat 6 (len - 1) ++ BitVec.ofNat 6 op ++ BitVec.ofNat 4 space ++ BitVec.ofNat 36 offset
  crc12 84 h ++ h

/-- The CRC-12 remainder of a head against the stored one. -/
def headSyndrome (h : BitVec 96) : BitVec 12 := crc12 84 h ^^^ h.extractLsb' 84 12

/-- A data flit of up to five words (R215). -/
def dataFlit (ws : List Word) : BitVec 192 :=
  let d : BitVec 180 := ws.getD 4 0 ++ ws.getD 3 0 ++ ws.getD 2 0 ++ ws.getD 1 0 ++ ws.getD 0 0
  crc12 180 d ++ d

/-- The CRC-12 remainder of a data flit against the stored one. -/
def dataSyndrome (f : BitVec 192) : BitVec 12 := crc12 180 f ^^^ f.extractLsb' 180 12

/-- The data flits of a list of words (n bounds the flits). -/
def dataFlits : Nat → List Word → List (BitVec 192)
  | 0, _ => []
  | _, [] => []
  | n + 1, ws => dataFlit (ws.take 5) :: dataFlits n (ws.drop 5)

/-- The words of data flits. -/
def flitWords (fs : List (BitVec 192)) (n : Nat) : List Word :=
  (fs.flatMap (fun f => (List.range 5).map (fun i => f.extractLsb' (36 * i) 36))).take n

/-- Data flits of a request with this opcode and length (Table 11.5). -/
def requestData (op len : Nat) : Nat := if op = 2 then (len + 4) / 5 else if op = 3 ∨ op = 4 then 1 else 0

/-- A response opcode's request occupies this many flits (R219). -/
def requestFlits (rop len : Nat) : Nat := 1 + requestData (rop - 0x20) len

/-- Opcode of the response to a request: READ_RSP, with no data, for a reserved opcode (Table 11.5; assumption 36). -/
def responseOp (op : Nat) : Nat := if 1 ≤ op ∧ op ≤ 5 then op + 0x20 else 0x21

/-! ### Units -/

/-- Router of a target of transactions (Table 11.1). -/
def targetRouter (t : Target) : Nat :=
  match t with
  | .cluster c => c.toNat
  | .hbm n => 32 + n.toNat
  | .service => 45

/-- Unit codes (R40, R213): 0 bog controller, 1 management controller, 2 trace capture unit, 3 host interface, 4 waterline nodes. -/
def unitSrc (device code : Nat) : Src := { device := device, engine := code, node := 0x3FFF, seq := 0 }

/-- Fault source of router k (Table 15.1). -/
def routerSrc (k : Nat) : Nat := if k < 32 then srcId 18 k else srcId 19 (k - 32)

/-- A packet, a flit or a message discarded, counted at the unit of a source ID (R210, R215, R222, R256, R280). -/
def State.discard (s : State) (src : Nat) : State :=
  { s with noc := { s.noc with discarded := tput 0 src (tget 0 s.noc.discarded src + 1) s.noc.discarded } }

/-! ### Routes -/

/-- Entry i of a table (1 cluster, 2 device, 3 service) of the unit that injects at router k, generation in force (R224). -/
def State.routeEntry (s : State) (k tbl i : Nat) : Nat := s.obj (0x2A40 + k) tbl / 2 ^ (64 * i) % 2 ^ 64

/-- Route of an entry. -/
def entryRoute (e : Nat) : BitVec 42 := BitVec.ofNat 42 e
/-- State of an entry: 0 invalid, 1 live, 2 deflating (Table 11.9). -/
def entryState (e : Nat) : Nat := e / 2 ^ 42 % 4

/-- Entry to a logical engine of a device (R224). -/
def State.engineEntry (s : State) (k device engine : Nat) : Nat :=
  if device = s.devId then s.routeEntry k 1 (engine / 16) else s.routeEntry k 2 (device % 1024)

/-- Entry to a unit code of a device: unit 3 the host interface, the others the service router (R40, R213, R224). -/
def State.unitEntry (s : State) (k device code : Nat) : Nat :=
  if device = s.devId then s.routeEntry k 3 (if code = 3 then 1 else 0) else s.routeEntry k 2 (device % 1024)

/-- Entry back to the source that a control field names (R224). -/
def State.sourceEntry (s : State) (k : Nat) (src : Src) : Nat :=
  if src.node = 0x3FFF then s.unitEntry k src.device src.engine else s.engineEntry k src.device src.engine

/-! ### Injection -/

/-- A token flit to which the lull watch gives urgency 15 (R84). -/
def NFlit.urgent (x : NFlit) : Bool := ctlUrgency (x.bits.extractLsb' 96 96) == 15

/-- Flits that wait at the unit of router k, with new ones behind them; at a cluster an urgent token goes before those that are not, so
that activations of epoch w have precedence in emit arbitration (R84). -/
def queueFlits (k vc : Nat) (waiting new : List NFlit) : List NFlit :=
  if k < 32 ∧ 2 ≤ vc ∧ new.any NFlit.urgent then waiting.takeWhile NFlit.urgent ++ new ++ waiting.dropWhile NFlit.urgent
  else waiting ++ new

/-- Flits handed to the injecting unit of router k on channel vc; a route that a cluster interface finds all zero goes to its own
arrivals without entering the router (R211). -/
def State.inject (s : State) (k vc : Nat) (route : BitVec 42) (flits : List (BitVec 192)) : State :=
  let n := flits.length
  let tagged : List NFlit := flits.zipIdx.map (fun (b, i) =>
    { bits := b, inj := k,
      tag := if n = 1 then 3 else if i = 0 then 2 else if i + 1 = n then 1 else 0 })
  if k < 32 ∧ route = 0 then
    match flits with
    | [] => s
    | h :: d =>
      let x := s.cluster k
      let p : Pkt := { ctl := h.extractLsb' 96 96, head := h.extractLsb' 0 96, data := d, inj := some k }
      s.setCluster k { x with niIn := x.niIn ++ [(p, BitVec.ofNat 2 vc)] }
  else
    { s with noc := { s.noc with inject := tput [] (4 * k + vc) (queueFlits k vc (tget [] s.noc.inject (4 * k + vc)) tagged) s.noc.inject } }

/-- What is sent from here to closeInterface, the always-on interface of cluster c sends itself: it starts with no flits of the cluster. -/
def State.openInterface (s : State) (c : Nat) : State :=
  { s with noc := { s.noc with inject := (List.range 4).foldl (fun t v => tput [] (4 * c + v) [] t) s.noc.inject } }

/-- The flits sent since `s` wait apart from those of the cluster, which are as in `s` (R279). -/
def State.closeInterface (t : State) (c : Nat) (s : State) : State :=
  let waits := fun (l : Tab (List NFlit)) (v : Nat) => tget [] l (4 * c + v)
  let n := t.noc
  { t with noc := { n with
    relay := (List.range 4).foldl (fun r v => tput [] (4 * c + v) (waits r v ++ waits n.inject v) r) n.relay,
    inject := (List.range 4).foldl (fun r v => tput [] (4 * c + v) (waits s.noc.inject v) r) n.inject } }

/-- The absent map 0x2C00:06 (R256, R258). -/
def State.absentMap (s : State) : BitVec 1024 := (List.range 8).foldl (fun m p => m ||| (s.port p).absentSet) 0

/-- Device d is another device and in the absent map. -/
def State.absent (s : State) (d : Nat) : Bool := d != s.devId && s.absentMap.getLsbD d

/-- A packet sent from router k under an entry: nothing when the entry is invalid (R224); a response for an absent device is discarded
and counted (R256). -/
def State.sendPacket (s : State) (k vc urgency entry : Nat) (src : Src) (head : BitVec 96) (data : List Word) : State :=
  if vc = vcRsp ∧ s.absent src.device then s.discard (routerSrc k)
  else if entryState entry = 0 then s
  else
    let ctl := mkCtl (entryRoute entry) s.noc.gen vc urgency src
    s.inject k vc (entryRoute entry) ((ctl ++ head) :: dataFlits 13 data)

/-- Initial urgency of a token of epoch e at a unit whose view is w (R218), or the lull watch's (R84). -/
def State.tokenUrgency (s : State) (f e w : Nat) : Nat :=
  if (s.flight f).boost ∧ e = w then 15 else 8 - (e - w)

/-- Urgency on ESCAPE of a token (R218), or the lull watch's, when it is of epoch w of its flight (R84). -/
def State.escapeUrgency (s : State) (t : BitVec 96) : Nat :=
  let f := s.flight (tokFlight t)
  if f.boost ∧ (tokTag t).toNat = f.view % 256 then 15 else 8

/-- A token sent from router k under an entry: on ESCAPE when the entry is deflating (R225); a route fault when it is invalid
(R224). For an absent device it goes on ESCAPE to the bog controller, which holds it; reports and recompute requests are
discarded and counted (R256, R257). -/
def State.sendToken (s : State) (k vc urgency entry : Nat) (src : Src) (t : BitVec 96) : State :=
  let gone := s.absent (tokDevice t)
  if gone ∧ (tokClass t = 2 ∨ tokClass t = 3) then s.discard (routerSrc k) else
  let entry := if gone then s.routeEntry k 3 0 else entry
  let vc := if gone then vcEscape else vc
  let diverted := if urgency = 15 then 15 else s.escapeUrgency t
  match entryState entry with
  | 0 =>
    let c := mkCtl 0 s.noc.gen vc urgency src
    s.raise (srcId 26 (tokFlight t)) 0x21 3 (sourceField c) (k + 64)
  | 2 => s.inject k vcEscape (entryRoute entry) [mkCtl (entryRoute entry) s.noc.gen vcEscape diverted src ++ t]
  | _ => s.inject k vc (entryRoute entry) [mkCtl (entryRoute entry) s.noc.gen vc urgency src ++ t]

/-- ACCEPT of a token, from router k to the token's source (R42, R213). -/
def State.sendAccept (s : State) (k : Nat) (ctl tok : BitVec 96) : State :=
  let src := srcOf ctl
  let off := src.node + 2 ^ 14 * src.seq + 2 ^ 20 * (tokTag tok).toNat
  s.sendPacket k vcRsp 0 (s.sourceEntry k src) src (mkHead off 0 0x30 1 0 0 0 false) []

/-- A recompute request to the source of a bad token (Table 2.3): reason 0 from token unit `requester`, 1 from the bog controller. -/
def State.sendRecompute (s : State) (k requester reason : Nat) (me : Src) (ctl tok : BitVec 96) : State :=
  let src := srcOf ctl
  let v : Word := BitVec.ofNat 3 reason ++ BitVec.ofNat 10 s.devId ++ BitVec.ofNat 9 requester ++ BitVec.ofNat 6 src.seq ++ tokTag tok
  let t := mkToken v src.device (if src.node = 0x3FFF then 0 else src.engine) src.node (tokTag tok).toNat (tokFlight tok) 2
  s.sendToken k vcEscape (s.escapeUrgency t) (s.sourceEntry k src) me t

/-- The response to a request, from router k: source fields, tag, space, offset and length as in the request (R213, R214); by the
crossbar straight to the engine (R181). -/
def State.respond (s : State) (k : Nat) (p : Pkt) (op offset status : Nat) (data : List Word) : State :=
  let src := srcOf p.ctl
  let head := mkHead offset (hdSpace p.head) op (hdLen p.head) (hdTag p.head) status 0 false
  match p.inj with
  | none =>
    match s.physical src.engine with
    | none => s
    | some g =>
      let e := s.engine g
      s.setEngine g { e with rspIn := e.rspIn ++ [{ ctl := p.ctl, head := head, data := dataFlits 13 data, inj := none }] }
  | some _ => s.sendPacket k vcRsp 0 (s.sourceEntry k src) src head data

/-- The response of R214 with the request's own offset. -/
def State.answer (s : State) (k : Nat) (p : Pkt) (status : Nat) (data : List Word) : State :=
  s.respond k p (responseOp (hdOp p.head)) (hdOffset p.head) status data

/-- A waterline token (Table 2.3): value v as its 36 low bits and tag, slot code, to an engine number of a device. -/
def mkReport (device engine slot flight v : Nat) : BitVec 96 := mkToken (BitVec.ofNat 36 v) device engine slot v flight 3

end Sys2Proof.Machine
end

