-- ==== Sys2Proof/Machine/Store.lean ====
section
/-! DEFINITION. Reads and writes of the cluster stores (R180, R195 to R198) and of HBM (R183, R184, R199 to R202, R208). -/

namespace Sys2Proof.Machine

/-! ### Cluster stores -/

/-- The cell of a cluster store at an offset, from the correction buffer of its bank when that holds the word (R196). -/
def Cluster.cell (x : Cluster) (adr : Nat) : Stored :=
  match x.corr.find? (fun y => y.1 == adr % 16) with
  | some (_, a, v) => if a = adr then v else tget (encodeWord adr 0) x.store adr
  | none => tget (encodeWord adr 0) x.store adr

/-- A cluster-store word read by any master (R195, R196); a retired bank reads as uncorrectable (R208). -/
def State.readStore (s : State) (c adr : Nat) : ReadOut × State :=
  if s.retiredBank c (adr % 16) then (.bad false false false, s) else
  let b := adr % 16
  let (o, s) := s.checkCell (srcId 16 c) b (3072 + 16 * c + b) adr 31 ((s.cluster c).cell adr) 4
  let x := s.cluster c
  let s := if o.fixed ∧ ¬ x.corr.any (fun y => y.1 == b) then s.setCluster c { x with corr := tset b (adr, o.cell) x.corr } else s
  if o.bad then (.bad o.decoder o.injected o.during, s) else (.ok (dataOf o.cell), s)

/-- A cluster-store word written; a write-back of the same word is cancelled (R196, R198). -/
def State.writeStore (s : State) (c adr : Nat) (w : Word) : State :=
  let x := s.cluster c
  s.setCluster c { x with store := tput (encodeWord adr 0) adr (encodeWord adr w) x.store,
                          corr := x.corr.filter (fun y => !(y.1 == adr % 16 && y.2.1 == adr)) }

/-! ### HBM -/

/-- What an HBM line reads as when nothing has been written to it: zero as start-up leaves it (Table 17.9), a free line once the
stacks have lost their contents (R366). -/
def State.hbmDefault (s : State) (l : Nat) : Line :=
  match s.hbmGone with
  | none => zeroLine l
  | some n => Config.freeLine n l

/-- HBM line l as stored. -/
def State.hbmLine (s : State) (l : Nat) : Line := tget (s.hbmDefault l) s.hbm l

/-- HBM line l stored. -/
def State.setHbmLine (s : State) (l : Nat) (x : Line) : State := { s with hbm := tput (s.hbmDefault l) l x s.hbm }

/-! ### The canonical form of memory -/

/-- An engine's local store and matching store: keys rising, no listed word equal to what an unlisted one reads as. -/
def Engine.memoryWf (e : Engine) : Bool :=
  tabWf (fun a => encodeWord a 0) e.mem && tabWf (fun i => encodeEntry i 0 false false) e.tu.store

/-- A cluster store in the same form. -/
def Cluster.memoryWf (x : Cluster) : Bool := tabWf (fun a => encodeWord a 0) x.store

/-- All storage of the part in canonical form, so that equal contents are equal data. -/
def State.memoryWf (s : State) : Bool :=
  tabWf (fun _ => Engine.reset) s.engines && s.engines.all (fun x => x.2.memoryWf) &&
    (tabWf (fun _ => Cluster.reset) s.clusters && s.clusters.all (fun x => x.2.memoryWf)) && tabWf s.hbmDefault s.hbm

/-- Outcome of a pair's syndrome: 0 clean, 1 single, 2 double, 3 a fold position (R201, Table 10.3). -/
def pairClass (sy : BitVec 7) (q : Bool) : Nat :=
  match q, sy.toNat with
  | false, 0 => 0
  | true, 0 => 1
  | true, k => if 81 < k ∧ k ≤ 91 then 3 else if k ≤ 91 then 1 else 2
  | false, _ => 2

/-- What the checks of a line's read found: outcome of each part, whether an injection made one, whether one ran. -/
structure LineCheck where
  worst : LineOut
  injected : Bool
  during : Bool
  detail : Nat

/-- The worse of two outcomes (R201's order). -/
def LineOut.worse (a b : LineOut) : LineOut :=
  match a, b with
  | .addressFault, _ => .addressFault
  | _, .addressFault => .addressFault
  | .uncorrectable, _ => .uncorrectable
  | _, .uncorrectable => .uncorrectable
  | .correctable, _ => .correctable
  | _, .correctable => .correctable
  | .clean, .clean => .clean

/-- One pair checked by its checker 3p + k (R304, R305). -/
def State.checkPair (s : State) (src chk : Nat) (x : Line) (p : Nat) (f : BitVec 10) (a : LineCheck) : LineCheck × State :=
  let (sy, q) := pairSyndrome x p f
  let real := sy ≠ 0 ∨ q
  let (sy, q, s, inj, dur) := match s.injectMask src chk with
    | none => (sy, q, s, false, false)
    | some m =>
      let m8 := BitVec.ofNat 8 m
      if real then (sy, q, s.injectDone false, false, true)
      else (m8.extractLsb' 0 7, parity64 (m8.zeroExtend 64), s.injectDone true, true, false)
  let o : LineOut := match pairClass sy q with
    | 0 => .clean | 1 => .correctable | 3 => .addressFault | _ => .uncorrectable
  ({ worst := a.worst.worse o, injected := a.injected || (inj && o ≠ .clean), during := a.during || dur,
     detail := if a.detail = 0 ∧ o ≠ .clean then chk + 2 ^ 7 * sy.toNat else a.detail }, s)

/-- The fold compared by checker 96 (R201, R304, R305). -/
def State.checkFold (s : State) (src : Nat) (x : Line) (f : BitVec 10) (a : LineCheck) : LineCheck × State :=
  let diff := f ^^^ x.extractLsb' 246 10
  let (diff, s, inj, dur) := match s.injectMask src 96 with
    | none => (diff, s, false, false)
    | some m => if diff ≠ 0 then (diff, s.injectDone false, false, true) else (BitVec.ofNat 10 m, s.injectDone true, true, false)
  let n := countTo 10 (fun i => diff.getLsbD i)
  let o : LineOut := if 2 ≤ n then .addressFault else if n = 1 then .correctable else .clean
  ({ worst := a.worst.worse o, injected := a.injected || (inj && o ≠ .clean), during := a.during || dur,
     detail := if a.detail = 0 ∧ o ≠ .clean then 96 + 2 ^ 7 * diff.toNat else a.detail }, s)

/-- Line l read and checked for a requester: a correctable line is counted, reported and written back; an address fault is
reported at level 3 of the HBM block (R201). The line answered carries the corrected data. -/
def State.readLine (s : State) (l reqSrc : Nat) (writeBack : Bool) : LineCheck × Line × State :=
  let x := s.hbmLine l
  let f := foldOf l
  let n := stackOf l
  let (pc, _, _) := placeOf l
  let src := srcId 20 n
  let a : LineCheck := { worst := .clean, injected := false, during := false, detail := 0 }
  let (a, s) := s.checkPair src (3 * pc) x 0 f a
  let (a, s) := s.checkPair src (3 * pc + 1) x 1 f a
  let (a, s) := s.checkPair src (3 * pc + 2) x 2 f a
  let (a, s) := s.checkFold src x f a
  match a.worst with
  | .clean => (a, x, s)
  | .correctable =>
    let y := if lineOut l x = .correctable then fixLine l x else x
    let s := (s.bumpCorrection (3584 + 32 * n + pc)).raiseFull src 0x01 1 l a.detail a.injected a.during
    (a, y, if writeBack then s.setHbmLine l y else s)
  | .uncorrectable => (a, x, s)
  | .addressFault => (a, x, s.raiseFull src 0x05 3 l reqSrc a.injected a.during)

/-- What word i of a line that has been read answers: the word, or not readable (uncorrectable, address fault, poisoned: R201). -/
def lineRead (a : LineCheck) (x : Line) (i : Nat) : ReadOut :=
  match a.worst with
  | .uncorrectable => .bad false a.injected a.during
  | .addressFault => .bad true a.injected a.during
  | _ => if wordPoisoned x i then .bad false false a.during else .ok (lineWord x i)

/-- Line l read once: what each of its words answers; a retired row has none that is readable (R201, R208). -/
def State.readHbmLine (s : State) (l reqSrc : Nat) : (Nat → ReadOut) × State :=
  if s.retiredRow l then (fun _ => .bad false false false, s) else
  let (a, x, s) := s.readLine l reqSrc true
  (lineRead a x, s)

/-- A word of HBM read alone. -/
def State.readHbm (s : State) (w reqSrc : Nat) : ReadOut × State :=
  let (r, s) := s.readHbmLine (w / 6) reqSrc
  (r (w % 6), s)

/-- What a write of a line ended in (Table 10.7). -/
inductive WriteOut where
  | done | poisoned | bus
  deriving DecidableEq, Repr

/-- Words named by a mask written into line l for a requester; `lvl` is the level of a poisoning (R202, Table 10.7). -/
def State.writeLine (s : State) (l : Nat) (cover : BitVec 6) (data : BitVec 216) (reqSrc lvl : Nat) : WriteOut × State :=
  if s.retiredRow l then (.bus, s)
  else if cover = 0 then (.done, s)
  else if cover = 63 then (.done, s.setHbmLine l (encodeLine l data 0))
  else
    let (a, x, s) := s.readLine l reqSrc false
    let word := fun i => if cover.getLsbD i then data.extractLsb' (36 * i) 36 else lineWord x i
    let merged : BitVec 216 := word 5 ++ word 4 ++ word 3 ++ word 2 ++ word 1 ++ word 0
    let others := countTo 6 (fun i => !cover.getLsbD i)
    match a.worst with
    | .uncorrectable =>
      (.poisoned, (s.setHbmLine l (encodeLine l merged (~~~cover))).raiseFull reqSrc 0x06 lvl l others a.injected a.during)
    | .addressFault => (.poisoned, s.setHbmLine l (encodeLine l merged (~~~cover)))
    | _ => (.done, s.setHbmLine l (encodeLine l merged (bitsOf 6 (fun i => wordPoisoned x i && !cover.getLsbD i))))

/-- The words of a list that fall into line l, when the list starts at word offset w: cover and data. -/
def lineSlice (w : Nat) (ws : List Word) (l : Nat) : BitVec 6 × BitVec 216 :=
  let at' := fun i => if w ≤ 6 * l + i then ws[6 * l + i - w]? else none
  (bitsOf 6 (fun i => (at' i).isSome),
   (at' 5).getD 0 ++ (at' 4).getD 0 ++ (at' 3).getD 0 ++ (at' 2).getD 0 ++ (at' 1).getD 0 ++ (at' 0).getD 0)

/-- Lines l, l+1, … (n of them) written with a list of words that starts at word offset w; the worst outcome. -/
def State.writeLines (s : State) (w : Nat) (ws : List Word) (reqSrc lvl : Nat) : Nat → Nat → WriteOut × State
  | _, 0 => (.done, s)
  | l, n + 1 =>
    let (cover, data) := lineSlice w ws l
    let (o, s) := s.writeLine l cover data reqSrc lvl
    let (o', s) := State.writeLines s w ws reqSrc lvl (l + 1) n
    (if o = .bus ∨ o' = .bus then .bus else if o = .poisoned ∨ o' = .poisoned then .poisoned else .done, s)

/-- Words of HBM written from word offset w. -/
def State.writeHbm (s : State) (w : Nat) (ws : List Word) (reqSrc lvl : Nat) : WriteOut × State :=
  if ws = [] then (.done, s) else s.writeLines w ws reqSrc lvl (w / 6) ((w + ws.length - 1) / 6 + 1 - w / 6)

/-- n words of HBM read from word offset w, or the first word that is not readable and how. Each line is read once, whatever the
number of its words (R201); `line` is the answer of the line that word w lies in, when that line is open already. -/
def State.readOpen (s : State) (reqSrc : Nat) (line : Option (Nat → ReadOut)) : Nat → Nat → Sum (Nat × Bool × Bool × Bool) (List Word) × State
  | _, 0 => (.inr [], s)
  | w, n + 1 =>
    let (r, s) := match (if w % 6 = 0 then none else line) with
      | some r => (r, s)
      | none => s.readHbmLine (w / 6) reqSrc
    match r (w % 6) with
    | .bad d i u => (.inl (w, d, i, u), s)
    | .ok v =>
      match State.readOpen s reqSrc (some r) (w + 1) n with
      | (.inl a, s) => (.inl a, s)
      | (.inr l, s) => (.inr (v :: l), s)

/-- n words of HBM read from word offset w. -/
def State.readHbms (s : State) (reqSrc w n : Nat) : Sum (Nat × Bool × Bool × Bool) (List Word) × State := s.readOpen reqSrc none w n

/-! ### Regions -/

/-- Kind, base, length, flight and host access of region r (Table 9.3). -/
structure Region where
  kind : Nat
  base : Nat
  length : Nat
  flight : Nat
  host : Bool

/-- Region r as committed. -/
def State.region (s : State) (r : Nat) : Region :=
  { kind := s.obj (0x3440 + r) 1, base := s.obj (0x3440 + r) 2, length := s.obj (0x3440 + r) 3, flight := s.obj (0x3440 + r) 4,
    host := s.obj (0x3440 + r) 5 = 1 }

/-- Region r holds word offset w. -/
def Region.holds (x : Region) (w : Nat) : Bool := decide (1 ≤ x.kind) && decide (x.base ≤ w) && decide (w < x.base + x.length)

/-- The region that holds a word offset. -/
def State.regionAt (s : State) (w : Nat) : Option Nat := firstFrom 64 0 (fun r => (s.region r).holds w)

/-- The region of a kind, the first. -/
def State.regionOf (s : State) (p : Region → Bool) : Option Nat := firstFrom 64 0 (fun r => p (s.region r))

end Sys2Proof.Machine
end

