-- ==== Sys2Proof/Machine/TraceUnit.lean ====
section
/-! DEFINITION. The trace capture unit's operations: records, ring buffers, triggers (R372 to R376). -/

namespace Sys2Proof.Machine

/-- Capture is running: armed or triggered (Table 19.2). -/
def State.capturing (s : State) : Bool := s.trace.state == 1 || s.trace.state == 2

/-- Buffer b. -/
def State.traceBuf (s : State) (b : Nat) : TraceBuf := tget TraceBuf.reset s.trace.bufs b

/-- Buffer b replaced. -/
def State.setTraceBuf (s : State) (b : Nat) (x : TraceBuf) : State :=
  { s with trace := { s.trace with bufs := tput TraceBuf.reset b x s.trace.bufs } }

/-- The region of buffer b: committed and of kind 3 (R375). -/
def State.traceRegion (s : State) (b : Nat) : Option Region :=
  let r := s.obj (0x3610 + b) 1
  if r < 64 ∧ (s.region r).kind = 3 then some (s.region r) else none

/-- The capture state entered, with vector 15 when it changes (Table 17.4). -/
def State.enterCapture (s : State) (n : Nat) : State :=
  if s.trace.state = n then s else { s with trace := { s.trace with state := n } }.vector 15

/-- Every enabled buffer has stopped: capture stops (R376). -/
def State.captureEnd (s : State) : State :=
  if s.trace.state = 2 ∧ (List.range 16).all (fun b => (s.traceRegion b).isNone || (s.traceBuf b).stopped) then s.enterCapture 3 else s

/-- A record written at the write index of buffer b (R375); the level of a poisoning cannot arise, the line is covered whole. -/
def State.putRecord (s : State) (b : Nat) (bits : BitVec 216) : State :=
  match s.traceRegion b with
  | none => s
  | some r =>
    let x := s.traceBuf b
    let n := r.length / 6
    if x.stopped ∨ n = 0 then s else
    let (_, s) := s.writeLine ((r.base + 6 * x.index) / 6) 63 bits (srcId 24 0) 2
    let wrap := decide (n ≤ x.index + 1)
    s.setTraceBuf b { x with index := if wrap then 0 else x.index + 1, wrapped := x.wrapped || wrap, written := x.written + 1 }

/-- A record that reaches the trace capture unit: written while capture runs, or, issued already, while D39 drains (Table 14.3), and counted
against the post-trigger count (R376). -/
def State.takeRecord (s : State) (b : Nat) (bits : BitVec 216) : State :=
  if ¬ (s.capturing ∨ (s.domain 39).state = .drain) ∨ (s.traceBuf b).stopped ∨ (s.traceBuf b).left = some 0 then s else
  let s := s.putRecord b bits
  let x := s.traceBuf b
  match x.left with
  | none => s
  | some n => s.setTraceBuf b { x with left := some (n - 1) }

/-- A buffer that has written its post-trigger count stops (R376). -/
def State.stopBuf (s : State) (b : Nat) : State :=
  let x := s.traceBuf b
  if x.left = some 0 ∧ ¬ x.stopped then (s.setTraceBuf b { x with stopped := true }).captureEnd else s

/-- A trigger marker (R373): the firing token or zero, its time, the epoch. -/
def markerBits (t : BitVec 96) (time epoch : Nat) : BitVec 216 :=
  0#4 ++ 0#1 ++ 4#3 ++ BitVec.ofNat 48 epoch ++ BitVec.ofNat 64 time ++ t

/-- Trigger t fires: state, time, markers in every enabled buffer; a buffer with post-trigger count 0 stops (R376). -/
def State.fireTrigger (s : State) (n : Nat) (tok : BitVec 96) (epoch : Nat) : State :=
  if s.trace.state ≠ 1 then s else
  let now := s.now
  let s := ({ s with trace := { s.trace with time := now, firing := n } }).enterCapture 2
  let one := fun (s : State) (b : Nat) =>
    if (s.traceRegion b).isSome then
      let s := s.putRecord b (markerBits tok now epoch)
      let s := s.setTraceBuf b { s.traceBuf b with left := some (s.obj (0x3610 + b) 4) }
      s.stopBuf b
    else s
  (((List.range 16).foldl one s)).captureEnd

/-- Epoch triggers of a flight whose view is now v (R376). -/
def State.epochTriggers (s : State) (f v : Nat) : State :=
  (List.range 4).foldl (fun s n =>
    if s.obj (0x3620 + n) 1 = 1 ∧ s.obj (0x3620 + n) 2 = f ∧ s.obj (0x3620 + n) 3 ≤ v then s.fireTrigger n 0 (s.obj (0x3620 + n) 3) else s) s

/-- Value triggers for a token matched at a logical engine and slot (R376). -/
def State.valueTriggers (s : State) (l : Nat) (tok : BitVec 96) (epoch : Nat) : State :=
  (List.range 4).foldl (fun s n =>
    if s.obj (0x3620 + n) 1 = 2 ∧ s.obj (0x3620 + n) 4 = l ∧ s.obj (0x3620 + n) 5 = tokSlot tok ∧
        (tokValue tok ^^^ BitVec.ofNat 36 (s.obj (0x3620 + n) 6)) &&& BitVec.ofNat 36 (s.obj (0x3620 + n) 7) = 0 then
      s.fireTrigger n tok epoch else s) s

/-- The buffers that record an accepted token (R372): kind 0 matched, 1 duplicate, 2 divergence, 3 handed to the bog. -/
def State.traceBuffers (s : State) (l : Nat) (tok : BitVec 96) (kind : Nat) : List Nat :=
  let flightBuf := if (s.obj 0x3600 3).testBit (tokFlight tok) then [s.obj 0x3600 4] else []
  let sel := if kind = 0 ∨ kind = 2 then
      (List.range 256).filterMap (fun i =>
        let o := 0x3640 + i / 4
        let j := 4 * (i % 4)
        let b := s.obj o (j + 2)
        if s.obj o (j + 1) = l ∧ b ≤ tokSlot tok ∧ tokSlot tok < b + s.obj o (j + 3) then some (s.obj o (j + 4)) else none)
    else []
  ((flightBuf ++ sel).filter (fun b => decide (b < 16))).eraseDups

/-- Transaction tag of a trace write (assumption 12). -/
def traceTag : BitVec 12 := 0xFFF

/-- One trace record queued at engine g and sent to the trace capture unit, or dropped when eight wait (R374). -/
def State.sendRecord (s : State) (g : Nat) (b : Nat) (bits : BitVec 216) : State :=
  let t := s.tu g
  let k := clusterOf g
  let entry := s.routeEntry k 3 0
  if 8 ≤ t.trace.length ∨ entryState entry = 0 then
    ({ s with trace := { s.trace with dropped := s.trace.dropped + 1 } }).setTu g { t with gap := true }
  else
    let bits := if t.gap then bits ||| (1#216 <<< 211) else bits
    let s := s.setTu g { t with trace := t.trace ++ [{ bits := bits, buffer := b }], gap := false }
    let words := (List.range 6).map (fun i => bits.extractLsb' (36 * i) 36)
    let src : Src := { device := s.devId, engine := s.logical g s.noc.gen, node := 0, seq := 0 }
    s.sendPacket k vcReq 0 entry src (mkHead b 0 2 6 traceTag 0 0 false) words

/-- Trace records of a token accepted at engine g with reconstructed epoch e (R372, R373). -/
def State.traceToken (s : State) (g : Nat) (tok : BitVec 96) (e kind : Nat) : State :=
  if s.capturing then
    let bits : BitVec 216 := 0#4 ++ 0#1 ++ BitVec.ofNat 3 kind ++ BitVec.ofNat 48 e ++ BitVec.ofNat 64 s.now ++ tok
    (s.traceBuffers (s.logical g s.noc.gen) tok kind).foldl (fun s b => s.sendRecord g b bits) s
  else s

end Sys2Proof.Machine
end

