-- ==== Sys2Proof/Machine/TokenUnit.lean ====
section
/-! DEFINITION. The token unit: descriptors, the matching store, resolution and evaluation of nodes, quiet walks and marks, the
ready queue, windows and journal records, frame release (R30, R45 to R60, R385). -/

namespace Sys2Proof.Machine

/-! ### Reads -/

/-- A local word read by the token unit: uncorrectable, it is reported at level 3 and the engine stops (R385). -/
def State.unitRead (s : State) (g adr : Nat) : Option Word × State :=
  match s.engineRead g adr 31 with
  | (some w, s) => (some w, s)
  | (none, s) => (none, s.stopUnit g)

/-- n local words read by the token unit from an address on. -/
def State.unitReads (s : State) (g : Nat) : Nat → Nat → Option (List Word) × State
  | _, 0 => (some [], s)
  | adr, n + 1 =>
    match s.unitRead g (adr % 0x20000) with
    | (none, s) => (none, s)
    | (some w, s) =>
      match State.unitReads s g (adr + 1) n with
      | (none, s) => (none, s)
      | (some l, s) => (some (w :: l), s)

/-- A node descriptor (Table 2.4). -/
structure Desc where
  entry : BitVec 15
  base : Nat
  arity : Nat
  valid : Bool
  moored : BitVec 16
  stateSrc : Bool
  fanout : Nat
  fanlist : Nat
  stateLen : Nat
  stateBase : Nat
  reserved : Bool
  deriving DecidableEq, Repr

/-- The descriptor in four words; `reserved` is set when a reserved bit, or a moored bit at or above the arity, is not zero. -/
def descOf (a b c d : Word) : Desc :=
  let k := (a.extractLsb' 29 4).toNat + 1
  { entry := a.extractLsb' 0 15, base := (a.extractLsb' 15 14).toNat, arity := k, valid := a.getLsbD 33, moored := b.extractLsb' 0 16,
    stateSrc := b.getLsbD 16, fanout := (b.extractLsb' 17 12).toNat, fanlist := (c.extractLsb' 0 17).toNat,
    stateLen := (c.extractLsb' 17 10).toNat, stateBase := (d.extractLsb' 0 17).toNat,
    reserved := a.extractLsb' 34 2 != 0 || (b.extractLsb' 0 16) >>> k != 0 || b.extractLsb' 29 7 != 0 || c.extractLsb' 27 9 != 0 ||
      d.extractLsb' 17 19 != 0 }

/-- Descriptor base D, standing base, journal base, journal depth and node count of engine g (Table 16.8). -/
def State.descBase (s : State) (g : Nat) : Nat := s.obj (0x2400 + g) 2
def State.standBase (s : State) (g : Nat) : Nat := s.obj (0x2400 + g) 3
def State.journalBase (s : State) (g : Nat) : Nat := s.obj (0x2400 + g) 4
def State.journalDepth (s : State) (g : Nat) : Nat := s.obj (0x2400 + g) 5
def State.nodeCount (s : State) (g : Nat) : Nat := s.obj (0x2400 + g) 1

/-- Node n's descriptor read by the token unit. -/
def State.readDesc (s : State) (g n : Nat) : Option Desc × State :=
  match s.unitReads g (s.descBase g + 4 * n) 4 with
  | (some [a, b, c, d], s) => (some (descOf a b c d), s)
  | (_, s) => (none, s)

/-- Where node n's journal record of epoch e begins, by the sums that the LOADED scan took (R60). -/
def State.recordAt (s : State) (g n e : Nat) : Nat :=
  s.journalBase g + 1024 + (s.tu g).slab * (e % s.journalDepth g) + tget 0 (s.tu g).offsets n

/-! ### The matching store -/

/-- Frame size S of the engine's flight (Table 4.1). -/
def State.frameSize (s : State) (f : Nat) : Nat := s.obj (0x2800 + f) 4

/-- The entry of epoch e and slot (R47). -/
def State.entryIx (s : State) (g f e slot : Nat) : Nat := (e % (s.tu g).frames) * s.frameSize f + slot

/-- The entry as stored, from the correction buffer when that holds it (R196). -/
def Engine.entry (e : Engine) (ix : Nat) : StoredEntry :=
  match e.matchCorr with
  | some (a, v) => if a = ix then v else tget (encodeEntry ix 0 false false) e.tu.store ix
  | none => tget (encodeEntry ix 0 false false) e.tu.store ix

/-- A matching entry read and checked: value, present, mark; uncorrectable, the engine stops (R195, R385). -/
def State.readEntry (s : State) (g ix : Nat) : Option (Word × Bool × Bool) × State :=
  let (o, s) := s.checkCell g 5 (6 * g + 5) ix 31 ((s.engine g).entry ix) 5
  let e := s.engine g
  let s := if o.fixed ∧ e.matchCorr.isNone then s.setEngine g { e with matchCorr := some (ix, o.cell) } else s
  if o.bad then (none, (s.raiseFull g 0x02 3 ix (g + (if o.decoder then 1024 else 0)) o.injected o.during).stopUnit g)
  else (some (entryData o.cell), s)

/-- A matching entry written whole (R198). -/
def State.writeEntry (s : State) (g ix : Nat) (v : Word) (present mark : Bool) : State :=
  let e := s.engine g
  let t := { e.tu with store := tput (encodeEntry ix 0 false false) ix (encodeEntry ix v present mark) e.tu.store }
  s.setEngine g { e with tu := t, matchCorr := match e.matchCorr with | some (a, x) => if a = ix then none else some (a, x) | none => none }

/-- Node and input that own a slot (R31): none for an unowned slot. -/
def State.slotOwner (s : State) (g slot : Nat) : Option (Nat × Nat) :=
  match tget 0 (s.tu g).slotMap slot with
  | 0 => none
  | k => some ((k - 1) / 16, (k - 1) % 16)

/-- The slot-map word of a slot reads as uncorrectable (R28). -/
def TokenUnit.mapBad (t : TokenUnit) (slot : Nat) : Bool :=
  let d := tget 0 t.slotWrong slot
  wrongBad (d.extractLsb' 0 14) || wrongBad (d.extractLsb' 14 14)

/-- Node n has been handled at e (R54). -/
def State.handled (s : State) (g n e : Nat) : Bool := decide (e < tget 0 (s.tu g).next n)

/-- Bog balance of epoch e (R48). -/
def State.balance (s : State) (g e : Nat) : Nat := tget 0 (s.tu g).balances (e % 64)

/-- Bog balance of epoch e replaced. -/
def State.setBalance (s : State) (g e v : Nat) : State :=
  let t := s.tu g
  s.setTu g { t with balances := tput 0 (e % 64) v t.balances }

/-- min(T, P) of R52. -/
def State.fireSpan (s : State) (g : Nat) : Nat := min (s.tu g).tether (s.journalDepth g)

/-- Evaluation is permitted at e by the flight's state (R52, R90). -/
def State.mayEvaluate (s : State) (g f e : Nat) : Bool :=
  match (s.flight f).state with
  | .running => true
  | .halting => match (s.tu g).ceiling with | some c => decide (e ≤ c) | none => true
  | _ => false

/-! ### Windows and the ready queue -/

/-- Local address of activation window q (R57). -/
def windowAt (q : Nat) : Nat := 0x1F800 + 32 * q

/-- Change bits of inputs 0 to k−1 of a node at e: those whose entry is present (R53, Table 3.6); none when an entry reads uncorrectable,
which stops the engine. -/
def State.changeBits (s : State) (g f base e : Nat) : Nat → Option (List Bool) × State
  | 0 => (some [], s)
  | k + 1 =>
    match State.changeBits s g f base e k with
    | (none, s) => (none, s)
    | (some l, s) =>
      match s.readEntry g (s.entryIx g f e (base + k)) with
      | (none, s) => (none, s)
      | (some (_, present, _), s) => (some (l ++ [present]), s)

/-- The window of a first firing, and its journal record, filled from the resolved values (R59, Table 3.6); in a full epoch every bit of
the change mask is set (R53). -/
def State.fillFirst (s : State) (g f q n e : Nat) : State :=
  match s.readDesc g n with
  | (none, s) => s
  | (some d, s) =>
    let t := s.tu g
    let full := t.start == some e
    let ops := (List.range 16).map (fun i => if i < d.arity then BitVec.ofNat 36 (tget 0 t.last (d.base + i)) else 0)
    match s.changeBits g f d.base e d.arity with
    | (none, s) => s
    | (some bits, s) =>
      let w16 : Word := (0#18 ++ BitVec.ofBool full ++ 0#1 ++ bitsOf 16 (fun i => full || bits.getD i false))
      let s := s.writeLocals g (windowAt q) (ops ++ [w16, BitVec.ofNat 36 n])
      match s.unitReads g d.stateBase d.stateLen with
      | (none, s) => s
      | (some st, s) => s.writeLocals g (s.recordAt g n e) (ops ++ [w16] ++ st)

/-- The window of a re-fire filled from the journal record, with the re-fire bit set (R67). -/
def State.fillAgain (s : State) (g q n e : Nat) : State :=
  match s.unitReads g (s.recordAt g n e) 17 with
  | (none, s) => s
  | (some r, s) =>
    let w16 := (r.getD 16 0) ||| (1#36 <<< 16)
    s.writeLocals g (windowAt q) (r.take 16 ++ [w16, BitVec.ofNat 36 n])

/-- An entry takes window q and its window is filled. -/
def State.enterQueue (s : State) (g f q : Nat) (x : Waiting) : State :=
  let t := s.tu g
  let r : REntry := { q := BitVec.ofNat 6 q, node := x.node, epoch := x.epoch, refire := x.refire, order := t.order, running := false }
  let s := s.setTu g { t with ready := t.ready ++ [r], order := t.order + 1 }
  if x.refire then s.fillAgain g q x.node.toNat x.epoch else s.fillFirst g f q x.node.toNat x.epoch

/-- The lowest window that no entry owns. -/
def TokenUnit.freeWindow (t : TokenUnit) : Option Nat := firstFrom 64 0 (fun q => !t.ready.any (fun r => r.q.toNat == q))

/-- Highest epoch among the entries that do not run. -/
def TokenUnit.highIdle (t : TokenUnit) : Option Nat :=
  (t.ready.filter (fun r => !r.running)).foldl (fun h r => match h with | none => some r.epoch | some m => some (max m r.epoch)) none

/-- The latest-entered entry of an epoch that does not run. -/
def TokenUnit.latest (t : TokenUnit) (h : Nat) : Option REntry :=
  (t.ready.filter (fun r => !r.running && r.epoch == h)).foldl
    (fun b r => match b with | none => some r | some m => if m.order < r.order then some r else some m) none

/-- A node or re-fire enters the queue, displaces a later epoch, or waits (R58). -/
def State.enqueue (s : State) (g f : Nat) (x : Waiting) : State :=
  let t := s.tu g
  match t.freeWindow with
  | some q => s.enterQueue g f q x
  | none =>
    match t.highIdle with
    | some h =>
      if x.epoch < h then
        match t.latest h with
        | some r =>
          let back : Waiting := { node := r.node, epoch := r.epoch, refire := r.refire }
          (s.setTu g { t with ready := t.ready.filter (fun y => y != r), waiting := t.waiting ++ [back] }).enterQueue g f r.q.toNat x
        | none => s.setTu g { t with waiting := t.waiting ++ [x] }
      else s.setTu g { t with waiting := t.waiting ++ [x] }
    | none => s.setTu g { t with waiting := t.waiting ++ [x] }

/-- The pending node that enters next: lowest epoch, then lowest node (R58). -/
def nextWaiting (l : List Waiting) : Option Waiting :=
  l.foldl (fun b x => match b with
    | none => some x
    | some m => if x.epoch < m.epoch ∨ (x.epoch = m.epoch ∧ x.node.toNat < m.node.toNat) then some x else some m) none

/-- A freed entry goes to the pending node of lowest epoch (R58). -/
def State.refillQueue (s : State) (g f : Nat) : State :=
  let t := s.tu g
  match t.freeWindow, nextWaiting t.waiting with
  | some q, some x => (s.setTu g { t with waiting := t.waiting.erase x }).enterQueue g f q x
  | _, _ => s

/-- An activation of node n at e waits, is queued or runs. -/
def TokenUnit.queued (t : TokenUnit) (n : BitVec 14) (e : Nat) (refire : Bool) : Bool :=
  t.ready.any (fun r => r.node == n && r.epoch == e && r.refire == refire) ||
  t.waiting.any (fun r => r.node == n && r.epoch == e && r.refire == refire)

/-! ### Resolution and evaluation -/

/-- How an input resolves: value and whether it changed (Table 3.4); none: not resolved. -/
inductive Resolved where
  | no
  | yes (v : Word) (changed : Bool)
  | stop

/-- Input i of a node at e resolved (R51, R53). -/
def State.resolve (s : State) (g f : Nat) (d : Desc) (e i : Nat) : Resolved × State :=
  let slot := d.base + i
  let t := s.tu g
  let previous := fun (s : State) =>
    if e ≤ t.view then
      match s.unitRead g ((s.standBase g + slot) % 0x20000) with
      | (some v, s) => (Resolved.yes v false, s)
      | (none, s) => (.stop, s)
    else (.yes (BitVec.ofNat 36 (tget 0 t.last slot)) false, s)
  match s.readEntry g (s.entryIx g f e slot) with
  | (none, s) => (.stop, s)
  | (some (v, present, mark), s) =>
    if present then (.yes v true, s)
    else if mark then previous s
    else if d.moored.getLsbD i ∧ e ≤ t.view ∧ s.balance g e = 0 then previous s
    else (.no, s)

/-- Inputs 0 to k−1 of a node resolved: the values, whether any changed; none when one is not resolved or its read stopped the engine. -/
def State.resolveAll (s : State) (g f : Nat) (d : Desc) (e : Nat) : Nat → Option (List Word × Bool) × State
  | 0 => (some ([], false), s)
  | k + 1 =>
    match State.resolveAll s g f d e k with
    | (none, s) => (none, s)
    | (some (l, c), s) =>
      match s.resolve g f d e k with
      | (.yes v ch, s) => (some (l ++ [v], c || ch), s)
      | (_, s) => (none, s)

/-- The values the inputs of a node resolved to, kept (R51). -/
def State.keepValues (s : State) (g base : Nat) (l : List Word) : State :=
  let t := s.tu g
  s.setTu g { t with last := (l.zipIdx).foldl (fun m (v, i) => tput 0 (base + i) v.toNat m) t.last }

/-- Event of a fan-out entry (Table 15.2): node, index, epoch. -/
def State.fanoutEvent (s : State) (g code node j e : Nat) : State := s.raise g code 3 (node + 2 ^ 14 * j) e

/-- A mark of node n at an entry of slot for epoch e (R50, Table 3.3 rows 4 to 8); true when it was written. -/
def State.markSlot (s : State) (g f n slot e : Nat) : Bool × State :=
  let t := s.tu g
  let here : Src := { device := s.devId, engine := s.logical g s.noc.gen, node := n, seq := 0 }
  let ctl := mkCtl 0 false 0 0 here
  let tok := mkToken 0 s.devId here.engine slot e f 0
  if s.frameSize f ≤ slot then (false, s.raise g 0x14 3 (sourceField ctl) (tokenField tok))
  else
    match s.slotOwner g slot with
    | none => (false, s.raise g 0x14 3 (sourceField ctl) (tokenField tok))
    | some (owner, _) =>
      if ¬ (t.view ≤ e ∧ e < t.view + t.tether) then (false, s) else
      let ix := s.entryIx g f e slot
      match s.readEntry g ix with
      | (none, s) => (false, s)
      | (some (v, present, mark), s) =>
        if mark then (false, s)
        else if present then
          (false, (s.raise g 0x19 3 (sourceField ctl) (tokenField tok)).raise g 0x1A 3 v.toNat (2 ^ 36))
        else if s.handled g owner e then (false, s.raise g 0x1B 3 (sourceField ctl) (tokenField tok))
        else (true, s.writeEntry g ix v false true)

/-- A fan-out list entry (Table 3.8). -/
structure Fan where
  slot : Nat
  engine : Nat
  device : Nat
  moored : Bool
  last : Bool
  reference : Nat
  reserved : Bool
  deriving DecidableEq, Repr

/-- The entry in two words. -/
def fanOf (a b : Word) : Fan :=
  { slot := (a.extractLsb' 0 14).toNat, engine := (a.extractLsb' 14 9).toNat, device := (a.extractLsb' 23 10).toNat,
    moored := a.getLsbD 33, last := a.getLsbD 34, reference := (b.extractLsb' 0 17).toNat,
    reserved := a.getLsbD 35 || b.extractLsb' 17 19 != 0 }

/-- The entry leads to the engine itself. -/
def State.ownFan (s : State) (g : Nat) (x : Fan) : Bool := x.device == s.devId && x.engine == s.logical g s.noc.gen

/-- The quiet walk of node n at e over entries j, j+1, … (m left); the owners of the slots marked (R55, Table 3.5). An own-engine moored
entry of a node without the state source bit meets two rows of the table, which orders them nowhere: the moored-rule fault is raised and
no mark written (DESIGN CHOICE, assumption 87). -/
def State.quietWalk (s : State) (g f : Nat) (d : Desc) (n e : Nat) : Nat → Nat → List Nat × State
  | _, 0 => ([], s)
  | j, m + 1 =>
    match s.unitReads g ((d.fanlist + 2 * j) % 0x20000) 2 with
    | (some [a, b], s) =>
      let x := fanOf a b
      let own := s.ownFan g x
      let (hit, s) :=
        if x.reserved then (none, s.fanoutEvent g 0x17 n j e)
        else if x.moored ∧ ¬ d.stateSrc then (none, s.fanoutEvent g 0x1C n j e)
        else if own then
          let (ok, s) := s.markSlot g f n x.slot (if x.moored then e + 1 else e)
          (if ok then (s.slotOwner g x.slot).map (·.1) else none, s)
        else if x.moored then (none, s)
        else (none, s.fanoutEvent g 0x1D n j e)
      if s.unitStopped g then (hit.toList, s) else
      let (l, s) := State.quietWalk s g f d n e (j + 1) m
      (hit.toList ++ l, s)
    | (_, s) => ([], s)

/-- Node n handled at e (R54). -/
def State.markHandled (s : State) (g n e : Nat) : State :=
  let t := s.tu g
  s.setTu g { t with next := tput 0 n (e + 1) t.next, highest := max t.highest e }

/-- Node n evaluated at the one epoch it may be at, the first it has not been handled at (R52); the nodes to evaluate next. -/
def State.evaluate (s : State) (g f n : Nat) : List Nat × State :=
  let t := s.tu g
  let e := max t.view (tget 0 t.next n)
  if s.unitStopped g ∨ s.nodeCount g ≤ n ∨ ¬ t.scanned ∨ ¬ (e < t.view + s.fireSpan g) ∨ ¬ s.mayEvaluate g f e ∨
      t.queued (BitVec.ofNat 14 n) e false then ([], s)
  else
    match s.readDesc g n with
    | (none, s) => ([], s)
    | (some d, s) =>
      if ¬ d.valid then ([], s) else
      match s.resolveAll g f d e d.arity with
      | (none, s) => ([], s)
      | (some (vals, changed), s) =>
        let s := s.keepValues g d.base vals
        if changed ∨ t.start = some e then
          ([], s.enqueue g f { node := BitVec.ofNat 14 n, epoch := e, refire := false })
        else
          let s := (s.tick1 g 3).markHandled g n e
          let (l, s) := s.quietWalk g f d n e 0 d.fanout
          (l ++ [n], s)

/-- Evaluations worked off in order (R54); the fuel bounds their number. -/
def State.evaluateAll (s : State) (g f : Nat) : Nat → List Nat → State
  | 0, _ => s
  | _, [] => s
  | k + 1, n :: l =>
    let (more, s) := s.evaluate g f n
    State.evaluateAll s g f k (l ++ more)

/-- More evaluations than any event can cause: 16,383 nodes, 32 epochs, 4,096 marks each. -/
def evalFuel : Nat := 2 ^ 32

/-- Node n of engine g evaluated, with everything that follows (R54). -/
def State.evaluateNode (s : State) (g n : Nat) : State :=
  match s.flightOf (clusterOf g) with
  | none => s
  | some f => s.evaluateAll g f evalFuel [n]

/-- Every node of engine g evaluated in node order (R54). -/
def State.sweep (s : State) (g : Nat) : State :=
  match s.flightOf (clusterOf g) with
  | none => s
  | some f => s.evaluateAll g f evalFuel (List.range (s.nodeCount g))

/-! ### Frames and the view -/

/-- The listed entries of frame e released: present values to standing, present and mark cleared (R56). -/
def State.releaseFrame (s : State) (g f e : Nat) : State :=
  let size := s.frameSize f
  let lo := (e % (s.tu g).frames) * size
  let listed := ((s.tu g).store.map (·.1)).filter (fun k => decide (lo ≤ k) && decide (k < lo + size))
  listed.foldl (fun s k =>
    if s.unitStopped g then s else
    match s.readEntry g k with
    | (none, s) => s
    | (some (v, present, _), s) =>
      let s := if present then s.writeLocal g ((s.standBase g + (k - lo)) % 0x20000) 15 v else s
      s.writeEntry g k v false false) s

/-- Frames of epochs e, e+1, … (n of them) released (R56). -/
def State.releaseFrames (s : State) (g f : Nat) : Nat → Nat → State
  | _, 0 => s
  | e, n + 1 => if s.unitStopped g then s else State.releaseFrames (s.releaseFrame g f e) g f (e + 1) n

/-- A pay-out that waits takes effect when w is a multiple of it (R47). -/
def TokenUnit.payOut (t : TokenUnit) : TokenUnit :=
  match t.pay with
  | some n => if t.view % n = 0 then { t with tether := n, frames := n, pay := none } else t
  | none => t

/-- The view of engine g set to v, above its present one: frames released, a pending pay-out made, every node swept (R54, R56). -/
def State.setView (s : State) (g v : Nat) : State :=
  match s.flightOf (clusterOf g) with
  | none => s
  | some f =>
    let t := s.tu g
    if v ≤ t.view ∨ s.unitStopped g then s else
    let s := s.releaseFrames g f t.view (min (v - t.view) t.frames)
    if s.unitStopped g then s else
    let t := s.tu g
    let s := s.setTu g { t with view := v, lur := max t.lur v }.payOut
    s.sweep g

/-- A tether set at engine g (R47): a reel-in or a pay-out within F at once, a longer one at a multiple. -/
def State.setTether (s : State) (g n : Nat) : State :=
  let t := s.tu g
  let s := if n ≤ t.frames then s.setTu g { t with tether := n, pay := none } else s.setTu g { t with pay := some n }.payOut
  s.sweep g

end Sys2Proof.Machine
end

