-- ==== Sys2Proof/Machine/FlightOps.lean ====
section
/-! DEFINITION. Operations of a flight on this device: settling acceptance, reports and distributions, views, the tether, draw-up
triggers (R27, R42, R47, R67, R72 to R79, R84, R85, R275). -/

namespace Sys2Proof.Machine

/-! ### Checks of codes in transit -/

/-- How the check of a code ended. -/
structure CodeCheck where
  bad : Bool
  injected : Bool
  during : Bool
  deriving DecidableEq, Repr

/-- A code of up to 16 bits checked: its remainder or difference is `syn` (R304, R305). -/
def State.checkCode (s : State) (src chk syn : Nat) : CodeCheck × State :=
  match s.injectMask src chk with
  | none => ({ bad := syn != 0, injected := false, during := false }, s)
  | some _ =>
    if syn ≠ 0 then ({ bad := true, injected := false, during := true }, s.injectDone false)
    else ({ bad := true, injected := true, during := false }, s.injectDone true)

/-- The 9 check results of a queue word that a mask gives mean a single error: odd overall parity, and the eight others zero, one
check bit's, or a stored bit's column (R231). -/
def queueSingle (m : Nat) : Bool :=
  let sy := m % 256
  parity64 (BitVec.ofNat 64 m) && (sy == 0 || (List.range 8).any (fun i => sy == 2 ^ i) || Config.queueColumn sy)

/-- The check of a queue word that differs in `wrong`: a single error is corrected, counted and a level-1 event; any other spoils the
word, a level-2 event (R231). -/
def State.queueError (s : State) (src chk wrong : Nat) (injected during : Bool) : Bool × State :=
  if queueSingle wrong then
    let n := s.noc
    let key := 8 * src + chk
    let s := { s with noc := { n with queueFixed := tput 0 key (min (tget 0 n.queueFixed key + 1) (2 ^ 32 - 1)) n.queueFixed } }
    (false, s.raiseFull src 0x01 1 (Config.queueIndex src chk) (chk + 2 ^ 7 * wrong) injected during)
  else (true, s.raiseFull src 0x07 2 (Config.queueIndex src chk) 0 injected during)

/-- A word that is read from a dual-clock queue checked: true when it comes with its tag forced to 00; `wrong` is how its stored check
bits differ (R231, R304 to R306). -/
def State.checkEntry (s : State) (src chk wrong : Nat) : Bool × State :=
  match s.injectMask src chk with
  | none => if wrong = 0 then (false, s) else s.queueError src chk wrong false false
  | some m => if wrong = 0 then (s.injectDone true).queueError src chk m true false else (s.injectDone false).queueError src chk wrong false true

/-! ### Dual-clock queues -/

/-- The 5-bit Gray count of a number, and the number of a Gray count (R230). -/
def gray (n : Nat) : BitVec 5 := BitVec.ofNat 5 (n % 32) ^^^ (BitVec.ofNat 5 (n % 32) >>> 1)
def ungray (g : BitVec 5) : Nat := (g ^^^ (g >>> 1) ^^^ (g >>> 2) ^^^ (g >>> 3) ^^^ (g >>> 4)).toNat

/-- A Gray count advanced by n. -/
def grayNext (g : BitVec 5) (n : Nat) : BitVec 5 := gray (ungray g + n)

/-- Occupancy as the writer computes it: its write count minus the read count that has crossed (R232). -/
def CrossQ.occupancy (q : CrossQ) : Nat := (ungray q.wr + 32 - ungray q.rdSeen) % 32

/-- The writer's full flag (R232). -/
def CrossQ.full (q : CrossQ) : Bool := decide (14 ≤ q.occupancy)

/-- The reader's empty flag: its read count has reached the write count that has crossed (R232). -/
def CrossQ.empty (q : CrossQ) : Bool := q.rd == q.wrSeen

/-- Each count has crossed to the other side (Table 11.11, step 2; assumption 13). -/
def CrossQ.cross (q : CrossQ) : CrossQ := { q with wrSeen := q.wr, rdSeen := q.rd }

/-- A word written with its own check bits, while full does not stand (R230, R232). -/
def CrossQ.write (q : CrossQ) (x : NFlit) : CrossQ := { q with entries := q.entries ++ [{ flit := x, wrong := 0 }], wr := grayNext q.wr 1 }

/-- Words written until full is raised, and those that wait (R232). -/
def CrossQ.writeAll (q : CrossQ) : List NFlit → CrossQ × List NFlit
  | [] => (q, [])
  | x :: l => if q.full then (q, x :: l) else (q.write x).writeAll l

/-- The word at the head stage read (R230, R232). -/
def CrossQ.read (q : CrossQ) : Option (QEntry × CrossQ) :=
  if q.empty then none else q.entries.head?.map (fun e => (e, { q with entries := q.entries.drop 1, rd := grayNext q.rd 1 }))

/-- A flush: every stored word discarded, the reader's count at the writer's (R233). -/
def CrossQ.flush (q : CrossQ) : CrossQ := { q with entries := [], rd := q.wr, wrSeen := q.wr, rdSeen := q.wr }

/-- Key of the dual-clock queue of router k and channel v: d = 0 out of the attached unit, 1 into it, 2 from the peer link. -/
def crossKey (k d v : Nat) : Nat := (4 * k + d) * 4 + v

/-- A dual-clock queue. -/
def State.crossing (s : State) (k d v : Nat) : CrossQ := tget CrossQ.reset s.noc.cross (crossKey k d v)

/-- A dual-clock queue replaced. -/
def State.setCrossing (s : State) (k d v : Nat) (q : CrossQ) : State :=
  { s with noc := { s.noc with cross := tput CrossQ.reset (crossKey k d v) q s.noc.cross } }

/-- The queues of all four channels flushed (R233). -/
def State.flushCrossing (s : State) (k d : Nat) : State :=
  (List.range 4).foldl (fun s v => s.setCrossing k d v (s.crossing k d v).flush) s

/-- A word that passes a dual-clock queue whose reader takes it at once, checked as it is read (R230, R231). -/
def State.passWord (s : State) (k d v src chk : Nat) : Bool × State :=
  let q := s.crossing k d v
  (s.setCrossing k d v ({ q with wr := grayNext q.wr 1, rd := grayNext q.rd 1 }).cross).checkEntry src chk 0

/-- The n words of a packet that pass such a queue: true when one of them spoils it. -/
def State.passWords (s : State) (k d v src chk : Nat) : Nat → Bool × State
  | 0 => (false, s)
  | n + 1 =>
    let (a, s) := State.passWords s k d v src chk n
    let (b, s) := s.passWord k d v src chk
    (a || b, s)

/-- The CRC-8 remainder of a token against its stored code (R37). -/
def tokenSyndrome (t : BitVec 96) : Nat := (crc8Token t ^^^ t.extractLsb' 88 8).toNat

/-- The control parity of a field against its stored bits (R39). -/
def paritySyndrome (c : BitVec 96) : Nat := (ctlParity c ^^^ c.extractLsb' 88 8).toNat

/-- Device d is in the bridge map (Table 12.8). -/
def State.isBridge (s : State) (d : Nat) : Bool := (s.obj 0x2C00 5).testBit d

/-- The class of a token is not allowed for its source (R25, Table 2.2). -/
def State.classFault (s : State) (ctl tok : BitVec 96) : Bool :=
  let own := ctlDevice ctl == s.devId
  let unit := ctlUnit ctl
  let code := ctlEngine ctl
  let bridge := s.isBridge (ctlDevice ctl)
  match tokClass tok with
  | 0 => unit || bridge
  | 1 => unit || bridge
  | 2 => if unit then code != 0 else bridge
  | 3 => if unit then code != 4 else (if bridge then tokSlot tok != 0x3FF2 else !own)
  | 4 => !(unit && code == 0 && own)
  | 5 => unit || !bridge
  | 6 => !(unit && (code == 1 || code == 2) && own)
  | _ => true

/-! ### Epochs -/

/-- d of R33: a tag against a view. -/
def tagDistance (tag view : Nat) : Nat := (tag + 256 - view % 256) % 256

/-- A 36-bit report extended to the epoch nearest to a view (R27). -/
def nearestEpoch (v view : Nat) : Nat :=
  let base := view / 2 ^ 36 * 2 ^ 36 + v % 2 ^ 36
  if view + 2 ^ 35 < base ∧ 2 ^ 36 ≤ base then base - 2 ^ 36
  else if base + 2 ^ 35 < view then base + 2 ^ 36
  else base

/-! ### Acceptance -/

/-- The first open obligation of a node, emit sequence and epoch tag loses one unaccepted token and its credit returns; with none
open, nothing happens (R67). -/
def TokenUnit.settle (t : TokenUnit) (node : BitVec 14) (seq : BitVec 6) (tag : BitVec 8) : TokenUnit :=
  match takeFirst (fun o => o.node == node && o.seq == seq && o.tag == tag) t.obligations with
  | none => t
  | some (o, rest) =>
    let left := if o.credits ≤ 1 then rest else
      updFirst (fun x => x == o) (fun x => { x with credits := x.credits - 1 }) t.obligations
    { t with obligations := left, credits := min 4096 (t.credits + 1) }

/-- Recompute obligations whose activation has nothing open, waiting or running are answered (R88). -/
def TokenUnit.answered (t : TokenUnit) (act : Option Activation) : TokenUnit :=
  { t with unanswered := t.unanswered.filter (fun (n, e) =>
      t.obligations.any (fun o => o.node.toNat == n && o.epoch == e) ||
      t.ready.any (fun r => r.refire && r.node.toNat == n && r.epoch == e) ||
      t.waiting.any (fun r => r.refire && r.node.toNat == n && r.epoch == e) ||
      t.again.any (fun r => r.node.toNat == n && r.epoch == e) ||
      (match act with | some a => a.refire && a.node.toNat == n && a.epoch == e | none => false)) }

/-- Acceptance of a token named by node, sequence and tag reaches engine g (R42, R67). -/
def State.settle (s : State) (g : Nat) (node : BitVec 14) (seq : BitVec 6) (tag : BitVec 8) : State :=
  s.setTu g (((s.tu g).settle node seq tag).answered (s.core g).act)

/-! ### Reports and distributions -/

/-- Engine g reports its lowest unretired epoch to its cluster waterline node (R69, Table 2.3). -/
def State.sendEngineReport (s : State) (g f : Nat) : State :=
  let l := s.logical g s.noc.gen
  let k := clusterOf g
  let t := s.tu g
  let s := s.setTu g { t with reported := some t.lur }
  s.sendToken k vcEscape 8 (s.routeEntry k 1 (l / 16)) { device := s.devId, engine := l, node := 0, seq := 0 }
    (mkReport s.devId (16 * (l / 16)) 0x3FF0 f t.lur)

/-- Waterline node of cluster c, which lies in the always-on region, reports to the device node (R74). -/
def State.sendClusterReport (s : State) (c f v : Nat) : State :=
  let s := s.setCluster c { s.cluster c with wnReported := some v }
  ((s.openInterface c).sendToken c vcEscape 8 (s.routeEntry c 3 0) (unitSrc s.devId 4) (mkReport s.devId 0 0x3FF1 f v)).closeInterface c s

/-- The device node reports to the parent (R74). -/
def State.sendDeviceReport (s : State) (f v : Nat) : State :=
  let s := s.setFlight f { s.flight f with reported := some v }
  let p := s.obj (0x2800 + f) 0xD
  let d := (s.port p).partner
  if p < 8 ∧ d < 1024 then
    s.sendToken 45 vcEscape 8 (s.routeEntry 45 2 d) (unitSrc s.devId 4) (mkReport d 0 0x3FF2 f v)
  else s

/-- Logical cluster of physical cluster c, in the generation in force (R93). -/
def State.logicalCluster (s : State) (c : Nat) : Nat := domByte (s.engineMap c s.noc.gen) 0

/-- Waterline v distributed to the flight's clusters and to the child ports (R74). -/
def State.distribute (s : State) (f v : Nat) : State :=
  let s := (List.range 32).foldl (fun s c =>
    if s.inFlight f c then
      let lc := s.logicalCluster c
      s.sendToken 45 vcEscape 8 (s.routeEntry 45 1 lc) (unitSrc s.devId 4) (mkReport s.devId (16 * lc) 0x3FF3 f v)
    else s) s
  (List.range 8).foldl (fun s p =>
    let d := (s.port p).partner
    if (s.obj (0x2800 + f) 0xE).testBit p ∧ d < 1024 then
      s.sendToken 45 vcEscape 8 (s.routeEntry 45 2 d) (unitSrc s.devId 4) (mkReport d 0 0x3FF3 f v)
    else s) s

/-- This device is the flight's root (Table 4.1). -/
def State.isRoot (s : State) (f : Nat) : Bool := s.obj (0x2800 + f) 0xC == s.devId

/-- The least of a list. -/
def leastOf (l : List Nat) : Option Nat :=
  l.foldl (fun b x => match b with | none => some x | some m => some (min m x)) none

/-- Minimum that the waterline node of cluster c holds (R74). -/
def State.clusterMinimum (s : State) (c f : Nat) : Option Nat :=
  leastOf (((s.enginesOf f).filter (fun g => clusterOf g == c)).map (fun g => tget 0 (s.cluster c).wnReports (s.logical g s.noc.gen)))

/-- Minimum that the device node holds (R74). -/
def State.deviceMinimum (s : State) (f : Nat) : Option Nat :=
  let x := s.flight f
  leastOf (((List.range 32).filter (fun c => s.inFlight f c)).map (fun c => tget 0 x.clusterReports c) ++
    ((List.range 8).filter (fun p => (s.obj (0x2800 + f) 0xE).testBit p)).map (fun p => tget 0 x.childReports p))

/-- Epoch v is held off after a restart (R75). -/
def State.heldOff (s : State) (f v : Nat) : Bool :=
  match (s.flight f).holdoff with | some r => decide (r < v) | none => false

/-! ### Epoch strobes -/

/-- The time-base outputs are enabled: 0x2240:01, default TMSTR (Table 13.6). -/
def State.outputsOn (s : State) : Bool :=
  let v := s.obj 0x2240 1
  if v = unwritten then s.straps.tmstr else v == 1

/-- The pins TB_CLK_OUT and TB_PPS_OUT are driven by the counter: enabled, and start-up step 7 reached; low otherwise (R274, Table 18.3). -/
def State.drivesTime (s : State) : Bool := s.outputsOn && decide (7 ≤ s.startStep)

/-- TB_CLK_OUT is high: 100 MHz with its rising edge at each multiple of 10 ns of the counter (R274; its falling edge, half-way, is PRESUMED,
assumption 84). -/
def State.tbClkOut (s : State) : Bool := s.drivesTime && decide (s.now % 10 < 5)

/-- TB_PPS_OUT is high: it rises at each multiple of 10⁹ ns and stays high for 1 ms (R274). -/
def State.tbPpsOut (s : State) : Bool := s.drivesTime && decide (s.now % 10 ^ 9 < 10 ^ 6)

/-- Pulses of the epoch strobes of flight f when its counter moves from a to b (R275). -/
def State.strobe (s : State) (f a b : Nat) : State :=
  (List.range 4).foldl (fun s i =>
    if s.obj (0x2230 + i) 1 = f ∧ s.obj (0x2800 + f) 2 ≠ 0 ∧ s.outputsOn then
      let k := s.obj (0x2230 + i) 2
      let n := s.eps.toList.getD i 0 + (b / 2 ^ k - a / 2 ^ k)
      let s := { s with eps := s.eps.setIfInBounds i (min n 65535) }
      if 65535 ≤ n then s.setObj (0x2230 + i) 4 1 else s
    else s) s

/-! ### Draw-up triggers -/

/-- A slot's bucket lies in the window [view, view + T) (R78, R79). -/
def BogSlot.inWindow (x : BogSlot) (view t : Nat) : Bool := decide ((x.lap + 64 - view % 64) % 64 < t)

/-- A draw-up trigger of flight f: taken in RUNNING and HALTING (R79). -/
def State.bogTrigger (s : State) (f : Nat) : State :=
  let x := s.flight f
  if x.state = .running ∨ x.state = .halting then
    { s with bog := s.bog.map (fun b => if b.flight == f && !b.held && b.draw.isNone && b.inWindow x.view x.tether then { b with queued := true, back := false } else b) }
  else s

/-! ### The tether -/

/-- T of flight f on this device changed (R47): at the device and at every engine of the flight. -/
def State.tetherTo (s : State) (f n : Nat) : State :=
  let x := s.flight f
  let up := decide (x.tether < n)
  let s :=
    if n ≤ x.frames then s.setFlight f { x with tether := n, payPending := none }
    else if x.view % n = 0 then s.setFlight f { x with tether := n, frames := n, payPending := none }
    else s.setFlight f { x with payPending := some n }
  let s := (s.enginesOf f).foldl (fun s g => s.setTether g n) s
  if up ∧ (s.flight f).tether = n then s.bogTrigger f else s

/-- Advance of the view over the last 8 samples (R76). -/
def Tether.advance (t : Tether) : Nat :=
  match t.views with
  | [] => 0
  | v :: l => v - (l.getLast?).getD v

/-! ### The view of the device -/

/-- The view of flight f on this device advanced to v: epoch strobes, end of a becalming, a pay-out whose multiple is reached,
HALTED when h + 1 is reached, a draw-up, epoch triggers (R47, R74, R79, R85, R90, R275, R376). -/
def State.advanceView (s : State) (f v : Nat) : State :=
  let x := s.flight f
  if v ≤ x.view then s else
  let s := s.strobe f x.view v
  let x := { x with view := v, becalmed := false, boost := false }
  let x := match x.payPending with
    | some n => if v % n = 0 then
        { x with tether := n, frames := n, payPending := none, tc := { x.tc with payout := some (0, x.tc.advance, false), quiet := 0 } } else x
    | none => x
  let s := s.setFlight f x
  let s := if x.state = .halting ∧ x.agreed ∧ x.haltEpoch < v then s.enterFlight f .halted else s
  (s.bogTrigger f).epochTriggers f v

/-- The device node has a new minimum: the root distributes it, another device reports it (R74). -/
def State.deviceReduce (s : State) (f : Nat) : State :=
  match s.deviceMinimum f with
  | none => s
  | some m =>
    if s.isRoot f then
      if (s.flight f).view < m then (s.advanceView f m).distribute f m else s
    else if (s.flight f).reported = some m then s else s.sendDeviceReport f m

/-- The cluster node has a new minimum (R74). -/
def State.clusterReduce (s : State) (c f : Nat) : State :=
  match s.clusterMinimum c f with
  | none => s
  | some m => if (s.cluster c).wnReported = some m then s else s.sendClusterReport c f m

end Sys2Proof.Machine
end

