-- ==== Sys2Proof/Machine/Tokens.lean ====
section
/-! DEFINITION. Token arrival, dispatch, retirement of epochs, retire reports and distributions, acceptance, recompute requests,
debug probes and token credits (R28, R42 to R44, R48 to R50, R54, R57 to R69, R72 to R75, R87, R88, R220, R381). -/

namespace Sys2Proof.Machine

/-! ### Taking a flit -/

/-- The cluster of engine g is powered and clocked: its domain is LIVE, QUIESCE or DRAIN. -/
def State.clusterRuns (s : State) (c : Nat) : Bool :=
  (s.domain c).state == .live || (s.domain c).state == .quiesce || (s.domain c).state == .drain

/-- The interface of cluster c passes tokens, requests and responses inward: LIVE or QUIESCE, not contained (R279, R286). -/
def State.passesInward (s : State) (c : Nat) : Bool :=
  ((s.domain c).state == .live || (s.domain c).state == .quiesce) && !(s.domain c).contained

/-- The flit at the head of a token queue of engine g (R64, R220). -/
def State.queueHead (s : State) (g : Nat) (q : QueueSrc) : Option Flit :=
  match q with
  | .loopback => (s.tu g).loopback.head?
  | .partition k => (tget [] (s.tu g).parts k.toNat).head?

/-- The head taken from its queue; a partition's credit goes on its way back (R220). -/
def State.popQueue (s : State) (g : Nat) (q : QueueSrc) : State :=
  let t := s.tu g
  match q with
  | .loopback => s.setTu g { t with loopback := t.loopback.drop 1 }
  | .partition k =>
    let key := 64 * g + k.toNat
    let s := s.setTu g { t with parts := tput [] k.toNat ((tget [] t.parts k.toNat).drop 1) t.parts }
    { s with noc := { s.noc with tokBack := tput 0 key (tget 0 s.noc.tokBack key + 1) s.noc.tokBack } }

/-! ### Checks of R381 -/

/-- Acceptance of a token taken by engine g: its own token's obligation is settled, any other is answered by ACCEPT (R42). -/
def State.acceptToken (s : State) (g : Nat) (q : QueueSrc) (x : Flit) : State :=
  match q with
  | .loopback => s.settle g (x.ctl.extractLsb' 68 14) (ctlSeq x.ctl) (tokTag x.token)
  | .partition _ => s.sendAccept (clusterOf g) x.ctl x.token

/-- A malformed token: counted, reported at level 3, dropped (R43). -/
def State.malformed (s : State) (g code : Nat) (x : Flit) : State :=
  (s.tick1 g 0xC).raise g code 3 (sourceField x.ctl) (tokenField x.token)

/-- A token with a CRC-8 failure: counted, reported at level 1, dropped, and a recompute request sent to an engine, a bridge or a
bog controller (Table 2.9, R87). The manual gives no source node or emit sequence for a request that a token unit sends: 0 and 0
(DESIGN CHOICE, assumption 24). -/
def State.badToken (s : State) (g : Nat) (x : Flit) (c : CodeCheck) : State :=
  let s := (s.tick1 g 0xC).raiseFull g 0x10 1 (sourceField x.ctl) (tokenField x.token) c.injected c.during
  if ctlUnit x.ctl ∧ ctlEngine x.ctl ≠ 0 then s else
  let l := s.logical g s.noc.gen
  s.sendRecompute (clusterOf g) l 0 { device := s.devId, engine := l, node := 0, seq := 0 } x.ctl x.token

/-- The first of checks 2 to 5 of R381 that fails, as its event code. -/
def State.checks2to5 (s : State) (g : Nat) (x : Flit) : Option Nat :=
  if x.token.extractLsb' 85 3 ≠ 0 then some 0x11
  else if s.classFault x.ctl x.token then some 0x12
  else if tokDevice x.token ≠ s.devId then some 0x15
  else if s.flightOf (clusterOf g) ≠ some (tokFlight x.token) then some 0x15
  else none

/-- A token handed to the bog controller over ESCAPE, counted in the balance of its epoch (R48, Table 3.3 rows 1 and 3). -/
def State.handToBog (s : State) (g e : Nat) (x : Flit) : State :=
  let s := s.setBalance g e (s.balance g e + 1)
  let s := (s.tick1 g 7).traceToken g x.token e 3
  let k := clusterOf g
  s.sendToken k vcEscape (s.escapeUrgency x.token) (s.routeEntry k 3 0) (srcOf x.ctl) x.token

/-- The arrival outcomes of Table 3.3 for a token of flight f that has passed its checks; d is its distance, owner its node. An epoch
below zero is never formed: such a token is stale in any state (R33). -/
def State.arrive (s : State) (g f : Nat) (q : QueueSrc) (x : Flit) (d owner : Nat) : State :=
  let t := s.tu g
  let e := if d < 192 then t.view + d else t.view + d - 256
  let st := (s.flight f).state
  let detail := fun (s : State) (code : Nat) => s.raise g code 3 (sourceField x.ctl) (tokenField x.token)
  if (st = .loaded ∨ st = .halted ∨ st = .mired) ∧ (d < 192 ∨ 256 ≤ t.view + d) then s.handToBog g e x
  else if 192 ≤ d then (detail s 0x18).acceptToken g q x
  else if t.view + t.tether ≤ e then s.handToBog g e x
  else
    let ix := s.entryIx g f e (tokSlot x.token)
    match s.readEntry g ix with
    | (none, s) => s
    | (some (v, present, mark), s) =>
      if present then
        if v = tokValue x.token then ((s.tick1 g 6).traceToken g x.token e 1).acceptToken g q x
        else (((detail s 0x19).raise g 0x1A 3 v.toNat (tokValue x.token).toNat).traceToken g x.token e 2).acceptToken g q x
      else if mark then ((detail s 0x19).raise g 0x1A 3 (2 ^ 36) (tokValue x.token).toNat).acceptToken g q x
      else if s.handled g owner e then (detail s 0x1B).acceptToken g q x
      else
        let s := (s.tick1 g 5).writeEntry g ix (tokValue x.token) true false
        let s := (s.traceToken g x.token e 0).valueTriggers (s.logical g s.noc.gen) x.token e
        (s.acceptToken g q x).evaluateNode g owner

/-- Checks 6 to 9 of R381 and the arrival outcome. -/
def State.checks6to9 (s : State) (g : Nat) (q : QueueSrc) (x : Flit) : State :=
  let f := tokFlight x.token
  if (s.flight f).state = .idle then (s.tick1 g 0xD).acceptToken g q x else
  let d := tagDistance (tokTag x.token).toNat (s.tu g).view
  let slot := tokSlot x.token
  if 64 ≤ d ∧ d < 192 then s.malformed g 0x16 x
  else if s.frameSize f ≤ slot then s.malformed g 0x14 x
  else
    match s.slotOwner g slot with
    | none => s.malformed g 0x14 x
    | some (n, i) =>
      match s.readDesc g n with
      | (none, s) => s
      | (some desc, s) =>
        let moored := desc.moored.getLsbD i
        if (tokClass x.token = 0 ∧ moored) ∨ (tokClass x.token = 1 ∧ ¬ moored) then s.malformed g 0x13 x else
        if tokClass x.token = 4 then
          let e := (s.tu g).view + d
          let b := s.balance g e
          let s := (s.setBalance g e (b - 1)).arrive g f q x d n
          if b ≤ 1 ∧ s.balance g e = 0 then s.sweep g else s
        else s.arrive g f q x d n

/-- TOKEN_ARRIVAL at engine g. A class 010 or 011 token in a token queue, of which the manual says nothing, is malformed by its class once
checks 2 to 5 have passed (DESIGN CHOICE, assumption 88). -/
def State.tokenArrivalStep (s : State) (g : Nat) (q : QueueSrc) : State :=
  match s.queueHead g q with
  | none => s
  | some x =>
    if ¬ s.clusterRuns (clusterOf g) ∨ tokClass x.token = 6 then s else
    let s := s.popQueue g q
    let (c, s) := s.checkCode g 6 (tokenSyndrome x.token)
    if c.bad then s.badToken g x c else
    match s.checks2to5 g x with
    | some code => s.malformed g code x
    | none => if tokClass x.token = 2 ∨ tokClass x.token = 3 then s.malformed g 0x12 x else s.checks6to9 g q x

/-- TOKEN_ARRIVAL (R42, R43, R48, R49, R381). -/
def execTokenArrival (g : BitVec 9) (q : QueueSrc) (s : State) : Host.Outcome State Fault Refusal :=
  match q with
  | .partition k => .next (if k.toNat < 46 then s.tokenArrivalStep g.toNat q else s)
  | .loopback => .next (s.tokenArrivalStep g.toNat q)

/-! ### Debug probes -/

/-- The five words of a probe report (R28). -/
def probeWords (tag value : Word) (present mark inWindow owned : Bool) (node input d view : Nat) : List Word :=
  [tag, value,
   BitVec.ofNat 36 ((if present then 1 else 0) + (if mark then 2 else 0) + (if inWindow then 4 else 0) + (if owned then 8 else 0) +
     2 ^ 4 * node + 2 ^ 18 * input + 2 ^ 22 * d),
   BitVec.ofNat 36 view, BitVec.ofNat 36 (view / 2 ^ 36)]

/-- A report sent to the unit that the probe's source fields name (R28). -/
def State.sendProbeReport (s : State) (g : Nat) (x : Flit) (status : Nat) (words : List Word) : State :=
  let k := clusterOf g
  let src := srcOf x.ctl
  let off := tokSlot x.token + 2 ^ 14 * (tokTag x.token).toNat
  s.sendPacket k vcRsp 0 (s.unitEntry k src.device src.engine) src (mkHead off 0 0x31 5 0 status 0 false) words

/-- A probe that has passed checks 1 to 5 (R28). -/
def State.probe (s : State) (g : Nat) (x : Flit) : State :=
  let f := tokFlight x.token
  let t := s.tu g
  let idle := (s.flight f).state == .idle
  let d := tagDistance (tokTag x.token).toNat t.view
  let slot := tokSlot x.token
  let owner := if idle then none else if slot < s.frameSize f then s.slotOwner g slot else none
  let inWindow := !idle && decide (d < t.tether)
  let (n, i) := owner.getD (0, 0)
  if ¬ idle ∧ slot < s.frameSize f ∧ t.mapBad slot then
    s.sendProbeReport g x 4 (probeWords (tokValue x.token) 0 false false inWindow false 0 0 d t.view)
  else if inWindow ∧ owner.isSome then
    let ix := s.entryIx g f (t.view + d) slot
    match s.readEntry g ix with
    | (none, s) => s.sendProbeReport g x 4 (probeWords (tokValue x.token) 0 false false inWindow true n i d t.view)
    | (some (v, p, m), s) => s.sendProbeReport g x 0 (probeWords (tokValue x.token) v p m inWindow true n i d t.view)
  else s.sendProbeReport g x 0 (probeWords (tokValue x.token) 0 false false inWindow owner.isSome n i d t.view)

/-- The credit of the oldest probe with a token-credit key has come back (R28, R42). -/
def State.probeBack (s : State) (key : Nat) : State :=
  { s with probes := updFirst (fun p => p.credit && p.key == key) (fun p => { p with credit := false }) s.probes }

/-- DEBUG_PROBE at engine g. -/
def State.probeStep (s : State) (g : Nat) (q : QueueSrc) : State :=
  match s.queueHead g q with
  | none => s
  | some x =>
    if ¬ s.clusterRuns (clusterOf g) ∨ tokClass x.token ≠ 6 then s else
    let s := s.popQueue g q
    let s := match q with | .partition k => s.probeBack (64 * g + k.toNat) | .loopback => s
    let (c, s) := s.checkCode g 6 (tokenSyndrome x.token)
    if c.bad then s.badToken g x c else
    match s.checks2to5 g x with
    | some code => s.malformed g code x
    | none => s.probe g x

/-- DEBUG_PROBE (R28). -/
def execDebugProbe (g : BitVec 9) (q : QueueSrc) (s : State) : Host.Outcome State Fault Refusal :=
  match q with
  | .partition k => .next (if k.toNat < 46 then s.probeStep g.toNat q else s)
  | .loopback => .next (s.probeStep g.toNat q)

/-- PROBE_RPT: the report at the head of the service units' responses lands in the originator's buffer, if that waits for its tag;
otherwise it is discarded (R28). -/
def execProbeRpt (s : State) : Host.Outcome State Fault Refusal :=
  match s.svcRsp with
  | [] => .next s
  | p :: l =>
    if hdOp p.head ≠ 0x31 then .next s else
    let words := flitWords p.data 5
    let tag := words.getD 0 0
    let t := { s with svcRsp := l }
    if headSyndrome p.head ≠ 0 ∨ p.data.any (fun f => dataSyndrome f != 0) then
      .next (t.raise (srcId 19 13) 0x23 1 (sourceField p.ctl) (hdTag p.head).toNat)
    else match takeFirst (fun b => b.tag == tag) s.probes with
      | some (_, rest) => .next ({ t with probes := rest }.put (.probeReport words))
      | none => .next (t.discard (srcId 19 13))

/-- A probe ended by its originator: its buffer freed, and its credit, when that has not come back, taken back (R28). -/
def State.endProbe (s : State) (tag : Word) : State :=
  match takeFirst (fun b => b.tag == tag) s.probes with
  | none => s
  | some (b, rest) =>
    let s := { s with probes := rest }
    if b.credit then { s with noc := { s.noc with tokUsed := tput 0 b.key (tget 0 s.noc.tokUsed b.key - 1) s.noc.tokUsed } } else s

/-- PROBE_TIMEOUT: the originator ends the probe, frees the buffer and takes the credit back (R28). -/
def execProbeTimeout (tag : Word) (s : State) : Host.Outcome State Fault Refusal := .next (s.endProbe tag)

/-! ### Token credits -/

/-- TOKEN_CREDIT_RETURN: a credit of partition k of engine g's queue comes back to its router (R220). -/
def execTokenCreditReturn (g : BitVec 9) (k : BitVec 6) (s : State) : Host.Outcome State Fault Refusal :=
  if 46 ≤ k.toNat then .next s else
  let key := 64 * g.toNat + k.toNat
  let n := s.noc
  if tget 0 n.tokBack key = 0 then .next s
  else .next { s with noc := { n with tokBack := tput 0 key (tget 0 n.tokBack key - 1) n.tokBack,
                                      tokUsed := tput 0 key (tget 0 n.tokUsed key - 1) n.tokUsed } }

/-! ### Dispatch -/

/-- The head of the ready queue: lowest epoch, then first entered, among the entries that do not run (R57). -/
def TokenUnit.head (t : TokenUnit) : Option REntry :=
  (t.ready.filter (fun r => !r.running)).foldl
    (fun b r => match b with
      | none => some r
      | some m => if r.epoch < m.epoch ∨ (r.epoch = m.epoch ∧ r.order < m.order) then some r else some m) none

/-- The flight's state permits the entry's dispatch (R62, R85, R90). -/
def State.mayDispatch (s : State) (g f : Nat) (r : REntry) : Bool :=
  match (s.flight f).state with
  | .running => true
  | .halting => r.refire || (match (s.tu g).ceiling with | some c => decide (r.epoch ≤ c) | none => true)
  | _ => false

/-- The state swap of a re-fire: the live state to the hold area, the journal's copy into the state region (R67). -/
def State.swapIn (s : State) (g n e : Nat) (d : Desc) : Bool × State :=
  match s.unitReads g d.stateBase d.stateLen with
  | (none, s) => (false, s)
  | (some live, s) =>
    match s.unitReads g (s.recordAt g n e + 17) d.stateLen with
    | (none, s) => (false, s)
    | (some old, s) => (true, (s.writeLocals g (s.journalBase g) live).writeLocals g d.stateBase old)

/-- Registers at dispatch (Table 5.9, R98). -/
def Core.dispatched (c : Core) (ctl : Nat) (d : Desc) (f : Nat) (r : REntry) : Core :=
  { Core.reset with
    pc := d.entry, x := BitVec.ofNat 36 (windowAt r.q.toNat), y := 0x17FFF, b := 8, ep := BitVec.ofNat 48 r.epoch, fl := BitVec.ofNat 5 f,
    win := BitVec.ofNat 17 (windowAt r.q.toNat), fsr := BitVec.ofNat 19 (ctl / 32 % 1024 * 32), stopped := c.stopped, serial := c.serial,
    act := some { q := r.q, node := r.node, epoch := r.epoch, refire := r.refire, sent := 0, fanout := d.fanout,
                  fanlist := BitVec.ofNat 17 d.fanlist, stateSrc := d.stateSrc, stateBase := BitVec.ofNat 17 d.stateBase,
                  stateLen := d.stateLen } }

/-- Entry r of flight f dispatched with its descriptor (Table 3.7). -/
def State.start (s : State) (g f : Nat) (r : REntry) (d : Desc) : State :=
  let t := s.tu g
  let t := { t with credits := t.credits - d.fanout, highest := if r.refire then t.highest else max t.highest r.epoch,
                    fired := if r.refire then t.fired else t.fired ++ [(r.node.toNat, r.epoch)],
                    ready := updFirst (fun y => y == r) (fun y => { y with running := true }) t.ready }
  let s := (s.tick1 g (if r.refire then 2 else 1)).setTu g t
  s.setCore g ((s.core g).dispatched (s.obj (0x2400 + g) 0x10) d f r)

/-- DISPATCH at engine g (R62, R67). -/
def State.dispatchStep (s : State) (g : Nat) : State :=
  let t := s.tu g
  let c := clusterOf g
  match s.flightOf c, t.head with
  | some f, some r =>
    if (s.core g).act.isSome ∨ s.unitStopped g ∨ s.retiredEngine g ∨ ¬ s.clusterRuns c ∨ (s.domain c).contained ∨
        (s.cluster c).phase = .stopping ∨ ¬ s.mayDispatch g f r ∨ ¬ (t.view ≤ r.epoch ∧ r.epoch < t.view + s.fireSpan g) then s
    else
      match s.readDesc g r.node.toNat with
      | (none, s) => s
      | (some d, s) =>
        if (s.tu g).credits < d.fanout then s else
        if r.refire then
          match s.swapIn g r.node.toNat r.epoch d with
          | (false, s) => s
          | (true, s) => s.start g f r d
        else s.start g f r d
  | _, _ => s

/-- DISPATCH (R62, Table 3.7). -/
def execDispatch (g : BitVec 9) (s : State) : Host.Outcome State Fault Refusal := .next (s.dispatchStep g.toNat)

/-! ### Retiring an epoch -/

/-- Handled count of epoch e: the nodes handled at it (R54, R68). -/
def TokenUnit.handledCount (t : TokenUnit) (e : Nat) : Nat := (t.next.filter (fun x => decide (e < x.2))).length

/-- A recompute request names epoch r: by its tag, or, of a state source, by the tag of the epoch after it (R88). -/
def TokenUnit.asksFor (t : TokenUnit) (r : Nat) (x : Flit) : Bool :=
  let e := t.view + tagDistance (tokTag x.token).toNat t.view
  e == r || e == r + 1

/-- Nothing of epoch r is open at the engine: obligations, re-fires, recompute requests handled or still queued (R68). -/
def State.nothingOpen (s : State) (g r : Nat) : Bool :=
  let t := s.tu g
  !t.obligations.any (fun o => o.epoch == r) && !t.ready.any (fun x => x.refire && x.epoch == r) &&
  !t.waiting.any (fun x => x.refire && x.epoch == r) && !t.again.any (fun x => x.epoch == r) && !t.unanswered.any (fun x => x.2 == r) &&
  !t.recomp.any (t.asksFor r)

/-- ENGINE_RETIRE at engine g (R68, R69). -/
def State.retireStep (s : State) (g : Nat) : State :=
  match s.flightOf (clusterOf g) with
  | none => s
  | some f =>
    let t := s.tu g
    let st := (s.flight f).state
    if st = .idle ∨ st = .loaded ∨ s.unitStopped g ∨ s.retiredEngine g ∨ ¬ s.clusterRuns (clusterOf g) ∨ t.handledCount t.lur ≠ t.count ∨
        ¬ s.nothingOpen g t.lur ∨ ¬ (t.lur < t.view + t.tether) then s
    else (s.setTu g { t with lur := t.lur + 1, fired := t.fired.filter (fun x => decide (t.lur < x.2)) }).sendEngineReport g f

/-- ENGINE_RETIRE (R68, R69). -/
def execEngineRetire (g : BitVec 9) (s : State) : Host.Outcome State Fault Refusal := .next (s.retireStep g.toNat)

/-! ### Reports and distributions -/

/-- RETIRE_REPORT_REPEAT: the unchanged report sent again (R27); the root's device node repeats its distribution. -/
def State.repeatStep (s : State) (f : Nat) (r : Reporter) : State :=
  match r with
  | .engine g =>
    if s.flightOf (clusterOf g.toNat) = some f ∧ s.clusterRuns (clusterOf g.toNat) ∧ (s.tu g.toNat).reported.isSome then
      s.sendEngineReport g.toNat f else s
  | .cluster c =>
    match (s.cluster c.toNat).wnReported with
    | some v => if s.inFlight f c.toNat then s.sendClusterReport c.toNat f v else s
    | none => s
  | .device =>
    if (s.flight f).state = .idle then s
    else if s.isRoot f then s.distribute f (s.flight f).view
    else match (s.flight f).reported with | some v => s.sendDeviceReport f v | none => s

/-- RETIRE_REPORT_REPEAT (R27). -/
def execRetireReportRepeat (f : BitVec 5) (r : Reporter) (s : State) : Host.Outcome State Fault Refusal := .next (s.repeatStep f.toNat r)

/-- A waterline node's checks of a class 011 token (R25, R27, R38); the event code of the first that fails, and its level. -/
def State.reportCheck (s : State) (x : Flit) : Option (Nat × Nat) :=
  if tokenSyndrome x.token ≠ 0 then some (0x10, 1)
  else if x.token.extractLsb' 85 3 ≠ 0 then some (0x11, 3)
  else if tokClass x.token ≠ 3 ∨ s.classFault x.ctl x.token then some (0x12, 3)
  else if tokDevice x.token ≠ s.devId then some (0x15, 3)
  else if (tokValue x.token).toNat % 256 ≠ (tokTag x.token).toNat then some (0x16, 3)
  else none

/-- RETIRE_REPORT at cluster c: the highest report of each engine is kept, and a changed minimum is reported (R74, R75). What a node raises
for a slot code it does not take or for another flight, of which the manual says nothing, is 0x14 and 0x15 at level 3, as a token unit
(DESIGN CHOICE, assumption 89). -/
def State.clusterReportStep (s : State) (c : Nat) : State :=
  match (s.cluster c).wnIn with
  | [] => s
  | x :: l =>
    if tokSlot x.token = 0x3FF3 then s else
    let s := s.setCluster c { s.cluster c with wnIn := l }
    let f := tokFlight x.token
    match s.reportCheck x with
    | some (code, lvl) => s.raise (srcId 17 c) code lvl (sourceField x.ctl) (tokenField x.token)
    | none =>
      if tokSlot x.token ≠ 0x3FF0 then s.raise (srcId 17 c) 0x14 3 (sourceField x.ctl) (tokenField x.token)
      else if s.flightOf c ≠ some f then s.raise (srcId 17 c) 0x15 3 (sourceField x.ctl) (tokenField x.token)
      else
        let v := nearestEpoch (tokValue x.token).toNat (s.flight f).view
        let y := s.cluster c
        let l := ctlEngine x.ctl
        if s.heldOff f v ∨ v ≤ tget 0 y.wnReports l then s
        else (s.setCluster c { y with wnReports := tput 0 l v y.wnReports }).clusterReduce c f

/-- RETIRE_REPORT at the device node, from a cluster of this device or from a child port (R74, R75). -/
def State.deviceReportStep (s : State) : State :=
  match s.devIn with
  | [] => s
  | (x, k) :: l =>
    if tokSlot x.token = 0x3FF3 then s else
    let s := { s with devIn := l }
    let f := tokFlight x.token
    let src := srcId 19 13
    match s.reportCheck x with
    | some (code, lvl) => s.raise src code lvl (sourceField x.ctl) (tokenField x.token)
    | none =>
      let v := nearestEpoch (tokValue x.token).toNat (s.flight f).view
      let y := s.flight f
      if s.heldOff f v then s
      else if tokSlot x.token = 0x3FF1 ∧ k < 32 then
        if s.inFlight f k ∧ tget 0 y.clusterReports k < v then
          (s.setFlight f { y with clusterReports := tput 0 k v y.clusterReports }).deviceReduce f else s
      else if tokSlot x.token = 0x3FF2 ∧ 36 ≤ k ∧ k < 44 then
        if (s.obj (0x2800 + f) 0xE).testBit (k - 36) ∧ tget 0 y.childReports (k - 36) < v then
          (s.setFlight f { y with childReports := tput 0 (k - 36) v y.childReports }).deviceReduce f else s
      else s.raise src 0x14 3 (sourceField x.ctl) (tokenField x.token)

/-- RETIRE_REPORT (R73, R74). -/
def execRetireReport (n : WNode) (s : State) : Host.Outcome State Fault Refusal :=
  match n with
  | .cluster c => .next (s.clusterReportStep c.toNat)
  | .device => .next s.deviceReportStep

/-- A distribution at the token unit of engine g, which checks its CRC-8 (R38, R43, Table 2.9). -/
def State.unitDistribution (s : State) (g v : Nat) (x : Flit) : State :=
  let (c, s) := s.checkCode g 6 (tokenSyndrome x.token)
  if c.bad then (s.tick1 g 0xC).raiseFull g 0x10 1 (sourceField x.ctl) (tokenField x.token) c.injected c.during else s.setView g v

/-- WATERLINE_DISTRIBUTION at cluster c: passed to each engine of the flight in the cluster (Table 2.3, R74, R280). -/
def State.clusterDistributionStep (s : State) (c : Nat) : State :=
  match (s.cluster c).wnIn with
  | [] => s
  | x :: l =>
    if tokSlot x.token ≠ 0x3FF3 then s else
    let s := s.setCluster c { s.cluster c with wnIn := l }
    let f := tokFlight x.token
    match s.reportCheck x with
    | some (code, lvl) => s.raise (srcId 17 c) code lvl (sourceField x.ctl) (tokenField x.token)
    | none =>
      if s.flightOf c ≠ some f then s.raise (srcId 17 c) 0x15 3 (sourceField x.ctl) (tokenField x.token)
      else
        let v := nearestEpoch (tokValue x.token).toNat (s.flight f).view
        if ¬ s.passesInward c then s.discard (srcId 17 c) else
        if s.heldOff f v then s
        else ((s.enginesOf f).filter (fun g => clusterOf g == c)).foldl (fun s g => s.unitDistribution g v x) s

/-- WATERLINE_DISTRIBUTION at the device node, from the parent port: the device's view, then its clusters and children (R74). -/
def State.deviceDistributionStep (s : State) : State :=
  match s.devIn with
  | [] => s
  | (x, k) :: l =>
    if tokSlot x.token ≠ 0x3FF3 then s else
    let s := { s with devIn := l }
    let f := tokFlight x.token
    match s.reportCheck x with
    | some (code, lvl) => s.raise (srcId 19 13) code lvl (sourceField x.ctl) (tokenField x.token)
    | none =>
      let v := nearestEpoch (tokValue x.token).toNat (s.flight f).view
      if s.heldOff f v ∨ v < (s.flight f).view ∨ k ≠ 36 + s.obj (0x2800 + f) 0xD ∨ (s.flight f).state = .idle then s
      else (s.advanceView f v).distribute f v

/-- WATERLINE_DISTRIBUTION (R74). -/
def execWaterlineDistribution (n : WNode) (s : State) : Host.Outcome State Fault Refusal :=
  match n with
  | .cluster c => .next (s.clusterDistributionStep c.toNat)
  | .device => .next s.deviceDistributionStep

/-! ### Acceptance, recompute -/

/-- A re-fire of node n at e ordered: queued, queued after ENDA, or merged with one that waits or runs (R67, R88). -/
def State.orderRefire (s : State) (g f : Nat) (n : BitVec 14) (e : Nat) : State :=
  let t := s.tu g
  let x : Waiting := { node := n, epoch := e, refire := true }
  match (s.core g).act with
  | some a =>
    if a.node = n ∧ a.epoch = e then
      if a.refire ∨ t.again.contains x then s else s.setTu g { t with again := t.again ++ [x] }
    else if t.queued n e true then s else s.enqueue g f x
  | none => if t.queued n e true then s else s.enqueue g f x

/-- ACCEPTANCE_TIMEOUT: an activation with a token unaccepted is re-fired (R44, R67). -/
def State.acceptanceTimeoutStep (s : State) (g : Nat) (n : BitVec 14) (e : Nat) : State :=
  match s.flightOf (clusterOf g) with
  | none => s
  | some f =>
    if (s.tu g).obligations.any (fun o => o.node == n && o.epoch == e) ∧ ¬ s.unitStopped g ∧ s.clusterRuns (clusterOf g) then
      s.orderRefire g f n e else s

/-- ACCEPTANCE_TIMEOUT (R44). -/
def execAcceptanceTimeout (g : BitVec 9) (node : BitVec 14) (epoch : BitVec 48) (s : State) : Host.Outcome State Fault Refusal :=
  .next (s.acceptanceTimeoutStep g.toNat node epoch.toNat)

/-- Candidate activation a of node n is kept: dispatched by n, not retired by the engine (R88). -/
def State.candidate (s : State) (g : Nat) (n : BitVec 14) (a : Nat) : Bool :=
  let t := s.tu g
  decide (t.lur ≤ a) && t.fired.contains (n.toNat, a)

/-- RECOMPUTE_REQUEST at engine g (R69, R88). Of checks 6 to 9 of R381 none is made: a request with d ≥ 64 keeps no candidate and is
discarded and counted (DESIGN CHOICE, assumption 88). -/
def State.recomputeStep (s : State) (g : Nat) : State :=
  match s.flightOf (clusterOf g), (s.tu g).recomp with
  | some f, x :: l =>
    if ¬ s.clusterRuns (clusterOf g) then s else
    let s := (s.setTu g { s.tu g with recomp := l }).tick1 g 8
    let (c, s) := s.checkCode g 6 (tokenSyndrome x.token)
    if c.bad then (s.tick1 g 0xC).raiseFull g 0x10 1 (sourceField x.ctl) (tokenField x.token) c.injected c.during
    else match s.checks2to5 g x with
    | some code => s.malformed g code x
    | none =>
      let t := s.tu g
      let d := tagDistance (tokTag x.token).toNat t.view
      let n : BitVec 14 := BitVec.ofNat 14 (tokSlot x.token)
      let discard := fun (s : State) => s.tick1 g 9
      if s.unitStopped g ∨ s.nodeCount g ≤ n.toNat then discard s else
      match s.readDesc g n.toNat with
      | (none, s) => discard s
      | (some desc, s) =>
        if ¬ desc.valid ∨ 64 ≤ d then discard s else
        let e := t.view + d
        let all := [e] ++ (if desc.stateSrc ∧ 0 < e then [e - 1] else [])
        let kept := all.filter (fun a => s.candidate g n a)
        if kept = [] then discard s
        else kept.foldl (fun s a =>
          let t := s.tu g
          let t := if t.unanswered.contains (n.toNat, a) then t else { t with unanswered := t.unanswered ++ [(n.toNat, a)] }
          (s.setTu g t).orderRefire g f n a) s
  | _, _ => s

/-- RECOMPUTE_REQUEST (R88). -/
def execRecomputeRequest (g : BitVec 9) (s : State) : Host.Outcome State Fault Refusal := .next (s.recomputeStep g.toNat)

/-- ACCEPT at engine g: settles the obligation it names; with none open it is discarded and counted, with a bad head reported (R67, R215). -/
def State.acceptStep (s : State) (g : Nat) : State :=
  let e := s.engine g
  match e.rspIn with
  | [] => s
  | p :: l =>
    if hdOp p.head ≠ 0x30 then s else
    let s := s.setEngine g { e with rspIn := l }
    if headSyndrome p.head ≠ 0 then s.raise (srcId 17 (clusterOf g)) 0x23 1 (sourceField p.ctl) (hdTag p.head).toNat
    else
      let o := hdOffset p.head
      let node := BitVec.ofNat 14 o
      let seq := BitVec.ofNat 6 (o / 2 ^ 14)
      let tag := BitVec.ofNat 8 (o / 2 ^ 20)
      if (s.tu g).obligations.any (fun x => x.node == node && x.seq == seq && x.tag == tag) then s.settle g node seq tag else s.discard g

/-- ACCEPT (R42, R67). -/
def execAccept (g : BitVec 9) (s : State) : Host.Outcome State Fault Refusal := .next (s.acceptStep g.toNat)

end Sys2Proof.Machine
end

