-- ==== Sys2Proof/Machine/Emit.lean ====
section
/-! DEFINITION. The token instructions EMIT, EMITL, EMITM and ENDA (R63 to R67, R112, R135 to R137). -/

namespace Sys2Proof.Machine

/-! ### Sending -/

/-- A token of the running activation enters the obligations: a first firing's adds to them; a re-fire's takes over every earlier
one of its node, epoch and sequence, whose credits return (R67). -/
def TokenUnit.oblige (t : TokenUnit) (a : Activation) (seq : BitVec 6) (tag : BitVec 8) : TokenUnit :=
  let mine := fun (o : Obligation) => o.node == a.node && o.epoch == a.epoch && o.seq == seq
  if a.refire then
    let back := (t.obligations.filter mine).foldl (fun n o => n + o.credits) 0
    { t with obligations := t.obligations.filter (fun o => !mine o) ++ [{ node := a.node, epoch := a.epoch, seq := seq, tag := tag, credits := 1 }],
             credits := min 4096 (t.credits + back) }
  else if t.obligations.any (fun o => mine o && o.tag == tag) then
    { t with obligations := updFirst (fun o => mine o && o.tag == tag) (fun o => { o with credits := o.credits + 1 }) t.obligations }
  else { t with obligations := t.obligations ++ [{ node := a.node, epoch := a.epoch, seq := seq, tag := tag, credits := 1 }] }

/-- The outcome of one send: sent, or refused with an event code (R65). -/
inductive Sent where
  | ok
  | refused (code : Nat)
  deriving DecidableEq, Repr

/-- send(j, v, e) of R64 for activation a with fan-out entry x. -/
def State.emitOne (s : State) (g : Nat) (a : Activation) (x : Fan) (v : Word) (e : Nat) : Sent × State :=
  if a.fanout ≤ a.sent then (.refused 0x1E, s) else
  let f := (s.core g).fl.toNat
  let l := s.logical g s.noc.gen
  let tok := mkToken v x.device x.engine x.slot e f (if x.moored then 1 else 0)
  let src : Src := { device := s.devId, engine := l, node := a.node.toNat, seq := a.sent % 64 }
  let urg := s.tokenUrgency f e (s.tu g).view
  let own := s.ownFan g x
  let c := s.core g
  let s := (s.setCore g { c with act := some { a with sent := a.sent + 1 } }).tick1 g 4
  let s := s.setTu g ((s.tu g).oblige a (BitVec.ofNat 6 a.sent) (BitVec.ofNat 8 e))
  if own then
    let t := s.tu g
    (.ok, s.setTu g { t with loopback := t.loopback ++ [{ token := tok, ctl := mkCtl 0 s.noc.gen vcToken urg src }] })
  else (.ok, s.sendToken (clusterOf g) vcToken urg (s.engineEntry (clusterOf g) x.device x.engine) src tok)

/-- Fan-out entry j of the running activation read by a token instruction (R63, R136): none when it reads uncorrectable. -/
def State.readFan (s : State) (g : Nat) (a : Activation) (j : Nat) : Option Fan × State :=
  match s.engineReads g ((a.fanlist.toNat + 2 * j) % 0x20000) 2 with
  | (.inr [x, y], s) => (some (fanOf x y), s)
  | (_, s) => (none, s)

/-- The engine stops with cause 9 (R136). -/
def emitHalt (s : State) (g : Nat) : Eff := .halt (s.stopMarked g 9 (s.readMarks g).1 (s.readMarks g).2)

/-- The index j of a token instruction (R135). -/
def emitIndex (s : State) (g : Nat) (w : Word) : Nat :=
  if modeOf w = 0 then (addrOf w).toNat else (((s.core g).reg (codeOf w)).extractLsb' 0 12).toNat

/-- The running activation, or a neutral one when none runs. -/
def Core.running (c : Core) : Activation :=
  c.act.getD { q := 0, node := 0, epoch := 0, refire := false, sent := 0, fanout := 0, fanlist := 0, stateSrc := false, stateBase := 0, stateLen := 0 }

/-- A refused send reported: code, node, index, epoch (Table 15.2). -/
def State.refuse (s : State) (g code j : Nat) : State :=
  let a := (s.core g).running
  s.fanoutEvent g code a.node.toNat j a.epoch

/-- EMIT (R64, R65). Where several refusals hold for one send, the manual orders them nowhere: the index, then the reserved bit, then the
moored rule, then the sent count decides (DESIGN CHOICE, assumption 90). -/
def bodyEmit (g : Nat) (w : Word) (s : State) : Eff :=
  let a := (s.core g).running
  let j := emitIndex s g w
  if a.fanout ≤ j then .next (s.refuse g 0x1E j) else
  match s.readFan g a j with
  | (none, s) => emitHalt s g
  | (some x, s) =>
    if x.reserved then .next (s.refuse g 0x17 j)
    else if x.moored then .next (s.refuse g 0x1C j)
    else match s.emitOne g a x (s.core g).a a.epoch with
      | (.ok, s) => .next s
      | (.refused code, s) => .next (s.refuse g code j)

/-- Entries j, j+1, … sent up to the last of the run; the first refusal so far (R64, R136). When an entry reads uncorrectable, tokens sent
earlier in the run stand, and an earlier refusal is reported too (DESIGN CHOICE, assumption 90). -/
def emitRun (g : Nat) : Nat → Nat → Option (Nat × Nat) → State → Eff
  | 0, _, _, s => .next s
  | n + 1, j, first, s =>
    let a := (s.core g).running
    let finish := fun (s : State) (r : Option (Nat × Nat)) => match r with | some (code, i) => Eff.next (s.refuse g code i) | none => Eff.next s
    if a.fanout ≤ j then finish s (first.or (some (0x1E, j))) else
    match s.readFan g a j with
    | (none, s) => emitHalt (match first with | some (code, i) => s.refuse g code i | none => s) g
    | (some x, s) =>
      let (r, s) :=
        if x.reserved then (some 0x17, s)
        else if x.moored then (some 0x1C, s)
        else match s.emitOne g a x (s.core g).a a.epoch with
          | (.ok, s) => (none, s)
          | (.refused code, s) => (some code, s)
      let first := first.or (r.map (fun c => (c, j)))
      if x.last then finish s first else emitRun g n (j + 1) first s

/-- EMITL (R64, R65, R136). -/
def bodyEmitl (g : Nat) (w : Word) (s : State) : Eff := emitRun g 4097 (emitIndex s g w) none s

/-- A reference address lies within the activation's state region (R65). -/
def Activation.holdsRef (a : Activation) (adr : Nat) : Bool :=
  decide (a.stateBase.toNat ≤ adr) && decide (adr < a.stateBase.toNat + a.stateLen)

/-- EMITM (R64, R65). -/
def bodyEmitm (g : Nat) (w : Word) (s : State) : Eff :=
  let a := (s.core g).running
  let j := emitIndex s g w
  if a.fanout ≤ j then .next (s.refuse g 0x1E j) else
  match s.readFan g a j with
  | (none, s) => emitHalt s g
  | (some x, s) =>
    if x.reserved then .next (s.refuse g 0x17 j)
    else if ¬ x.moored ∨ ¬ a.stateSrc ∨ ¬ a.holdsRef x.reference then .next (s.refuse g 0x1C j)
    else match s.engineRead g x.reference 31 with
      | (none, s) => emitHalt s g
      | (some r, s) =>
        let v := (s.core g).a
        if v ≠ r then
          match s.emitOne g a x v (a.epoch + 1) with
          | (.ok, s) => .next (s.writeLocal g x.reference 15 v)
          | (.refused code, s) => .next ((s.refuse g code j).writeLocal g x.reference 15 v)
        else if s.ownFan g x then
          let f := (s.core g).fl.toNat
          let (ok, s) := if s.unitStopped g then (false, s) else s.markSlot g f a.node.toNat x.slot (a.epoch + 1)
          match ok, s.slotOwner g x.slot with
          | true, some (n, _) => .next (s.evaluateNode g n)
          | _, _ => .next s
        else .next s

/-! ### The end of an activation -/

/-- A segment is outstanding (R112). -/
def Core.farBusy (c : Core) : Bool := c.seg.toList.any (·.outstanding)

/-- Status codes that are errors at WAITF, FENCE and ENDA: TMO, DOMAIN_OFF, BUS, ACC, ADDR (R118). -/
def farError (code : BitVec 4) : Bool := decide (2 ≤ code.toNat) && decide (code.toNat ≤ 6)

/-- TINFO of a far-error trap at segment k (Table 5.10). -/
def farInfo (k : Nat) (x : Segment) : Word := (x.space ++ BitVec.ofNat 2 k ++ x.code).zeroExtend 36

/-- The first of segments k, k+1, … with an error not yet reported; the segments before it reported (R118). -/
def Core.checkSegments (c : Core) : Nat → Nat → Option (Nat × Segment) × Core
  | _, 0 => (none, c)
  | k, n + 1 =>
    if h : k < 4 then
      let x := c.seg[k]
      let c' := { c with seg := c.seg.set k { x with reported := true } h }
      if ¬ x.reported ∧ farError x.code then (some (k, x), c') else Core.checkSegments c' (k + 1) n
    else (none, c)

/-- The hold area copied back after a re-fire (R67). -/
def State.swapOut (s : State) (g : Nat) (a : Activation) : State :=
  match s.unitReads g (s.journalBase g) a.stateLen with
  | (none, s) => s
  | (some l, s) => s.writeLocals g a.stateBase.toNat l

/-- A re-fire that still waits once the freed entry is given away enters by displacement, if it may (R58). -/
def State.enterWaiting (s : State) (g f : Nat) (x : Waiting) : State :=
  let t := s.tu g
  if t.waiting.contains x then (s.setTu g { t with waiting := t.waiting.erase x }).enqueue g f x else s

/-- R66 and what follows it: unused credits back, the entry freed, the node handled and evaluated at its next epoch, re-fires
ordered meanwhile queued, a pending node taken in (R54, R58, R66, R67, R88). -/
def State.endActivation (s : State) (g f : Nat) (a : Activation) : State :=
  let s := if a.refire then s.swapOut g a else s
  let c := s.core g
  let s := s.setCore g { c with act := none, loops := { c.loops with lst := 0 } }
  let t := s.tu g
  let mine := t.again.filter (fun x => x.node == a.node && x.epoch == a.epoch)
  let s := s.setTu g ({ t with credits := min 4096 (t.credits + (a.fanout - a.sent)),
                               ready := t.ready.filter (fun r => !(r.running && r.q == a.q)),
                               again := t.again.filter (fun x => !(x.node == a.node && x.epoch == a.epoch)) }.answered none)
  let s := if a.refire then s else s.markHandled g a.node.toNat a.epoch
  let mine := mine.filter (fun x => !(s.tu g).queued x.node x.epoch true)
  let s := s.setTu g { s.tu g with waiting := (s.tu g).waiting ++ mine }
  let s := if s.unitStopped g then s else mine.foldl (fun s x => s.enterWaiting g f x) (s.refillQueue g f)
  if a.refire then s else s.evaluateNode g a.node.toNat

/-- ENDA (R112). No instruction of the activation follows it, so a load in whose slot it stands is written before an FP trap (R105). -/
def bodyEnda (g : Nat) (_w : Word) (s : State) : Eff :=
  let c := s.core g
  if c.handler then illegalEff s g
  else if c.farBusy then .stall
  else if c.fpq ≠ [] then .halt (s.setCore g (c.endLoads.takeFpTrap c.pc))
  else
    match c.checkSegments 0 4 with
    | (some (k, x), c) => .trap 4 c.pc (farInfo k x) (s.setCore g c)
    | (none, c) => .done ((s.setCore g c).endActivation g c.fl.toNat c.running) .ended []

/-- EMIT (R64, R135). -/
def execEmit (g : BitVec 9) (s : State) : Host.Outcome State Fault Refusal := .next (issue g.toNat 0x0A0 (bodyEmit g.toNat) s)
/-- EMITL (R64, R135). -/
def execEmitl (g : BitVec 9) (s : State) : Host.Outcome State Fault Refusal := .next (issue g.toNat 0x0A1 (bodyEmitl g.toNat) s)
/-- EMITM (R64, R135). -/
def execEmitm (g : BitVec 9) (s : State) : Host.Outcome State Fault Refusal := .next (issue g.toNat 0x0A2 (bodyEmitm g.toNat) s)
/-- ENDA (R66, R112). -/
def execEnda (g : BitVec 9) (s : State) : Host.Outcome State Fault Refusal := .next (issue g.toNat 0x0A3 (bodyEnda g.toNat) s)

end Sys2Proof.Machine
end

