-- ==== Sys2Proof/Machine/Far.lean ====
section
/-! DEFINITION. The far instructions FLD, FST, FXADD, FSWAP, WAITF, FENCE (R116 to R118, R138, R139) and the completion of a
mailbox segment (R117, R222, R223). -/

namespace Sys2Proof.Machine

/-! ### Segments -/

/-- Fields of format FA (Table 6.1). -/
def faSpace (w : Word) : Nat := (w.extractLsb' 20 4).toNat
def faSegment (w : Word) : Nat := (w.extractLsb' 18 2).toNat
def faUseX (w : Word) : Bool := w.getLsbD 17
def faLen (w : Word) : Nat := (w.extractLsb' 13 4).toNat + 1

/-- Segment k of the mailbox. -/
def Core.segment (c : Core) (k : Nat) : Segment := if h : k < 4 then c.seg[k] else Segment.reset

/-- Segment k replaced. -/
def Core.setSegment (c : Core) (k : Nat) (x : Segment) : Core := if h : k < 4 then { c with seg := c.seg.set k x h } else c

/-- Mailbox words from MB16k on written with a list. -/
def Core.fillMb (c : Core) (k : Nat) (ws : List Word) : Core :=
  { c with mb := ws.zipIdx.foldl (fun m (w, i) => m.setIfInBounds (16 * k + i) w) c.mb }

/-- Segment k completed with a status; an error leaves its words zero (R117, R118). -/
def Core.completeSegment (c : Core) (k status : Nat) (ws : List Word) : Core :=
  let x := c.segment k
  let c := c.setSegment k { x with code := BitVec.ofNat 4 status, outstanding := false }
  if status = 0 then c.fillMb k (ws.take x.len) else if status = 1 then c else c.fillMb k (List.replicate 16 0)

/-- Where a far address leads: the crossbar to the own store, a unit of this device, another device, or a status at once. -/
inductive FarRoute where
  | crossbar
  | here (router entry : Nat)
  | away (entry : Nat)
  | status (code : Nat)
  deriving DecidableEq, Repr

/-- Entry of a route on this device, or ADDR when it is invalid (R224). -/
def hereOr (router entry : Nat) : FarRoute := if entryState entry = 0 then .status 6 else .here router entry

/-- Entry to another device: DOMAIN_OFF when it is absent (R256), ADDR when invalid (R224). -/
def State.awayOr (s : State) (k d : Nat) : FarRoute :=
  let e := s.routeEntry k 2 d
  if s.absent d then .status 3 else if entryState e = 0 then .status 6 else .away e

/-- Router of logical cluster lc, by the map in force. -/
def State.clusterRouter (s : State) (lc : Nat) : Nat := (s.physicalCluster lc s.noc.gen).getD lc

/-- The route of an engine's request to a far address (Table 5.11, R181, R184, R224). -/
def State.farRoute (s : State) (g space off : Nat) : FarRoute :=
  let k := clusterOf g
  match space with
  | 0 => if 2 ^ 19 ≤ off then .status 6 else .crossbar
  | 1 =>
    let d := off / 2 ^ 24 % 1024
    let lc := off / 2 ^ 19 % 32
    if 2 ^ 34 ≤ off then .status 6
    else if d = s.devId then (if lc = s.logicalCluster k then .crossbar else hereOr (s.clusterRouter lc) (s.routeEntry k 1 lc))
    else s.awayOr k d
  | 2 =>
    if 28991029248 ≤ off then .status 6
    else hereOr (32 + stackOf (off / 6)) (s.routeEntry k 3 (2 + stackOf (off / 6)))
  | 3 =>
    let d := off / 2 ^ 20 % 1024
    let l := off / 2 ^ 11 % 512
    if 2 ^ 30 ≤ off then .status 6
    else if d = s.devId then hereOr (s.clusterRouter (l / 16)) (s.routeEntry k 1 (l / 16)) else s.awayOr k d
  | _ => .status 6

/-- A far request of engine g issued on segment k: the segment tracks it, or is completed at once (R116, R118, R138). What the code reads as
while the segment is outstanding the manual leaves open, so that it is a free value (R117, assumption 79). -/
def State.farIssue (s : State) (g k space off op len : Nat) (data : List Word) : State :=
  let c := s.core g
  let tag : BitVec 12 := BitVec.ofNat 12 (4 * c.serial.toNat + k)
  let f := c.fl.toNat
  let expect := if op = 1 then len else if op = 2 then 0 else 1
  let route := s.farRoute g space off
  let dest := match route with | .here r _ => r | _ => 63
  let (n, s) := s.fresh
  let x : Segment := { code := BitVec.ofNat 4 (Config.freeCount n), outstanding := true, reported := false, tag := tag, space := BitVec.ofNat 4 space, len := expect, dest := dest }
  let c := { c.setSegment k x with serial := if c.serial.toNat + 1 < 1023 then c.serial + 1 else 0 }
  let s := s.setCore g c
  let l := s.logical g s.noc.gen
  let src : Src := { device := s.devId, engine := l, node := 0, seq := 0 }
  let head := mkHead off space op len tag 0 f true
  match route with
  | .status n => s.setCore g ((s.core g).completeSegment k n [])
  | .crossbar =>
    let y := s.cluster (clusterOf g)
    let p : Pkt := { ctl := mkCtl 0 s.noc.gen vcReq 0 src, head := head, data := dataFlits 13 data, inj := none }
    s.setCluster (clusterOf g) { y with reqQ := y.reqQ ++ [p] }
  | .here _ e => s.sendPacket (clusterOf g) vcReq 0 e src head data
  | .away e => s.sendPacket (clusterOf g) vcReq 0 e src head data

/-- The offset a far instruction takes (R138). -/
def farOffset (s : State) (g : Nat) (w : Word) : Nat := (if faUseX w then (s.core g).x else (s.core g).y).toNat

/-- A far-space trap (Table 5.10). -/
def farSpaceEff (s : State) (g : Nat) (w : Word) : Eff := .trap 5 (s.core g).pc (BitVec.ofNat 36 (faSpace w)) s

/-- FLD (R138). -/
def bodyFld (g : Nat) (w : Word) (s : State) : Eff :=
  if ((s.core g).segment (faSegment w)).outstanding then .stall
  else if 4 ≤ faSpace w then farSpaceEff s g w
  else .next (s.farIssue g (faSegment w) (faSpace w) (farOffset s g w) 1 (faLen w) [])

/-- FST (R138, R139). -/
def bodyFst (g : Nat) (w : Word) (s : State) : Eff :=
  if ((s.core g).segment (faSegment w)).outstanding then .stall else
  match s.engineReads g ((s.core g).ea (modeOf w) (addrOf w)) (faLen w) with
  | (.inl a, s) => addressEff s g 3 a
  | (.inr l, s) =>
    if 4 ≤ faSpace w then farSpaceEff s g w
    else .next (s.farIssue g (faSegment w) (faSpace w) (farOffset s g w) 2 (faLen w) l)

/-- FXADD and FSWAP: opcode 3 or 4 of Table 11.5 (R138). -/
def bodyFarAtomic (op g : Nat) (w : Word) (s : State) : Eff :=
  if faSpace w = 2 ∨ faSpace w = 3 then illegalEff s g
  else if ((s.core g).segment (faSegment w)).outstanding then .stall
  else if 4 ≤ faSpace w then farSpaceEff s g w
  else .next (s.farIssue g (faSegment w) (faSpace w) (farOffset s g w) op 1 [(s.core g).a])

/-- WAITF and FENCE over segments k, k+1, … (n of them) (R118). -/
def waitEff (g k n : Nat) (s : State) : Eff :=
  let c := s.core g
  let done := (firstFrom n 0 (fun i => (c.segment (k + i)).outstanding)).getD n
  match c.checkSegments k done with
  | (some (i, x), c) => .trap 4 c.pc (farInfo i x) (s.setCore g c)
  | (none, c) => if done < n then .stall else .next (s.setCore g c)

/-- FLD (R138). -/
def execFld (g : BitVec 9) (s : State) : Host.Outcome State Fault Refusal := .next (issue g.toNat 0x0A8 (bodyFld g.toNat) s)
/-- FST (R138, R139). -/
def execFst (g : BitVec 9) (s : State) : Host.Outcome State Fault Refusal := .next (issue g.toNat 0x0A9 (bodyFst g.toNat) s)
/-- FXADD (R138). -/
def execFxadd (g : BitVec 9) (s : State) : Host.Outcome State Fault Refusal := .next (issue g.toNat 0x0AA (bodyFarAtomic 3 g.toNat) s)
/-- FSWAP (R138). -/
def execFswap (g : BitVec 9) (s : State) : Host.Outcome State Fault Refusal := .next (issue g.toNat 0x0AB (bodyFarAtomic 4 g.toNat) s)
/-- WAITF (R118, R138). -/
def execWaitf (g : BitVec 9) (s : State) : Host.Outcome State Fault Refusal :=
  .next (issue g.toNat 0x0AC (fun w s => waitEff g.toNat (addrOf w).toNat 1 s) s)
/-- FENCE (R118, R138). -/
def execFence (g : BitVec 9) (s : State) : Host.Outcome State Fault Refusal := .next (issue g.toNat 0x0AD (fun _ s => waitEff g.toNat 0 4 s) s)

end Sys2Proof.Machine
end

