-- ==== Sys2Proof/Machine/NocOps.lean ====
section
/-! DEFINITION. The on-chip network: topology, buffers, credits, ejection, generations and flips (R209 to R228). -/

namespace Sys2Proof.Machine

/-! ### Topology -/

/-- The peripheral ring, clockwise (R209). -/
def ringOrder : List Nat := [44, 32, 33, 40, 41, 42, 43, 45, 35, 34, 39, 38, 37, 36]

/-- The cluster router a peripheral router attaches to (Table 11.1). -/
def meshAttach (k : Nat) : Option Nat :=
  match k with
  | 32 => some 2 | 33 => some 5 | 34 => some 26 | 35 => some 29 | 36 => some 0 | 37 => some 8 | 38 => some 16 | 39 => some 24
  | 40 => some 7 | 41 => some 15 | 42 => some 23 | 43 => some 31 | 44 => some 0 | 45 => some 31 | _ => none

/-- The peripheral router attached to a port of a cluster router (Table 11.1). -/
def attachedAt (k code : Nat) : Option Nat :=
  match k, code with
  | 2, 1 => some 32 | 5, 1 => some 33 | 0, 1 => some 44 | 26, 3 => some 34 | 29, 3 => some 35 | 31, 3 => some 45
  | 0, 4 => some 36 | 8, 4 => some 37 | 16, 4 => some 38 | 24, 4 => some 39
  | 7, 2 => some 40 | 15, 2 => some 41 | 23, 2 => some 42 | 31, 2 => some 43
  | _, _ => none

/-- Next and previous router on the ring. -/
def ringNext (k : Nat) : Option Nat := (ringOrder.zip (ringOrder.drop 1 ++ [44])).lookup k
def ringPrev (k : Nat) : Option Nat := ((ringOrder.drop 1 ++ [44]).zip ringOrder).lookup k

/-- Router and input port reached from router k by a port code (Table 11.2): none for a port the router lacks. -/
def neighbour (k code : Nat) : Option (Nat × Nat) :=
  if k < 32 then
    match attachedAt k code with
    | some p => some (p, 1)
    | none =>
      let r := k / 8
      let c := k % 8
      match code with
      | 1 => if 0 < r then some (k - 8, 3) else none
      | 2 => if c < 7 then some (k + 1, 4) else none
      | 3 => if r < 3 then some (k + 8, 1) else none
      | 4 => if 0 < c then some (k - 1, 2) else none
      | 5 => some (if c ≤ 3 then k + 4 else k - 4, 5)
      | _ => none
  else
    match code with
    | 1 => (meshAttach k).map (fun a => (a, (firstFrom 4 1 (fun p => attachedAt a p == some k)).getD 1))
    | 2 => (ringNext k).map (fun n => (n, 3))
    | 3 => (ringPrev k).map (fun n => (n, 2))
    | _ => none

/-- The ring hop from k to n crosses the dateline between routers 36 and 44 (R217). -/
def crossesDateline (k n : Nat) : Bool := (k == 36 && n == 44) || (k == 44 && n == 36)

/-- Input-buffer key: router, port, channel, class. -/
def bufKey (k p v : Nat) (u : Bool) : Nat := ((8 * k + p) * 4 + v) * 2 + u.toNat

/-! ### Flits -/

/-- Control field and head of a head flit. -/
def NFlit.ctl (x : NFlit) : BitVec 96 := x.bits.extractLsb' 96 96
def NFlit.head (x : NFlit) : BitVec 96 := x.bits.extractLsb' 0 96
/-- The flit heads a packet (Table 11.3). -/
def NFlit.isHead (x : NFlit) : Bool := x.tag == 2 || x.tag == 3
/-- The flit ends a packet (Table 11.3). -/
def NFlit.isLast (x : NFlit) : Bool := x.tag == 1 || x.tag == 3

/-- A control field changed in fields other than parity, its parity regenerated so that an error in it stays (R41). -/
def reparity (old new : BitVec 96) : BitVec 96 :=
  setField new 88 8 (old.extractLsb' 88 8 ^^^ ctlParity old ^^^ ctlParity new)

/-- A head flit with its control field changed by f, parity regenerated. -/
def NFlit.mapCtl (x : NFlit) (f : BitVec 96 → BitVec 96) : NFlit :=
  { x with bits := reparity x.ctl (f x.ctl) ++ x.head }

/-- An object of router k in the generation of a packet (R226). -/
def State.genObj (s : State) (k sub : Nat) (gen : Bool) : Nat :=
  if gen = s.noc.gen then s.obj (0x2A40 + k) sub
  else tget (objDefault (256 * (0x2A40 + k) + sub)) s.noc.oldRoutes (256 * (0x2A40 + k) + sub)

/-- Destination device of a packet: from its token, its request's offset, or the requester it answers (R250). -/
def State.packetDevice (s : State) (v : Nat) (x : NFlit) : Nat :=
  if v = vcRsp then ctlDevice x.ctl
  else if v = vcReq then
    (match hdSpace x.head with
     | 1 => hdOffset x.head / 2 ^ 24 % 1024
     | 3 => hdOffset x.head / 2 ^ 20 % 1024
     | _ => s.devId)
  else tokDevice x.head

/-- Router whose unit serves a request on this device. -/
def State.requestRouter (s : State) (h : BitVec 96) : Nat :=
  match hdSpace h with
  | 1 => s.clusterRouter (hdOffset h / 2 ^ 19 % 32)
  | 3 => s.clusterRouter (hdOffset h / 2 ^ 15 % 32)
  | 2 => 32 + stackOf (hdOffset h / 6)
  | _ => 45

/-- Number of flits of the packet at the front of a list. -/
def packetLen : List NFlit → Nat
  | [] => 0
  | x :: l => if x.isLast then 1 else 1 + packetLen l

/-! ### Credits at injection -/

/-- Staging partition of a port for an injecting router (R242). -/
def stageKey (p v k : Nat) : Nat := 64 * (4 * p + v) + k
/-- Room of a staging partition (R242). -/
def stageRoom (v : Nat) : Nat := if v = vcReq ∨ v = vcRsp then 14 else 2

/-- The port through which a boot image is being read (R352). -/
def State.bootPort (s : State) : Option Nat := s.fw.peerRead.map (·.1)

/-- Route of n hops of one port code, then ejection (R211). -/
def straightRoute (code : Nat) : Nat → Nat
  | 0 => 0
  | n + 1 => code + 8 * straightRoute code n

/-- Entries between the service router and port p along the shorter way round the ring, for the reading of a boot image, when no
table is in place yet (R209, R352). -/
def bootEntryOut (p : Nat) : Nat := (if p < 4 then straightRoute 2 (6 - p) else straightRoute 3 (8 - p)) + 2 ^ 42 + p * 2 ^ 44
def bootEntryIn (p : Nat) : Nat := (if p < 4 then straightRoute 3 (6 - p) else straightRoute 2 (8 - p)) + 2 ^ 42

/-- The credits a packet of n flits needs at injection by router k: none when it may not go yet (R219, R220, R242); a SYNC needs the one
slot of its pool, whose target its tag names (R222). -/
def State.takeCredits (s : State) (k v : Nat) (x : NFlit) (n : Nat) : Option State :=
  let c := s.noc
  let d := s.packetDevice v x
  let boot : Option Nat := if v = vcReq ∧ k = 45 ∧ hdSpace x.head = 15 then s.bootPort else none
  if boot.isSome ∨ (d ≠ s.devId ∧ ¬ (v = vcEscape ∧ tokClass x.head ≠ 2 ∧ tokClass x.head ≠ 3)) then
    let p := match boot with | some p => p | none => s.routeEntry k 2 (d % 1024) / 2 ^ 44 % 8
    let key := stageKey p v k
    if tget 0 c.stageUsed key + n ≤ stageRoom v then
      some { s with noc := { c with stageUsed := tput 0 key (tget 0 c.stageUsed key + n) c.stageUsed } } else none
  else if v = vcToken then
    let l := tokEngine x.head
    match s.physicalCluster (l / 16) (ctlGen x.ctl) with
    | none => some s
    | some pc =>
      let key := 64 * s.physicalAt pc l (ctlGen x.ctl) + k
      if tget 0 c.tokUsed key < 4 then some { s with noc := { c with tokUsed := tput 0 key (tget 0 c.tokUsed key + 1) c.tokUsed } } else none
  else if v = vcReq then
    if hdOp x.head = 5 then
      let key := 64 * ((hdTag x.head).toNat / 4) + k
      if tget 0 c.syncUsed key = 0 then
        some { s with noc := { c with syncUsed := tput 0 key 1 c.syncUsed, poolSent := tput 0 key ((tget 0 c.poolSent key + 1) % 65536) c.poolSent } }
      else none
    else
    let key := 64 * s.requestRouter x.head + k
    if tget 0 c.poolUsed key + n ≤ 28 then
      some { s with noc := { c with poolUsed := tput 0 key (tget 0 c.poolUsed key + n) c.poolUsed,
                                    poolSent := tput 0 key ((tget 0 c.poolSent key + 1) % 65536) c.poolSent } }
    else none
  else some s

/-- Pool credits of a response's request returned to router k (R219). -/
def State.returnPool (s : State) (target k : Nat) (head : BitVec 96) : State :=
  let c := s.noc
  let op := hdOp head
  if 0x21 ≤ op ∧ op ≤ 0x24 then
    let key := 64 * target + k
    { s with noc := { c with poolUsed := tput 0 key (tget 0 c.poolUsed key - requestFlits op (hdLen head)) c.poolUsed } }
  else s

/-! ### Ejection -/

/-- A request that a target's unit answers at once with a status (R182, R282). -/
def State.refuseRequest (s : State) (k : Nat) (p : Pkt) (status : Nat) : State := s.answer k p status []

/-- An HBM block takes requests: its domain LIVE and not contained (R282, R286). -/
def State.hbmServes (s : State) (n : Nat) : Bool := (s.domain (32 + n)).state == .live && !(s.domain (32 + n)).contained

/-- A request head counted at its target (R222). -/
def State.countRequest (s : State) (target k : Nat) : State :=
  let c := s.noc
  let key := 64 * target + k
  { s with noc := { c with poolRecv := tput 0 key ((tget 0 c.poolRecv key + 1) % 65536) c.poolRecv } }

/-- A whole packet delivered to the unit of router k (Table 11.1). -/
def State.deliver (s : State) (k v : Nat) (h : NFlit) (data : List (BitVec 192)) : State :=
  let p : Pkt := { ctl := h.ctl, head := h.head, data := data, inj := some h.inj }
  if k < 32 then
    let x := s.cluster k
    s.setCluster k { x with niIn := x.niIn ++ [(p, BitVec.ofNat 2 v)] }
  else if k < 36 then
    if v ≠ vcReq then s else
    let s := s.countRequest k h.inj
    if headSyndrome h.head ≠ 0 then (s.discard (srcId 20 (k - 32))).raise (srcId 20 (k - 32)) 0x23 1 (sourceField h.ctl) (hdTag h.head).toNat
    else if s.hbmServes (k - 32) ∨ hdOp h.head = 5 then
      { s with hbmQ := tput [] (k - 32) (tget [] s.hbmQ (k - 32) ++ [p]) s.hbmQ }
    else s.refuseRequest k p 3
  else if k = 44 then
    if v = vcRsp then let s := s.returnPool h.inj k h.head
      { s with host := { s.host with rspIn := s.host.rspIn ++ [p] } } else s
  else if k = 45 then
    if v = vcReq then { s.countRequest k h.inj with svcReq := s.svcReq ++ [p] }
    else if v = vcRsp then { s.returnPool h.inj k h.head with svcRsp := s.svcRsp ++ [p] }
    else
      let x : Flit := { token := h.head, ctl := h.ctl }
      if tokClass x.token = 3 then { s with devIn := s.devIn ++ [(x, h.inj)] }
      else if tokClass x.token = 2 then { s with bogRecomp := s.bogRecomp ++ [x] }
      else { s with bogIn := s.bogIn ++ [x] }
  else s

/-- The unit of router k takes a flit on channel v now: the bog's write buffer stalls while it is full (R221). -/
def State.unitReady (s : State) (k v : Nat) (x : NFlit) : Bool :=
  !(k == 45 && v == vcEscape && tokClass x.head != 2 && tokClass x.head != 3 && decide (4096 ≤ s.bogIn.length))

/-- A flit that a lost partner's port may not send (R256): a token is held by the bog, a request answered DOMAIN_OFF, any other
discarded; its staging room returns. -/
def State.lostFlit (s : State) (p v : Nat) (x : NFlit) : State :=
  let k := 36 + p
  let s := { s with noc := { s.noc with back := s.noc.back ++ [.staging (stageKey p v x.inj)] } }
  if ¬ x.isHead then s
  else if v = vcReq then s.answer k { ctl := x.ctl, head := x.head, data := [], inj := some x.inj } 3 []
  else if v = vcRsp ∨ tokClass x.head = 2 ∨ tokClass x.head = 3 then s.discard (srcId 21 p)
  else s.sendToken k vcEscape (s.escapeUrgency x.head) (s.routeEntry k 3 0) (srcOf x.ctl) x.head

/-- A flit put into the staging of port p, under the class of the port's dateline map (R242, R250). -/
def State.stage (s : State) (p v : Nat) (x : NFlit) : State :=
  let y := s.port p
  let up : Bool := if x.isHead then !((s.obj (0x2C20 + p) 8).testBit (s.packetDevice v x))
    else (match (y.staging.filter (fun z => z.chan.toNat == v)).getLast? with
      | some z => z.upper
      | none => (match y.txHead with | some (_, u) => u | none => true))
  s.setPort p { y with staging := y.staging ++ [{ flit := x, chan := BitVec.ofNat 2 v, upper := up }] }

/-- A flit ejected at router k: framed into its packet and delivered with the last one, or put into a port's staging (R213, R242). -/
def State.ejectFlit (s : State) (k v : Nat) (x : NFlit) : State :=
  if 36 ≤ k ∧ k < 44 then
    let y := s.port (k - 36)
    let s := if x.isHead ∧ v = vcRsp then s.returnPool x.inj k x.head else s
    let idle := decide (y.state = .disabled) && (y.contained || (s.domain (36 + (k - 36) / 4)).state != .live)
    if y.state = .absent ∨ y.state = .shutdown ∨ idle then s.lostFlit (k - 36) v x else s.stage (k - 36) v x
  else
    let key := 4 * k + v
    let part : List NFlit := tget [] s.noc.asm key
    if x.isHead then
      if x.isLast then ({ s with noc := { s.noc with asm := tput [] key [] s.noc.asm } }).deliver k v x []
      else { s with noc := { s.noc with asm := tput [] key [x] s.noc.asm } }
    else
      match part with
      | [] => s
      | h :: d =>
        if x.isLast then
          ({ s with noc := { s.noc with asm := tput [] key [] s.noc.asm } }).deliver k v h ((d ++ [x]).map (fun (y : NFlit) => y.bits))
        else { s with noc := { s.noc with asm := tput [] key (part ++ [x]) s.noc.asm } }

/-- Packets that a peer port's framing drops, by 4k + v: the mark stands in the assembly slot, which peer routers do not use. -/
def State.dropMark (s : State) (k v : Nat) (l : List NFlit) : State :=
  { s with noc := { s.noc with asm := tput [] (4 * k + v) l s.noc.asm } }

/-- A flit spoiled in the queue into the unit of router k: its packet is dropped, at a port its staging room returns (R231). -/
def State.ejectSpoiled (s : State) (k v : Nat) (x : NFlit) : State :=
  let s := if 36 ≤ k ∧ k < 44 then { s with noc := { s.noc with back := s.noc.back ++ [.staging (stageKey (k - 36) v x.inj)] } } else s
  s.dropMark k v (if 36 ≤ k ∧ k < 44 ∧ ¬ x.isLast then [x] else [])

/-- Ejection at router k; a peripheral unit's flits pass its dual-clock queue, and a packet spoiled there is dropped (R231). -/
def State.eject (s : State) (k v : Nat) (x : NFlit) : State :=
  if k < 32 then s.ejectFlit k v x else
  let (bad, s) := s.passWord k 1 v (routerSrc k) 1
  if bad then s.ejectSpoiled k v x
  else if 36 ≤ k ∧ k < 44 ∧ tget [] s.noc.asm (4 * k + v) ≠ [] then
    if x.isHead then (s.dropMark k v []).ejectFlit k v x else s.ejectSpoiled k v x
  else s.ejectFlit k v x

/-! ### Generations -/

/-- State field of a cluster's entries as the power sequencer sets it: live or deflating (Table 11.9). -/
def State.sequencerState (s : State) (lc : Nat) : Nat :=
  match s.physicalCluster lc s.noc.gen with
  | some c => if (s.domain c).state = .live ∨ (s.domain c).state = .join then 1 else 2
  | none => 2

/-- Entry i of a table value with its state field set, unless it is invalid (Table 11.9). -/
def setEntryState (v i st : Nat) : Nat :=
  let e := v / 2 ^ (64 * i) % 2 ^ 64
  if entryState e = 0 then v
  else v - e * 2 ^ (64 * i) + (e - entryState e * 2 ^ 42 + st * 2 ^ 42) * 2 ^ (64 * i)

/-- The state fields of the cluster tables of every injecting unit set from the domains (R225, R227). -/
def State.setEntryStates (s : State) : State :=
  (List.range 46).foldl (fun s k =>
    let v := s.obj (0x2A40 + k) 1
    if v = 0 then s else
    s.setObj (0x2A40 + k) 1 ((List.range 32).foldl (fun v i => setEntryState v i (s.sequencerState i)) v)) s

/-- The route objects in force, for the generation that drains (R224, R226). -/
def State.routeObjects (s : State) : Tab Nat :=
  s.objs.filter (fun x => decide (256 * 0x2A40 ≤ x.1) && decide (x.1 < 256 * 0x2A6E))

/-- Old-generation packets still in the network: heads in routers and interfaces, and packets whose head has left a router that their
last flit has not (0x2A00:03; Table 11.10, step 4). -/
def State.oldPackets (s : State) : Nat :=
  let g := s.noc.gen
  let old := fun (l : List NFlit) => (l.filter (fun x => x.isHead && ctlGen x.ctl != g)).length
  (s.noc.follow.filter (fun x => (x.2 / 256 == 1) != g)).length +
  (s.noc.bufs.map (fun x => old x.2)).sum + (s.noc.cross.map (fun x => old (x.2.entries.map (·.flit)))).sum + (s.noc.inject.map (fun x => old x.2)).sum + (s.noc.relay.map (fun x => old x.2)).sum + (s.noc.asm.map (fun x => old x.2)).sum +
  (s.clusters.map (fun x => (x.2.niIn.filter (fun p => ctlGen p.1.ctl != g)).length)).sum

/-- What the sequencer's flip brings about in the domains: QUIESCE enters DRAIN, JOIN and a cancelled deflate reach LIVE, whose
dredge goes on from its pointers (Tables 14.2, 14.4, R284). -/
def Domain.flip (x : Domain) : Domain :=
  match x.state with
  | .quiesce => if x.cancelled then { x with state := .live, cancelled := false, flipped := false } else { x with state := .drain, flipped := true }
  | .drain => if x.cancelled then { x with state := .live, cancelled := false, flipped := false } else x
  | .join => { x with state := .live, flipped := false, degrades := x.contained }
  | _ => x

/-- A flip (R227): the new generation in force, the drain begun. A sequencer's request stands until the sequencer's own flip (R228). -/
def State.flip (s : State) : State :=
  let old := s.routeObjects
  let n := s.noc
  let s := { s with noc := { n with gen := !n.gen, drain := 1, oldRoutes := old } }
  s.bump 32 0x2A00 4

/-- A completed sequence of domain d counted (Table 14.7). -/
def State.countSequence (s : State) (d : Nat) : State := s.bump 32 (0x2300 + d) 6

/-- The part leaves DEGRADED when no contained domain is left out of service (R20, R285). -/
def State.leaveDegraded (s : State) : State :=
  if s.dev = .degraded ∧ ¬ anyTo 40 (fun d => (s.domain d).degrades) then s.enterDev .live else s

/-- A cluster domain may be deflated (Table 14.1). -/
def State.clusterMayDeflate (s : State) (c : Nat) : Bool :=
  (s.domain c).contained ||
  (match s.flightOf c with
   | none => true
   | some f => let st := (s.flight f).state
     st == .idle || st == .halted || st == .mired)

/-- A cluster domain has become LIVE at the end of its sequence: counted, DEGRADED left, a queued deflate started when it is still
permitted (R284, R285). -/
def State.clusterLive (s : State) (c : Nat) : State :=
  let s := (s.countSequence c).leaveDegraded
  let x := s.domain c
  if x.queued ≠ 1 then s else
  let s := s.setDomain c { x with queued := 0 }
  if s.clusterMayDeflate c then
    let s := s.setDomain c { x with queued := 0, state := .quiesce, resetting := false, cancelled := false }
    { s with noc := { s.noc with flipWanted := true } }
  else s

/-- The power sequencer's flip: domains first, then the state fields, then the generation (R227, R228). -/
def State.sequencerFlip (s : State) : State :=
  let joined := (List.range 32).filter (fun d => (s.domain d).state == .join)
  let s := (List.range 32).foldl (fun s d => s.setDomain d (s.domain d).flip) s
  let old := s.routeObjects
  let s := s.setEntryStates.flip
  let s := { s with noc := { s.noc with oldRoutes := old, flipWanted := false } }
  joined.foldl (fun s d => s.clusterLive d) s

/-- SYNC of R222 sent from router k to target t for a requester. -/
def State.sendSync (s : State) (t k engine node : Nat) : State :=
  let entry := if t < 32 then s.routeEntry k 1 (s.logicalCluster t) else if t < 36 then s.routeEntry k 3 (t - 30) else s.routeEntry k 3 0
  s.sendPacket k vcReq 0 entry { device := s.devId, engine := engine, node := node, seq := 0 } (mkHead 0 0 5 1 (BitVec.ofNat 12 (4 * t)) 0 0 false) []

/-- A SYNC wanted on the pool of router k at target t: now, or when the drain is complete (R222, R228). -/
def State.wantSync (s : State) (t k engine node : Nat) : State :=
  if 46 ≤ t then s
  else if s.noc.drain ≠ 0 then { s with noc := { s.noc with syncs := s.noc.syncs ++ [(64 * t + k, engine, node)] } }
  else s.sendSync t k engine node

end Sys2Proof.Machine
end

