-- ==== Sys2Proof/WellFormed.lean ====
section
/-! DEFINITION. Which commands name units the part has: 46 routers with port codes 001 to 101 (R209, R210), five local banks
(R175), 40 power domains (R277), 30 unit classes (R290), 46 temperature sensors (R287), five blocks in a codeword (R245). -/

namespace Sys2Proof

/-- The router exists (R209). -/
def routerOk (k : BitVec 6) : Bool := decide (k.toNat < 46)

/-- The router input exists: the unit, a port code 1 to 5, the link of a peer router. -/
def inPortOk (k : BitVec 6) (p : InPort) : Bool :=
  match p with
  | .unit => true
  | .port c => decide (1 ≤ c.toNat) && decide (c.toNat ≤ 5)
  | .link => decide (36 ≤ k.toNat) && decide (k.toNat ≤ 43)

/-- The queue exists (R220). -/
def queueOk (q : QueueSrc) : Bool :=
  match q with
  | .loopback => true
  | .partition k => routerOk k

/-- The storage exists (R175). -/
def onChipOk (m : OnChip) : Bool :=
  match m with
  | .localBank _ b => decide (b.toNat < 5)
  | .matching _ => true
  | .storeBank _ _ => true

/-- The domain exists (R277). -/
def domainOk (d : BitVec 6) : Bool := decide (d.toNat < 40)

/-- The command names units the part has. -/
def Instr.wellFormed (i : Instr) : Bool :=
  match i with
  | .tokenArrival _ q => queueOk q
  | .debugProbe _ q => queueOk q
  | .tokenCreditReturn _ k => routerOk k
  | .routerHop k p _ _ => routerOk k && inPortOk k p
  | .urgencyIncrement k p _ _ => routerOk k && inPortOk k p
  | .deflate _ d => domainOk d
  | .inflate _ d => domainOk d
  | .domainReset _ d => domainOk d
  | .drainEnd d => domainOk d
  | .drainTimeout d => domainOk d
  | .powerUp d => domainOk d
  | .restoreComplete d _ => domainOk d
  | .thermalSample t _ c => decide (t.length = 46) && decide (c.length = 32)
  | .thermalTrip n _ => decide (n.toNat < 46)
  | .sourceStatusClear _ c _ _ => decide (c.toNat < 30)
  | .faultEvent c => decide (c.toNat < 30)
  | .dredgeRead m => onChipOk m
  | .correctionWriteBack m => onChipOk m
  | .fecCodeword _ b _ _ => decide (b.length = 5)
  | .porstNRise _ t => t.failed.all domainOk
  | _ => true

end Sys2Proof
end

