-- ==== Sys2Proof/Machine/Noc.lean ====
section
/-! DEFINITION. Router hops, link credits, arrivals at a cluster's network interface, generation flips (R39 to R41, R209 to R211,
R216 to R228, R242, R250, R252, R279, R280, R286). -/

namespace Sys2Proof.Machine

/-! ### Inputs of a router -/

/-- Number of an input: 0 the unit, 1 to 5 a port code, 6 the peer link. -/
def inNumber (p : InPort) : Nat :=
  match p with
  | .unit => 0
  | .port c => c.toNat
  | .link => 6

/-- Flits waiting at input i of router k, channel v, class u. -/
def State.inFlits (s : State) (k i v : Nat) (u : Bool) : List NFlit :=
  if i = 6 then tget [] (s.port (k - 36)).ingress (2 * v + u.toNat)
  else tget [] s.noc.bufs (bufKey k i v u)

/-- The first flit taken from an input: its link credit goes on its way back (R209), a peer port counts it freed (R240). -/
def State.popInput (s : State) (k i v : Nat) (u : Bool) : State :=
  let rest := (s.inFlits k i v u).drop 1
  let n := s.noc
  if i = 6 then
    let y := s.port (k - 36)
    let key := 2 * v + u.toNat
    s.setPort (k - 36) { y with ingress := tput [] key rest y.ingress, freed := tput 0 key ((tget 0 y.freed key + 1) % 65536) y.freed,
                                statusDue := true }
  else
    let key := bufKey k i v u
    { s with noc := { n with bufs := tput [] key rest n.bufs, back := if i = 0 then n.back else n.back ++ [.link key] } }

/-- A word read from the queue out of the unit of router k, checked; the reader of a cluster's stands in Table 15.1 as its interface, that
of a peripheral unit's is the router, whose checkers do not include it (R231, R291). -/
def State.checkOut (s : State) (k : Nat) (e : QEntry) : Bool × State :=
  if k < 32 then s.checkEntry (srcId 17 k) 4 e.wrong.toNat
  else if e.wrong = 0 then (false, s) else s.queueError (routerSrc k) 1 e.wrong.toNat false false

/-- The unit of router k is in the middle of a packet on channel v, whose rest comes through the queue. -/
def State.midPacket (s : State) (k v : Nat) : Bool :=
  match (s.crossing k 0 v).entries.map (·.flit) ++ tget [] s.noc.inject (4 * k + v) with
  | [] => false
  | x :: _ => !x.isHead

/-- A flit put into the unit's input buffer. -/
def State.toUnitBuffer (s : State) (k v : Nat) (x : NFlit) : State :=
  let key := bufKey k 0 v false
  { s with noc := { s.noc with bufs := tput [] key (tget [] s.noc.bufs key ++ [x]) s.noc.bufs } }

/-- Flits taken into the unit's input buffer while it has room for one of its 8 (R216, R232): those the interface itself sends, and words
from the queue out of the unit, a packet at a time (R217); a spoiled word comes with its tag forced to 00 (R231). -/
def State.readOut (s : State) (k v : Nat) : Nat → State
  | 0 => s
  | n + 1 =>
    if 8 ≤ (tget [] s.noc.bufs (bufKey k 0 v false)).length then s else
    let own : Option (NFlit × List NFlit) := match tget [] s.noc.relay (4 * k + v) with
      | [] => none
      | x :: l => if x.isHead && s.midPacket k v then none else some (x, l)
    match own with
    | some (x, l) => State.readOut ({ s with noc := { s.noc with relay := tput [] (4 * k + v) l s.noc.relay } }.toUnitBuffer k v x) k v n
    | none =>
      match (s.crossing k 0 v).read with
      | none => s
      | some (e, q) =>
        let (bad, s) := (s.setCrossing k 0 v q).checkOut k e
        State.readOut (s.toUnitBuffer k v (if bad then { e.flit with tag := 0, spoiled := true } else e.flit)) k v n

/-- The flits that wait at the unit of router k on channel v move on: into the dual-clock queue until it is full, and from it into the
unit's input buffer (R216, R230, R232). -/
def State.fillUnit (s : State) (k v : Nat) : State :=
  let (q, rest) := (s.crossing k 0 v).cross.writeAll (tget [] s.noc.inject (4 * k + v))
  let s := s.setCrossing k 0 v q.cross
  State.readOut { s with noc := { s.noc with inject := tput [] (4 * k + v) rest s.noc.inject } } k v 8

/-! ### Ingress from a peer link -/

/-- What a peer router makes of a head from its link: forwarded under a new control field, or ended with a state. -/
inductive Ingress where
  | go (x : NFlit) (vc : Nat)
  | stop (s : State)

/-- A head's header changed by f with its CRC-12 carried along, so that an error in it stays. -/
def reheader (h : BitVec 96) (f : BitVec 96 → BitVec 96) : BitVec 96 :=
  let h' := f h
  setField h' 84 12 (h.extractLsb' 84 12 ^^^ crc12 84 h ^^^ crc12 84 h')

/-- A route error at router k, its packet discarded and counted (R210). -/
def State.routeError (s : State) (k : Nat) (ctl : BitVec 96) : State := (s.discard (routerSrc k)).raise (routerSrc k) 0x21 2 (sourceField ctl) k

/-- A head under a table entry of router k: its route and generation replaced, its urgency kept (R41, R225). -/
def State.underEntry (s : State) (k v entry : Nat) (x : NFlit) : NFlit × Nat :=
  let vc := if v = vcToken ∧ entryState entry = 2 then vcEscape else v
  ({ x.mapCtl (fun c => setField (setField (setField c 0 42 (entryRoute entry)) 42 1 (BitVec.ofBool s.noc.gen)) 43 2 (BitVec.ofNat 2 vc))
     with inj := k }, vc)

/-- A token for this device or beyond it at peer router k, already popped in `t` (R224, R250, R256). -/
def State.tokenIngress (s t : State) (k v : Nat) (x : NFlit) : Ingress :=
  let d := tokDevice x.head
  let cls := tokClass x.head
  if s.absent d then
    if cls = 2 ∨ cls = 3 then .stop (t.discard (srcId 21 (k - 36)))
    else .go (s.underEntry k vcEscape (s.routeEntry k 3 0) (x.mapCtl (fun c => setField c 43 2 3#2))).1 vcEscape
  else
    let entry :=
      if d ≠ s.devId then s.routeEntry k 2 (d % 1024)
      else if cls = 3 ∨ (cls = 2 ∧ tokSlot x.head = 0x3FFF) then s.routeEntry k 3 0
      else s.routeEntry k 1 (tokEngine x.head / 16)
    if entryState entry = 0 then .stop (t.raise (srcId 26 (tokFlight x.head)) 0x21 3 (sourceField x.ctl) (k + 64))
    else let (y, vc) := s.underEntry k v entry x
      .go y vc

/-- The flight of a bridge port written into a request's header (R252). -/
def nameFlight (h : BitVec 96) (f : Nat) : BitVec 96 :=
  reheader h (fun h => setField (setField h 68 5 (BitVec.ofNat 5 f)) 73 1 1#1)

/-- A request at peer router k (R224, R250, R252, R256): those the part refuses are answered there, one whose
header fails its CRC-12 is discarded (Table 11.6). -/
def State.requestIngress (s t : State) (k : Nat) (x : NFlit) : Ingress :=
  let p := k - 36
  let sp := hdSpace x.head
  let pkt : Pkt := { ctl := x.ctl, head := x.head, data := [], inj := some k }
  let refuse := fun n => Ingress.stop (if headSyndrome x.head ≠ 0 then
      (t.discard (srcId 21 p)).raise (srcId 21 p) 0x23 1 (sourceField x.ctl) (hdTag x.head).toNat else t.answer k pkt n [])
  let bridge := decide (2 ≤ (s.port p).kind)
  let flight := s.obj (0x2C20 + p) 9
  if sp = 0 ∨ sp = 2 then refuse 5
  else if sp = 15 ∧ ctlDevice x.ctl ≠ (s.port p).partner then refuse 5
  else if bridge ∧ (¬ (sp = 1 ∨ sp = 3) ∨ 32 ≤ flight) then refuse 5
  else
    let x := if bridge then { x with bits := x.ctl ++ nameFlight x.head flight } else x
    let d := s.packetDevice vcReq x
    if s.absent d then refuse 3
    else
      let entry :=
        if d ≠ s.devId then s.routeEntry k 2 (d % 1024)
        else if sp = 1 then s.routeEntry k 1 (hdOffset x.head / 2 ^ 19 % 32)
        else if sp = 3 then s.routeEntry k 1 (hdOffset x.head / 2 ^ 15 % 32)
        else s.routeEntry k 3 0
      if entryState entry = 0 then refuse 6 else .go (s.underEntry k vcReq entry x).1 vcReq

/-- A response or ACCEPT at peer router k (R224, R250, R256); one to the reading of a boot image goes to the service router (R352). -/
def State.responseIngress (s t : State) (k : Nat) (x : NFlit) : Ingress :=
  let boot := s.fw.peerBoot ∧ ctlDevice x.ctl = s.devId ∧ ctlUnit x.ctl ∧ ctlEngine x.ctl = 1
  let entry := if boot then bootEntryIn (k - 36) else s.sourceEntry k (srcOf x.ctl)
  if s.absent (ctlDevice x.ctl) ∨ entryState entry = 0 then .stop (t.discard (srcId 21 (k - 36))) else .go (s.underEntry k vcRsp entry x).1 vcRsp

/-- A head from the link of peer router k: `t` is the state without it (R250). -/
def State.ingressHead (s t : State) (k v : Nat) (x : NFlit) : Ingress :=
  if v ≠ vcRsp ∧ ctlDevice x.ctl = s.devId then .stop (t.routeError k x.ctl)
  else if v = vcReq then s.requestIngress t k x
  else if v = vcRsp then s.responseIngress t k x
  else s.tokenIngress t k v x

/-! ### Outputs -/

/-- Buffer that a flit enters on the output of a port code: the next router's input buffer in its class (R217), or for ejection a
key of the unit. -/
def outKey (k i v code : Nat) (u : Bool) : Nat :=
  match neighbour k code with
  | some (n, p) =>
    let ring := decide (32 ≤ k) && (code == 2 || code == 3)
    let was := u && (i == 2 || i == 3)
    bufKey n p v (ring && (was || crossesDateline k n))
  | none => bufKey k 7 v false

/-- Channel of a link: a buffer key without its class (R217). -/
def linkChannel (key : Nat) : Nat := key / 2 * 2

/-- A port code that router k lacks or that is disabled in the packet's generation (R210, R226). -/
def State.badPort (s : State) (k code : Nat) (gen : Bool) : Bool :=
  decide (5 < code) || (code != 0 && (neighbour k code).isNone) || !(s.genObj k 4 gen).testBit code

/-- Room for a flit at an output: a link credit (R216), or a unit that takes it. -/
def State.hasRoom (s : State) (k v code key : Nat) (x : NFlit) : Bool :=
  if (neighbour k code).isSome then decide (tget 0 s.noc.linkUsed key < 8) else s.unitReady k v x

/-- Flits of the packet that a head announces (Table 11.5). -/
def headFlits (v : Nat) (h : BitVec 96) : Nat :=
  if v = vcReq then 1 + requestData (hdOp h) (hdLen h)
  else if v = vcRsp then
    (if hdOp h = 0x21 ∧ hdStatus h ≤ 1 then 1 + (hdLen h + 4) / 5
     else if (hdOp h = 0x23 ∨ hdOp h = 0x24) ∧ hdStatus h = 0 then 2
     else if hdOp h = 0x31 then 1 + (hdLen h + 4) / 5 else 1)
  else 1

/-- What input (i, v, u) of router k asks of its outputs: port code, channel, urgency and generation of its packet, the flit as it goes, its output buffer, the
state with its injection credits taken; none when it holds no flit that may go (R216 to R220, R242). -/
structure Bid where
  code : Nat
  vc : Nat
  urgency : Nat
  gen : Bool
  flit : NFlit
  key : Nat
  after : State

/-- A head behind a packet that was cut short ends it: its hold of an output is given up (R233, R238). -/
def State.endCut (s : State) (k i v : Nat) (u : Bool) : State :=
  let inKey := bufKey k i v u
  let n := s.noc
  match tget 0 n.follow inKey with
  | 0 => s
  | f =>
    let ch := linkChannel (outKey k i v (f % 16 - 1) u)
    { s with noc := { n with follow := tput 0 inKey 0 n.follow,
                             holder := if tget 0 n.holder ch = inKey + 1 then tput 0 ch 0 n.holder else n.holder } }

/-- Bid of a head flit that follows code c on channel v. -/
def State.headBid (s : State) (k i v : Nat) (u : Bool) (x : NFlit) : Option Bid :=
  let code := (ctlRoute x.ctl).toNat % 8
  let key := outKey k i v code u
  if s.badPort k code (ctlGen x.ctl) ∨ tget 0 s.noc.holder (linkChannel key) ≠ 0 ∨ ¬ s.hasRoom k v code key x then none
  else
    let credits := if i = 0 ∨ i = 6 then s.takeCredits k v x (headFlits v x.head) else some s
    credits.map (fun a => { code := code, vc := v, urgency := (ctlUrgency x.ctl).toNat, gen := ctlGen x.ctl, flit := x, key := key, after := a })

/-- Bid of an input. -/
def State.bid (s : State) (k i v : Nat) (u : Bool) : Option Bid :=
  match s.inFlits k i v u with
  | [] => none
  | x :: _ =>
    let inKey := bufKey k i v u
    if x.isHead then
      let s := s.endCut k i v u
      if i = 6 then
        match s.ingressHead s k v x with
        | .go y vc => s.headBid k i vc u y
        | .stop _ => none
      else s.headBid k i v u x
    else
      match tget 0 s.noc.follow inKey with
      | 0 => none
      | n =>
        let code := n % 16 - 1
        let key := outKey k i v code u
        if tget 0 s.noc.holder (linkChannel key) = inKey + 1 ∧ s.hasRoom k v code key x then
          some { code := code, vc := v, urgency := n / 16 % 16, gen := n / 256 == 1, flit := x, key := key, after := s } else none

/-- The inputs of router k. -/
def inputsOf (k : Nat) : List (Nat × Nat × Bool) :=
  let ports := (List.range 5).flatMap (fun p => (List.range 4).flatMap (fun v => [(p + 1, v, false), (p + 1, v, true)]))
  let unit := (List.range 4).map (fun v => (0, v, false))
  let link := if 36 ≤ k ∧ k < 44 then (List.range 4).flatMap (fun v => [(6, v, false), (6, v, true)]) else []
  unit ++ ports ++ link

/-- Place of an input in the turn of its router (R217). -/
def inTurn (i v : Nat) (u : Bool) : Nat := (4 * i + v) * 2 + u.toNat

/-- Places from the input that output `code` of router k served last to another one, round (R217). -/
def State.turnsTo (s : State) (k code n : Nat) : Nat := (n + 63 - tget 0 s.noc.turn (8 * k + code)) % 64

/-- The bid b of input (i, v, u) is the one that its output takes: the highest urgency, and of several the first in turn over inputs and
channels (R217). -/
def State.wins (s : State) (k i v : Nat) (u : Bool) (b : Bid) : Bool :=
  (inputsOf k).all (fun (i', v', u') => match s.bid k i' v' u' with
    | none => true
    | some c => c.code != b.code || decide (c.urgency < b.urgency) ||
        (c.urgency == b.urgency && decide (s.turnsTo k b.code (inTurn i v u) ≤ s.turnsTo k b.code (inTurn i' v' u'))))

/-- The control field as a router forwards it: route shifted (R211). -/
def shiftRoute (c : BitVec 96) : BitVec 96 := setField c 0 42 (ctlRoute c >>> 3)

/-- A bid carried out: the flit leaves its input and enters the next buffer or the unit (R211, R213, R216, R217). -/
def Bid.forward (b : Bid) (k i v : Nat) (u : Bool) : State :=
  let inKey := bufKey k i v u
  let x := b.flit
  let y := if x.isHead then x.mapCtl shiftRoute else x
  let s := b.after.popInput k i v u
  let n := { s.noc with turn := tput 0 (8 * k + b.code) (inTurn i v u) s.noc.turn }
  let n := if x.isLast then { n with follow := tput 0 inKey 0 n.follow, holder := tput 0 (linkChannel b.key) 0 n.holder }
    else { n with follow := tput 0 inKey (b.code + 1 + 16 * b.urgency + 256 * b.gen.toNat) n.follow, holder := tput 0 (linkChannel b.key) (inKey + 1) n.holder }
  if (neighbour k b.code).isSome then
    { s with noc := { n with linkUsed := tput 0 b.key (tget 0 n.linkUsed b.key + 1) n.linkUsed,
                             bufs := tput [] b.key (tget [] n.bufs b.key ++ [y]) n.bufs } }
  else { s with noc := n }.eject k b.vc y

/-! ### ROUTER_HOP -/

/-- A packet discarded for its control parity and counted: a token as 0x10, a transaction as 0x23 (Tables 2.9, 11.6). -/
def State.parityError (s : State) (src v : Nat) (ctl head : BitVec 96) (c : CodeCheck) : State :=
  let s := s.discard src
  if v = vcToken ∨ v = vcEscape then s.raiseFull src 0x10 1 (sourceField ctl) (tokenField head) c.injected c.during
  else s.raiseFull src 0x23 1 (sourceField ctl) (hdTag head).toNat c.injected c.during

/-- The flit at input (i, v, u) of router k, read past the input's queue, moves, waits or is discarded. -/
def State.hopFlit (s : State) (k i v : Nat) (u : Bool) : State :=
  match s.inFlits k i v u with
  | [] => s
  | x :: _ =>
    if x.isHead then
      let s := s.endCut k i v u
      let (c, t) := s.checkCode (routerSrc k) 0 (paritySyndrome x.ctl)
      if c.bad then (t.popInput k i v u).parityError (routerSrc k) v x.ctl x.head c else
      let moved := fun (y : NFlit) (vc : Nat) =>
        if s.badPort k ((ctlRoute y.ctl).toNat % 8) (ctlGen y.ctl) then (s.popInput k i v u).routeError k y.ctl
        else
          match s.headBid k i vc u y with
          | none => s
          | some b => if s.wins k i v u b then b.forward k i v u else s
      if i = 6 then
        match s.ingressHead (s.popInput k i v u) k v x with
        | .go y vc => moved y vc
        | .stop t => t
      else moved x v
    else if tget 0 s.noc.follow (bufKey k i v u) = 0 then s.popInput k i v u
    else
      match s.bid k i v u with
      | none => s
      | some b => if s.wins k i v u b then b.forward k i v u else s

/-- A flit spoiled in an input's queue: it goes, and the rest of its packet with it (R231). -/
def State.dropSpoiled (s : State) (k i v : Nat) (u : Bool) : State := ((s.endCut k i v u).popInput k i v u).discard (routerSrc k)

/-- The front flit of an input came spoiled from the unit's queue (R231). -/
def State.spoiledFront (s : State) (k i v : Nat) (u : Bool) : Bool := ((s.inFlits k i v u).head?.map (·.spoiled)).getD false

/-- The link of peer router k: a flit that leaves passes the port's ingress queue, checked as it is read (R231, Table 15.1: class 21,
checker 2). -/
def State.hopLink (s : State) (k v : Nat) (u : Bool) : State :=
  let t := s.hopFlit k 6 v u
  if (t.inFlits k 6 v u).length = (s.inFlits k 6 v u).length then t
  else
    let (bad, s) := s.passWord k 2 v (srcId 21 (k - 36)) 2
    if bad then s.dropSpoiled k 6 v u else s.hopFlit k 6 v u

/-- ROUTER_HOP at input (i, v, u) of router k; at the unit's input, flits first come in through its dual-clock queue (R211, R216,
R230 to R232). -/
def State.hop (s : State) (k i v : Nat) (u : Bool) : State :=
  if i = 6 then s.hopLink k v u
  else
    let s := if i = 0 then s.fillUnit k v else s
    if s.spoiledFront k i v u then s.dropSpoiled k i v u else s.hopFlit k i v u

/-- ROUTER_HOP (R211); a router whose always-on word reads uncorrectable cannot proceed (Table 10.4, assumption 86). -/
def execRouterHop (k : BitVec 6) (port : InPort) (vc : BitVec 2) (upper : Bool) (s : State) : Host.Outcome State Fault Refusal :=
  .next (if routerOk k && inPortOk k port then
    let (bad, s) := s.readAon (64 + k.toNat) (8 * inNumber port + 2 * vc.toNat + upper.toNat)
    if bad then s else s.hop k.toNat (inNumber port) vc.toNat upper
  else s)

/-- URGENCY_INCREMENT: a head that waits in a router's input buffer gains 1, up to 15 (R218); a peer ingress keeps it (R41). -/
def State.gainUrgency (s : State) (k i v : Nat) (u : Bool) : State :=
  if i = 6 then s else
  match s.inFlits k i v u with
  | [] => s
  | x :: l =>
    if ¬ x.isHead then s else
    let g := min 15 ((ctlUrgency x.ctl).toNat + 1)
    let y := x.mapCtl (fun c => setField c 45 4 (BitVec.ofNat 4 g))
    { s with noc := { s.noc with bufs := tput [] (bufKey k i v u) (y :: l) s.noc.bufs } }

/-- URGENCY_INCREMENT (R218). -/
def execUrgencyIncrement (k : BitVec 6) (port : InPort) (vc : BitVec 2) (upper : Bool) (s : State) : Host.Outcome State Fault Refusal :=
  .next (if routerOk k && inPortOk k port then s.gainUrgency k.toNat (inNumber port) vc.toNat upper else s)

/-- LINK_CREDIT_RETURN: credit i of those on their way back arrives (R209, R216, R242). -/
def execLinkCreditReturn (i : Nat) (s : State) : Host.Outcome State Fault Refusal :=
  let n := s.noc
  match n.back[i]? with
  | none => .next s
  | some (.link key) => .next { s with noc := { n with back := n.back.eraseIdx i, linkUsed := tput 0 key (tget 0 n.linkUsed key - 1) n.linkUsed } }
  | some (.staging key) => .next { s with noc := { n with back := n.back.eraseIdx i, stageUsed := tput 0 key (tget 0 n.stageUsed key - 1) n.stageUsed } }

/-! ### NI_ARRIVAL -/

/-- A token credit of engine g and router k goes on its way back (R220). -/
def State.tokenBack (s : State) (g k : Nat) : State :=
  let key := 64 * g + k
  { s with noc := { s.noc with tokBack := tput 0 key (tget 0 s.noc.tokBack key + 1) s.noc.tokBack } }

/-- A token handed to the bog by the interface of cluster c (R48, R225, R279, R286). -/
def State.divert (s : State) (c : Nat) (p : Pkt) : State :=
  let f := tokFlight p.head
  let g := s.physicalAt c (tokEngine p.head) (ctlGen p.ctl)
  let x := s.domain c
  let d := tagDistance (tokTag p.head).toNat (s.tu g).view
  let counted := (x.state == .quiesce || x.state == .drain) && !x.contained && decide (s.flightOf c = some f) && decide (d < 64)
  let s := if counted then s.setBalance g ((s.tu g).view + d) (s.balance g ((s.tu g).view + d) + 1) else s
  ((s.openInterface c).sendToken c vcEscape (s.escapeUrgency p.head) (s.routeEntry c 3 0) (srcOf p.ctl) p.head).closeInterface c s

/-- A request answered by the interface of cluster c itself (R116, R182). -/
def State.niAnswer (s : State) (c : Nat) (p : Pkt) (status : Nat) : State := ((s.openInterface c).answer c p status []).closeInterface c s

/-- The n words of a packet that pass the queue into cluster c on channel v (R230, R231). -/
def State.inward (s : State) (c v n : Nat) : Bool × State := s.passWords c 1 v (srcId 17 c) 3 n

/-- A packet spoiled in a queue of the interface of cluster c, dropped and counted (R231); a token's credit returns (R220). -/
def State.niSpoiled (s : State) (c : Nat) : State := s.discard (srcId 17 c)

/-- A token on TOKEN at cluster c: into its engine's partition, or diverted (R220, R279, R283, R286). -/
def State.niToken (s : State) (c k : Nat) (p : Pkt) : State :=
  let g := s.physicalAt c (tokEngine p.head) (ctlGen p.ctl)
  if s.passesInward c ∧ ¬ (s.domain c).imageLost then
    let (bad, s) := s.inward c vcToken 1
    let t := s.tu g
    if bad then (s.niSpoiled c).tokenBack g k else s.setTu g { t with parts := tput [] k (tget [] t.parts k ++ [{ token := p.head, ctl := p.ctl }]) t.parts }
  else (s.tokenBack g k).divert c p

/-- A token on ESCAPE at cluster c: a report or distribution to the waterline node, a recompute request to its engine's queue or
discarded when that is full, any other to the bog (R88, R221, R225, R280). -/
def State.niEscape (s : State) (c : Nat) (p : Pkt) : State :=
  let x : Flit := { token := p.head, ctl := p.ctl }
  let y := s.cluster c
  match tokClass p.head with
  | 3 => if tokSlot p.head ≠ 0x3FF3 ∨ s.passesInward c then s.setCluster c { y with wnIn := y.wnIn ++ [x] } else s.discard (srcId 17 c)
  | 2 =>
    let g := s.physicalAt c (tokEngine p.head) (ctlGen p.ctl)
    if ¬ s.passesInward c then s.discard (srcId 17 c) else
    let (bad, s) := s.inward c vcEscape 1
    let t := s.tu g
    if bad then s.niSpoiled c
    else if t.recomp.length < 64 then s.setTu g { t with recomp := t.recomp ++ [x] }
    else (s.tick1 g 8).tick1 g 9
  | _ => s.divert c p

/-- A sluice request with the engine that cluster c's map of the packet's own generation gives it (R93, R226). -/
def State.mapSluice (s : State) (c : Nat) (p : Pkt) : Pkt :=
  if hdSpace p.head = 3 then { p with engine := some (s.physicalAt c (hdOffset p.head / 2 ^ 11) (ctlGen p.ctl)) } else p

/-- A request at cluster c: counted, its header checked, the flight check first, then the domain's state (R116, R182, R222). A run past the
end of its space that fails one of these too gets ACC or DOMAIN_OFF, not ADDR: the manual does not order them (DESIGN CHOICE, assumption
103). -/
def State.niRequest (s : State) (c k : Nat) (p : Pkt) : State :=
  let s := s.countRequest c k
  let (e, s) := s.checkCode (srcId 17 c) 1 (headSyndrome p.head).toNat
  if e.bad then (s.discard (srcId 17 c)).raiseFull (srcId 17 c) 0x23 1 (sourceField p.ctl) (hdTag p.head).toNat e.injected e.during
  else if hdNamed p.head ∧ s.flightOf c ≠ some (hdFlight p.head) then s.niAnswer c p 5
  else if hdOp p.head ≠ 5 ∧ ¬ s.passesInward c then s.niAnswer c p 3
  else
    let (bad, s) := s.inward c vcReq (1 + p.data.length)
    let y := s.cluster c
    if bad then s.niSpoiled c else s.setCluster c { y with reqQ := y.reqQ ++ [s.mapSluice c p] }

/-- A response or ACCEPT at cluster c: its pool's credits return, and it passes inward to its engine, or is discarded (R219, R280). -/
def State.niResponse (s : State) (c : Nat) (p : Pkt) : State :=
  let s := match p.inj with | some k => s.returnPool k c p.head | none => s
  if s.passesInward c ∧ ¬ ctlUnit p.ctl then
    let g := s.physicalAt c (ctlEngine p.ctl) (ctlGen p.ctl)
    let (bad, s) := s.inward c vcRsp (1 + p.data.length)
    let e := s.engine g
    if bad then s.niSpoiled c else s.setEngine g { e with rspIn := e.rspIn ++ [p] }
  else s.discard (srcId 17 c)

/-- Credits of a packet that an interface delivers to its own cluster without the router (R211); none: it waits. -/
def State.loopCredits (s : State) (c v : Nat) (p : Pkt) : Option State :=
  if p.inj = some c then s.takeCredits c v { bits := p.ctl ++ p.head, tag := 3, inj := c } (1 + p.data.length) else some s

/-- The first packet at an interface that may go, the packets without it, and the state with its credits taken: none passes an earlier
one of its channel, and a packet that waits for credit keeps no other channel waiting (R221). -/
def State.nextArrival (s : State) (c : Nat) (waits : List (BitVec 2)) :
    List (Pkt × BitVec 2) → Option ((Pkt × BitVec 2) × List (Pkt × BitVec 2) × State)
  | [] => none
  | (p, v) :: l =>
    let later := fun (w : List (BitVec 2)) => (State.nextArrival s c w l).map (fun (x, r, t) => (x, (p, v) :: r, t))
    if waits.contains v then later waits
    else match s.loopCredits c v.toNat p with
      | some t => some ((p, v), l, t)
      | none => later (v :: waits)

/-- A packet that has come through the queues of the interface of cluster c, its control parity still to be checked. -/
def State.niPacket (s : State) (c : Nat) (p : Pkt) (v : BitVec 2) : State :=
  let k := p.inj.getD c
  let (e, s) := s.checkCode (srcId 17 c) 0 (paritySyndrome p.ctl)
  if e.bad then
    let s := s.parityError (srcId 17 c) v.toNat p.ctl p.head e
    if v = 2 then s.tokenBack (s.physicalAt c (tokEngine p.head) (ctlGen p.ctl)) k else s
  else if v = 2 then s.niToken c k p
  else if v = 3 then s.niEscape c p
  else if v = 0 then s.niRequest c k p
  else s.niResponse c p

/-- NI_ARRIVAL at cluster c (R225); a packet that the interface delivers to its own cluster has passed the queue out of it (R211). -/
def State.niStep (s : State) (c : Nat) : State :=
  match s.nextArrival c [] (s.cluster c).niIn with
  | none => s
  | some ((p, v), rest, s) =>
    let s := s.setCluster c { s.cluster c with niIn := rest }
    let (bad, s) := if p.inj = some c then s.passWords c 0 v.toNat (srcId 17 c) 4 (1 + p.data.length) else (false, s)
    if bad then
      let s := s.niSpoiled c
      if v = 2 then s.tokenBack (s.physicalAt c (tokEngine p.head) (ctlGen p.ctl)) c else s
    else s.niPacket c p v

/-- NI_ARRIVAL (R225); an interface whose always-on word reads uncorrectable cannot proceed (Table 10.4, assumption 86). -/
def execNiArrival (c : BitVec 5) (s : State) : Host.Outcome State Fault Refusal :=
  let (bad, t) := s.readAon (2 + c.toNat) 0
  .next (if bad then t else t.niStep c.toNat)

/-! ### Flips -/

/-- A SYNC that waited for the drain is sent (R222). -/
def State.sendWaiting (s : State) : State :=
  let l := s.noc.syncs
  let s := { s with noc := { s.noc with syncs := [] } }
  l.foldl (fun s (key, engine, node) => s.sendSync (key / 64) (key % 64) engine node) s

/-- FLIP_DRAIN_COMPLETE: no old-generation packet is left; the drain ends, waiting SYNCs go, a held sequencer flip is performed
(R222, R227, R228). -/
def State.drainCompleteStep (s : State) : State :=
  if s.noc.drain = 0 ∨ s.oldPackets ≠ 0 then s else
  let s := ({ s with noc := { s.noc with drain := 0, oldRoutes := [] } }).sendWaiting
  if s.noc.flipWanted then s.sequencerFlip else s

/-- FLIP_DRAIN_COMPLETE (R227). -/
def execFlipDrainComplete (s : State) : Host.Outcome State Fault Refusal := .next s.drainCompleteStep

/-- FLIP_DRAIN_TIMEOUT: 0x2A00:02 := 2 and a level-2 drain fault; the drain goes on (R227). -/
def execFlipDrainTimeout (s : State) : Host.Outcome State Fault Refusal :=
  .next (if s.noc.drain = 1 then ({ s with noc := { s.noc with drain := 2 } }).raise (srcId 25 0) 0x22 2 0 0xFF else s)

/-- SEQUENCER_FLIP: the flip that the sequencer has requested, when no drain is in progress (R227, R228). -/
def execSequencerFlip (s : State) : Host.Outcome State Fault Refusal :=
  .next (if s.noc.flipWanted ∧ s.noc.drain = 0 then s.sequencerFlip else s)

end Sys2Proof.Machine
end

