-- ==== Sys2Proof/Machine/Clock.lean ====
section
/-! DEFINITION. Changing a cluster clock (R13, R262, R263). -/

namespace Sys2Proof.Machine

/-- A setting wanted for cluster c, carried out at or below its ceiling: a change begins, replaces the target of one in progress, or
abandons it, counted; a cluster that is not LIVE takes no change (R262, R263). -/
def State.wantClock (s : State) (c mhz : Nat) : State :=
  let x := s.cluster c
  let want := min mhz x.ceiling
  if (s.domain c).state ≠ .live then s
  else if want = x.clock then
    let s := s.setCluster c { x with phase := .idle, target := 0 }
    if x.phase = .idle then s else s.bump 32 (0x2210 + c) 5
  else if x.phase ≠ .idle ∧ x.target = want then s
  else s.setCluster c { x with phase := .locking, target := want }

/-- CLOCK_REQUEST at cluster c: a setting outside Table 13.6's range changes nothing. -/
def State.clockRequestStep (s : State) (c mhz : Nat) : State :=
  if clockSetting mhz then (s.setObj (0x2210 + c) 2 mhz).wantClock c mhz else s

/-- CLOCK_REQUEST (R262). -/
def execClockRequest (c : BitVec 5) (mhz : BitVec 12) (s : State) : Host.Outcome State Fault Refusal :=
  .next (s.clockRequestStep c.toNat mhz.toNat)

/-- A change that was abandoned is tried again at the next tether sample (R263). -/
def State.retryClock (s : State) (c : Nat) : State :=
  let x := s.cluster c
  if x.phase = .idle ∧ x.target ≠ 0 then s.wantClock c x.target else s

/-- STANDBY_PLL_LOCK: the standby PLL locks and the cluster stops dispatching (Table 13.3, steps 2 and 3); a cluster that is not LIVE
takes no change (R263). -/
def execStandbyPllLock (c : BitVec 5) (s : State) : Host.Outcome State Fault Refusal :=
  let x := s.cluster c.toNat
  .next (if x.phase = .locking ∧ (s.domain c.toNat).state = .live then s.setCluster c.toNat { x with phase := .stopping } else s)

/-- An engine of cluster c is inside an activation. -/
def State.clusterBusy (s : State) (c : Nat) : Bool := anyTo 16 (fun i => (s.core (16 * c + i)).act.isSome)

/-- CLOCK_SWITCH: every engine between activations, the setting in force becomes the target, counted (Table 13.3, steps 4 and 5). -/
def execClockSwitch (c : BitVec 5) (s : State) : Host.Outcome State Fault Refusal :=
  let x := s.cluster c.toNat
  .next (if x.phase = .stopping ∧ (s.domain c.toNat).state = .live ∧ ¬ s.clusterBusy c.toNat then
    (s.setCluster c.toNat { x with phase := .idle, clock := x.target, target := 0 }).bump 32 (0x2210 + c.toNat) 4 else s)

/-- The temperature of the sensor of cluster c at the last sample, 0.1 °C, not below 0. -/
def State.clusterTemp (s : State) (c : Nat) : Nat := (s.temps.getD c 0).toNat

/-- CLOCK_CHANGE_ABANDON: an activation still runs 200 µs after dispatch stopped; dispatch resumes, and the target is kept to be tried again
(R263). The event's temperature is that of the cluster's sensor (Table 15.2, assumption 85). -/
def execClockChangeAbandon (c : BitVec 5) (s : State) : Host.Outcome State Fault Refusal :=
  let x := s.cluster c.toNat
  .next (if x.phase = .stopping ∧ s.clusterBusy c.toNat then
    ((s.setCluster c.toNat { x with phase := .idle }).bump 32 (0x2210 + c.toNat) 5).raise (srcId 16 c.toNat) 0x3D 1 (s.clusterTemp c.toNat) 0
  else s)

end Sys2Proof.Machine
end

