-- ==== Sys2Proof/Machine/FaultOps.lean ====
section
/-! DEFINITION. Operations of the fault collector: levels pending, EMCY, clearing by a reset, the checkers that injection can name
(R290, R293, R295, R297, R301 to R304). -/

namespace Sys2Proof.Machine

/-! ### Pending levels -/

/-- Instances of each unit class (Table 15.1). -/
def classInstances (c : Nat) : Nat :=
  if c ≤ 18 then 32
  else match c with
    | 19 => 14 | 20 => 4 | 21 => 8 | 22 => 9 | 23 => 5 | 24 => 1 | 25 => 8 | 26 => 32 | 27 => 32 | 28 => 7 | 29 => 4 | _ => 0

/-- The source ID is one of Table 15.1. -/
def sourceListed (src : Nat) : Bool := decide (src % 32 < classInstances (src / 32)) && decide (src < 960)

/-- Status field of a source (Table 15.6). -/
def State.status (s : State) (src : Nat) : Nat := s.obj (0x3060 + src / 32) (src % 32 + 1)

/-- Status field of a source set; ALERT_N is held only by levels still pending (R301). -/
def State.setStatus (s : State) (src v : Nat) : State :=
  let s := s.setObj (0x3060 + src / 32) (src % 32 + 1) v
  { s with col := { s.col with alerts := tput 0 src (tget 0 s.col.alerts src &&& v) s.col.alerts } }

/-- Status objects are the keys 256 x 0x3060 to 256 x 0x307E of the dictionary. -/
def statusKey (k : Nat) : Bool := decide (256 * 0x3060 ≤ k) && decide (k < 256 * 0x307E)

/-- Some source has level k pending (level 1: seen), by its bit k − 1 (Table 15.6). -/
def State.levelPending (s : State) (k : Nat) : Bool := s.objs.any (fun x => statusKey x.1 && x.2.testBit (k - 1))

/-- Some level 2 to 4 is pending (R303). -/
def State.anyPending (s : State) : Bool := s.levelPending 2 || s.levelPending 3 || s.levelPending 4

/-- ALERT_N is driven low: a source that took the reaction has its event's level pending, the thermal trip stands (R301, R303), or a
rail found out of tolerance holds the part in RESET (R366). -/
def State.alertLow (s : State) : Bool := s.tripped || (s.dev == .reset && s.startStep == 3) || s.col.alerts.any (fun x => (s.status x.1) &&& x.2 != 0)

/-- LIVE_N is driven low: only while the part is LIVE; it floats high otherwise (R254). -/
def State.liveLow (s : State) : Bool := s.dev == .live

/-! ### EMCY -/

/-- A clearing of bit b of a mask where it is set. -/
def clearBit (v b : Nat) : Nat := if v.testBit b then v - 2 ^ b else v

/-- CANopen node-ID (R316). -/
def State.nodeId (s : State) : Nat := 1 + s.straps.devid.toNat + 16 * s.obj 0x2100 7

/-- COB-ID of EMCY messages, bits [10:0] of 0x1014 (Table 16.2, R315). -/
def State.emcyId (s : State) : Nat := (if s.obj 0x1014 0 = unwritten then 0x80 + s.nodeId else s.obj 0x1014 0) % 2048

/-- EMCY sending is enabled: 0x1014 bit 31 clear (Table 16.2), CAN not stopped (R317). -/
def State.emcyOn (s : State) : Bool := !(s.obj 0x1014 0).testBit 31 && !s.can.stopped

/-- An EMCY message sent, at most 100 in a time-base second, the code kept in 0x1003 (R301, R303). -/
def State.emcyNow (s : State) (code src event : Nat) : State :=
  if ¬ s.emcyOn then s else
  let sec := s.now / 10 ^ 9
  let (k, n) := s.col.emcyRate
  let n := if k = sec then n else 0
  if 100 ≤ n then s.bump 32 0x3000 3
  else
    ({ s with col := { s.col with emcyRate := (sec, n + 1), errors := (code :: s.col.errors).take 16 } }).put
      (.emcy s.emcyId code src event)

/-- An EMCY message, deferred while a firmware switch runs (R354). -/
def State.emcy (s : State) (code src event : Nat) : State :=
  if s.fw.held then { s with fw := { s.fw with deferred := s.fw.deferred ++ [.emcy code src event] } } else s.emcyNow code src event

/-- A trip fault has not cleared: its level-3 bit is pending, or its event is not decided yet (R303). -/
def State.tripStands (s : State) : Bool :=
  anyTo 32 (fun c => (s.status (srcId 16 c)).testBit 2) ||
    (s.col.detected ++ s.col.queues.flatMap (fun q => q.2) ++ s.col.taken).any (fun e => e.code == 0x3B)

/-- After a clearing: one EMCY 0x0000 when the last pending level 2 to 4 has gone; the trip's hold on ALERT_N ends with its last
fault (R303). -/
def State.afterClear (s : State) (before : Bool) : State :=
  let s := if s.tripped ∧ ¬ s.tripStands then { s with tripped := false } else s
  if before ∧ ¬ s.anyPending then s.emcy 0 0 0 else s

/-- Level-3 pending, the promoted bit and the window count of a source cleared by the reset of its containing unit (R295). -/
def State.resetSource (s : State) (src : Nat) : State :=
  let before := s.anyPending
  let s := s.setStatus src (clearBit (clearBit (s.status src) 2) 4)
  let s := { s with col := { s.col with windows := tput (0, 0) src (0, 0) s.col.windows, promotedAt := tput 0 src 0 s.col.promotedAt } }
  s.afterClear before

/-! ### Checkers -/

/-- Check bits of checker chk of a source (Table 15.1, R304); none: the source has no such checker. -/
def checkerWidth (src chk : Nat) : Option Nat :=
  let i := src % 32
  match src / 32, chk with
  | 17, 0 => some 8 | 17, 1 => some 12 | 17, 2 => some 12 | 17, 3 => some 9 | 17, 4 => some 9
  | 18, 0 => some 8
  | 19, 0 => some 8 | 19, 1 => some 9
  | 21, 0 => some 16 | 21, 1 => some 10 | 21, 2 => some 9
  | 22, 0 => some 12
  | 23, 0 => some 8 | 23, 1 => some 8
  | 29, 0 => if i = 0 then some 5 else none
  | 20, k => if k < 96 then some 8 else if k = 96 then some 10 else none
  | 16, k => if k < 16 then some 5 else none
  | c, k => if 16 ≤ c then none else if k < 6 then some 5 else if k = 6 then some 8 else none

end Sys2Proof.Machine
end

