-- ==== Sys2Proof/Machine/Flights.lean ====
section
/-! DEFINITION. Flights: the LOADED scan, commands and completions, halts, restarts, the tether controller, the lull watch, MIRED and
its snapshot (R29 to R31, R47, R53, R60, R70, R71, R75 to R77, R81 to R86, R90, R91, R94, R256, R258, R275, R382). -/

namespace Sys2Proof.Machine

/-! ### The LOADED scan -/

/-- The slot group b to b + k − 1 entered in a slot map for node n; none when a slot is owned already (R29). -/
def claimSlots (m : Tab Nat) (n b : Nat) : Nat → Option (Tab Nat)
  | 0 => some m
  | k + 1 =>
    match claimSlots m n b k with
    | none => none
    | some m => if tget 0 m (b + k) ≠ 0 then none else some (tset (b + k) (16 * n + k + 1) m)

/-- Two ranges of words have a word in common. -/
def rangesMeet (a n b m : Nat) : Bool := decide (0 < n) && decide (0 < m) && decide (a < b + m) && decide (b < a + n)

/-- A valid descriptor's own checks (R29 to R31, R60). -/
def descOk (size : Nat) (d : Desc) : Bool :=
  !d.reserved && decide (0x40 ≤ d.entry.toNat) && decide (d.base + d.arity ≤ size) &&
  (d.fanout == 0 || (d.fanlist % 2 == 0 && decide (0x8000 ≤ d.fanlist) && decide (d.fanlist + 2 * d.fanout ≤ 0x18000))) &&
  (d.stateLen == 0 || (decide (d.stateBase + d.stateLen ≤ 0x20000) && bankOf d.stateBase == bankOf (d.stateBase + d.stateLen - 1)))

/-- No page of n words from an address on is retired (R208). -/
def State.pagesOk (s : State) (g a n : Nat) : Bool :=
  n == 0 || !anyTo ((a + n - 1) / 0x1000 + 1 - a / 0x1000) (fun i => s.retiredPage g (0x1000 * (a / 0x1000 + i)))

/-- What a scan has gathered: slot map, valid nodes, by node the words of the records below it, words of one slab, first failing node. -/
structure Scan where
  map : Tab Nat
  count : Nat
  offsets : Tab Nat
  slab : Nat
  bad : Option Nat

/-- Descriptors 0 to n−1 of engine g scanned (R31). -/
def State.scanNodes (s : State) (g f : Nat) : Nat → Scan × State
  | 0 => ({ map := [], count := 0, offsets := [], slab := 0, bad := none }, s)
  | n + 1 =>
    let (a, s) := State.scanNodes s g f n
    if a.bad.isSome then (a, s) else
    match s.readDesc g n with
    | (none, s) => ({ a with bad := some n }, s)
    | (some d, s) =>
      if ¬ d.valid then (a, s)
      else if ¬ descOk (s.frameSize f) d ∨ ¬ s.pagesOk g d.fanlist (2 * d.fanout) ∨ ¬ s.pagesOk g d.stateBase d.stateLen then
        ({ a with bad := some n }, s)
      else
        match claimSlots a.map n d.base d.arity with
        | none => ({ a with bad := some n }, s)
        | some m => ({ map := m, count := a.count + 1, offsets := tput 0 n a.slab a.offsets, slab := a.slab + 17 + d.stateLen, bad := none }, s)

/-- The layout of descriptors, standing table, hold area and slabs within the frame bank, off retired pages (R30, R60, R208). -/
def State.layoutOk (s : State) (g f slab : Nat) : Bool :=
  let inFrame := fun a n => n == 0 || (decide (0x18000 ≤ a) && decide (a + n ≤ 0x1F800))
  let d := s.descBase g
  let dn := 4 * s.nodeCount g
  let t := s.standBase g
  let tn := s.frameSize f
  let j := s.journalBase g
  let jn := 1024 + s.journalDepth g * slab
  inFrame d dn && inFrame t tn && inFrame j jn && s.pagesOk g d dn && s.pagesOk g t tn && s.pagesOk g j jn && !rangesMeet d dn t tn && !rangesMeet d dn j jn && !rangesMeet t tn j jn

/-- The scan of engine g: its results stand when it passes; when it fails, a level-2 descriptor fault names the first failing node,
0x3FFF for the layout (R31, R60). -/
def State.scanEngine (s : State) (g f : Nat) : Bool × State :=
  let (a, s) := s.scanNodes g f (s.nodeCount g)
  let bad := match a.bad with
    | some n => some n
    | none => if s.layoutOk g f a.slab then none else some 0x3FFF
  match bad with
  | some n => (false, (s.setTu g { s.tu g with scanned := false, slotMap := [], slotWrong := [], offsets := [], slab := 0, count := 0 }).raise g 0x20 2 n 0)
  | none => (true, s.setTu g { s.tu g with scanned := true, slotMap := a.map, slotWrong := [], offsets := a.offsets, slab := a.slab, count := a.count })

/-! ### Restarting -/

/-- The token unit set afresh at epoch r (R48, R75); `full` names the full epoch of a restart. -/
def TokenUnit.restart (t : TokenUnit) (r : Nat) (full : Option Nat) (tether : Nat) (keep : Bool) : TokenUnit :=
  { TokenUnit.reset with
    view := r, lur := r, start := full, tether := tether, frames := tether, slotMap := t.slotMap, slotWrong := t.slotWrong, offsets := t.offsets,
    slab := t.slab, count := t.count, scanned := t.scanned,
    balances := if keep then t.balances else [], store := if keep then t.store else [], recomp := t.recomp, loopback := t.loopback,
    parts := t.parts, trace := t.trace, gap := t.gap, stopped := t.stopped, order := t.order, reported := some r }

/-- The retained reports of a flight's waterline nodes set to r (R75). -/
def State.setReports (s : State) (f r : Nat) : State :=
  let s := (s.enginesOf f).foldl (fun s g =>
    let c := clusterOf g
    let x := s.cluster c
    s.setCluster c { x with wnReports := tput 0 (s.logical g s.noc.gen) r x.wnReports, wnReported := some r }) s
  let x := s.flight f
  let cl := ((List.range 32).filter (fun c => s.inFlight f c)).foldl (fun m c => tput 0 c r m) x.clusterReports
  let ch := ((List.range 8).filter (fun p => (s.obj (0x2800 + f) 0xE).testBit p)).foldl (fun m p => tput 0 p r m) x.childReports
  s.setFlight f { x with clusterReports := cl, childReports := ch, reported := some r, view := r }

/-- Each engine's correction buffer of its matching store emptied with the store. -/
def State.emptyMatching (s : State) (g : Nat) : State := s.setEngine g { s.engine g with matchCorr := none }

/-- The load takes effect on this device: views, reports and lowest unretired epochs at r, balances cleared (R75). -/
def State.loadViews (s : State) (f r : Nat) : State :=
  let s := (s.enginesOf f).foldl (fun s g =>
    (s.setTu g ((s.tu g).restart r none (s.tu g).tether false)).emptyMatching g) s
  (s.setReports f r).epochTriggers f r

/-- Image lost cleared for the clusters of a flight (R283). -/
def State.clearImages (s : State) (f : Nat) : State :=
  (List.range 32).foldl (fun s c => if s.inFlight f c then s.setDomain c { s.domain c with imageLost := false } else s) s

/-- The journals of engine g cleared: hold area and slabs zero (R94). -/
def State.clearJournal (s : State) (g : Nat) : State :=
  let e := s.engine g
  let lo := s.journalBase g
  let hi := lo + 1024 + s.journalDepth g * (s.tu g).slab
  let out := fun a => !(decide (lo ≤ a) && decide (a < hi))
  s.setEngine g { e with mem := e.mem.filter (fun x => out x.1), corr := e.corr.filter (fun x => out x.2.1) }

/-- The bucket of a slot: logical destination engine and epoch mod 64 (R78). -/
def BogSlot.bucket (b : BogSlot) : Nat := 64 * b.engine + b.lap % 64

/-- The pointers of every bucket once slots have been freed: chunks at the head of a chain that hold no slot of it leave the chain (R78). -/
def State.trimChains (s : State) : State :=
  { s with bogChains := s.bogChains.filterMap (fun (k, c) =>
      let rest := c.chunks.dropWhile (fun i => !s.bog.any (fun b => !b.held && b.bucket == k && b.idx / 64 == i))
      if rest = [] then none else some (k, { c with chunks := rest })) }

/-- The bog partition of a flight emptied (R94). -/
def State.emptyBog (s : State) (f : Nat) : State := { s with bog := s.bog.filter (fun b => b.flight != f) }.trimChains

/-- An engine that joined the flight after its load, a spare of a migration, takes the scan that the load gave the others (R31, R95;
assumption 91). -/
def State.scanSpare (s : State) (g f : Nat) : State :=
  if (s.tu g).scanned then s else (s.scanEngine g f).2

/-- The flight restarted at r on this device: T := Tmax, F := T, every view at r, state RUNNING, a draw-up (R47, R53, R75, R94). -/
def State.restart (s : State) (f r : Nat) (full : Bool) : State :=
  let tmax := s.obj (0x2800 + f) 3
  let s := if full then (s.emptyBog f).clearImages f else s
  let s := (s.enginesOf f).foldl (fun s g =>
    let s := s.scanSpare g f
    let s := if full then (s.clearJournal g).emptyMatching g else s
    s.setTu g ((s.tu g).restart r (some r) tmax (!full))) s
  let s := s.setReports f r
  let x := s.flight f
  let s := (s.setFlight f { x with
    tether := tmax, frames := tmax, payPending := none, becalmed := false, reason := 0, holdoff := some r, startEpoch := r,
    hreq := none, agreed := false, haltWait := none, tc := Tether.reset, boost := false, absence := false, snapshot := false }).enterFlight f .running
  let s := (s.bogTrigger f).epochTriggers f r
  (s.enginesOf f).foldl (fun s g => s.sweep g) s

/-- Plain resume: the ceiling lifted, RUNNING at once, a draw-up; T and F as they stood (R47, R91). -/
def State.resume (s : State) (f : Nat) : State :=
  let s := (s.enginesOf f).foldl (fun s g => s.setTu g { s.tu g with ceiling := none }) s
  let x := s.flight f
  let s := (s.setFlight f { x with becalmed := false, boost := false, reason := 0, hreq := none, agreed := false, haltWait := none, snapshot := false }).enterFlight f .running
  (s.enginesOf f).foldl (fun s g => s.sweep g) (s.bogTrigger f)

/-- Unload: the partition emptied, IDLE; state lost and the flight's level-3 faults end (R71, R82, R283, R295). -/
def State.unload (s : State) (f : Nat) : State :=
  let s := ((s.emptyBog f).clearImages f).resetSource (srcId 26 f)
  let s := (s.enginesOf f).foldl (fun s g => s.setTu g { s.tu g with
    scanned := false, start := none, ceiling := none, ready := [], waiting := [], obligations := [], credits := 4096, again := [],
    fired := [], unanswered := [], reported := none }) s
  let x := s.flight f
  (s.setFlight f { x with
    becalmed := false, boost := false, reason := 0, lost := false, hreq := none, agreed := false, haltWait := none, reported := none, absence := false, snapshot := false }).enterFlight f .idle

/-! ### MIRED -/

/-- Epoch that a recompute request names, against a view (R33). -/
def requestEpoch (x : Flit) (view : Nat) : Nat :=
  let d := tagDistance (tokTag x.token).toNat view
  if d < 192 then view + d else view + d - 256

/-- A matching entry with each of its groups corrected (R195). -/
def fixedEntry (ix : Nat) (x : StoredEntry) : StoredEntry :=
  (List.range 5).foldl (fun c n => setField c (14 * n) 14 (checkGroup ix n (groupOf x n)).2) x

/-- The listed entries of the frame of w at engine g read for a snapshot: checked, corrected, counted; an uncorrectable one stops the
engine (R86, R195, R385). -/
def State.readFrame (s : State) (g f : Nat) : State :=
  let size := s.frameSize f
  let lo := s.entryIx g f (s.tu g).view 0
  let listed := ((s.tu g).store.map (·.1)).filter (fun k => decide (lo ≤ k) && decide (k < lo + size))
  listed.foldl (fun s k => (s.readEntry g k).2) s

/-- Word i of the part of physical engine g in a snapshot (Table 4.8). -/
def State.snapshotEngine (s : State) (g f i : Nat) : Nat :=
  let t := s.tu g
  let pick := fun (l : List Nat) k => l.getD k 0
  let span := s.frameSize f
  if i = 0 then t.lur % 2 ^ 36
  else if i = 1 then t.lur / 2 ^ 36
  else if i = 2 then t.credits
  else if i = 3 then t.ready.length
  else if i = 4 then (t.waiting.map (·.node)).eraseDups.length
  else if i = 5 then t.recomp.length
  else if i < 8 then 0
  else if i < 40 then (if i - 8 < t.tether then t.handledCount (t.view + (i - 8)) else 0)
  else if i < 104 then tget 0 t.balances (i - 40)
  else if i < 232 then
    (match t.ready.find? (fun r => r.q.toNat == (i - 104) / 2) with
     | none => 0
     | some r => if i % 2 = 0 then r.node.toNat + (if r.refire then 2 ^ 14 else 0) else r.epoch % 2 ^ 36)
  else if i < 360 then
    (match t.recomp[(i - 232) / 2]? with
     | none => 0
     | some x => if i % 2 = 0 then tokSlot x.token else requestEpoch x t.view % 2 ^ 36)
  else if i < 816 then
    (bitsOf 36 (fun b => t.waiting.any (fun w => w.node.toNat == 36 * (i - 360) + b))).toNat
  else if i < 1727 then
    (bitsOf 36 (fun b =>
      let k := 36 * (i - 816) + b
      let slot := k / 2
      let ix := s.entryIx g f t.view slot
      let (_, present, mark) := entryData (fixedEntry ix ((s.engine g).entry ix))
      decide (slot < span) && (if k % 2 = 0 then present else mark))).toNat
  else pick [] 0

/-- Slots of flight f in use, held flits counted as two (R81, R257). -/
def State.bogFill (s : State) (f : Nat) : Nat := ((s.bog.filter (fun b => b.flight == f)).map (fun b => if b.held then 2 else 1)).sum

/-- Word i of the snapshot of flight f (R86, Table 4.8). -/
def State.snapshotWord (s : State) (f i : Nat) : Nat :=
  let x := s.flight f
  if i = 0 then x.reason % 256
  else if i = 1 then s.now % 2 ^ 36
  else if i = 2 then s.now / 2 ^ 36
  else if i = 3 then x.view % 2 ^ 36
  else if i = 4 then x.view / 2 ^ 36
  else if i = 5 then x.tether
  else if i = 6 then s.devId
  else if i = 7 then (s.enginesOf f).length
  else if i = 8 then s.bogFill f
  else if i < 1024 then 0
  else if i < 33792 then
    (s.bog.filter (fun b => b.flight == f && !b.held && b.engine == (i - 1024) / 64 && b.lap % 64 == (i - 1024) % 64)).length
  else
    match s.physical ((i - 33792) / 2048) with
    | none => 0
    | some g => if (s.enginesOf f).contains g then s.snapshotEngine g f ((i - 33792) % 2048) else 0

/-- The snapshot of flight f written into its region of kind 5 (R86). -/
def State.writeSnapshot (s : State) (f : Nat) : State :=
  match s.regionOf (fun r => decide (r.kind = 5) && decide (r.flight = f)) with
  | none => s
  | some r =>
    let s := (s.enginesOf f).foldl (fun s g => s.readFrame g f) s
    let base := (s.region r).base / 6
    let word := fun l i => BitVec.ofNat 36 (s.snapshotWord f (6 * l + i))
    let data := fun l => (word l 5 ++ word l 4 ++ word l 3 ++ word l 2 ++ word l 1 ++ word l 0 : BitVec 216)
    let out := (List.range 180395).foldl (fun t l =>
      (t.writeLine (base + l) (if l = 180394 then 0xF else 0x3F) (data l) (srcId 25 0) 2).2) s
    out.setFlight f { out.flight f with snapshot := true }

/-- The flight becomes MIRED on this device with a reason (R85, R86). -/
def State.enterMired (s : State) (f reason : Nat) : State :=
  let x := s.flight f
  if x.state = .running ∨ x.state = .halting then
    let s := (s.setFlight f { x with reason := reason, becalmed := false, boost := false }).enterFlight f .mired
    (s.writeSnapshot f).raise (srcId 26 f) 0x31 2 x.view reason
  else s

/-! ### Messages along the tree -/

/-- Parent port of flight f. -/
def State.parentPort (s : State) (f : Nat) : Nat := s.obj (0x2800 + f) 0xD

/-- Child ports of flight f that take commands: no bridge or speed adapter behind them (R382). -/
def State.childPorts (s : State) (f : Nat) : BitVec 8 :=
  bitsOf 8 (fun p => (s.obj (0x2800 + f) 0xE).testBit p && decide ((s.port p).kind < 2))

/-- A message sent on the ports of a mask. -/
def State.sendDown (s : State) (ports : BitVec 8) (m : Service) : State :=
  (List.range 8).foldl (fun s p => if ports.getLsbD p then s.put (.service p m) else s) s

/-- A message sent on the parent port. -/
def State.sendUp (s : State) (f : Nat) (m : Service) : State :=
  if s.parentPort f < 8 then s.put (.service (s.parentPort f) m) else s

/-- The root's stop of a MIRED flight sent to every device below; deferred while a firmware switch runs (R85, R354). -/
def State.sendStop (s : State) (f reason : Nat) : State :=
  if s.fw.held then { s with fw := { s.fw with deferred := s.fw.deferred ++ [.stop f reason] } }
  else s.sendDown (s.childPorts f) (.stop f reason)

/-- The flight MIRED here is made known: the root stops every device, another device reports to the root (R85). -/
def State.declareMired (s : State) (f reason : Nat) : State :=
  let st := (s.flight f).state
  if st = .running ∨ st = .halting then
    let s := s.enterMired f reason
    if s.isRoot f then s.sendStop f reason else s.sendUp f (.mired f reason)
  else s

/-! ### Halting -/

/-- Dispatch ceilings of the flight's engines set (R90). -/
def State.setCeilings (s : State) (f c : Nat) : State := (s.enginesOf f).foldl (fun s g => s.setTu g { s.tu g with ceiling := some c }) s

/-- The agreed halt epoch h takes effect on this device: :09, ceilings, HALTED once the view stands above h (R90). -/
def State.agreeHalt (s : State) (f h : Nat) : State :=
  let s := (s.setFlight f { s.flight f with haltEpoch := h, agreed := true }).setCeilings f h
  let s := s.sendDown (s.childPorts f) (.haltEpoch f h)
  let s := if (s.flight f).state = .halting ∧ h < (s.flight f).view then s.enterFlight f .halted else s
  (s.enginesOf f).foldl (fun s g => s.sweep g) s

/-- Every reply is in: the root fixes h, another device replies to its parent (R90). -/
def State.haltReplies (s : State) (f : Nat) : State :=
  match (s.flight f).haltWait with
  | some (ports, m) =>
    if ports ≠ 0 then s else
    let s := s.setFlight f { s.flight f with haltWait := none }
    if s.isRoot f then s.agreeHalt f m else s.sendUp f (.haltReply f m)
  | none => s

/-- Ports whose partner is lost (R256). -/
def State.lostPorts (s : State) : BitVec 8 := bitsOf 8 (fun p => (s.port p).state == .absent || (s.port p).state == .shutdown)

/-- The halt at h_req takes effect on this device: HALTING, ceilings, the highest epoch begun gathered from every device it reaches
(R90, R256). -/
def State.halt (s : State) (f hreq : Nat) : State :=
  let s := (s.enterFlight f .halting).setCeilings f hreq
  let top := (s.enginesOf f).foldl (fun m g => max m (s.tu g).highest) hreq
  let x := s.flight f
  (s.setFlight f { x with hreq := some hreq, agreed := false, haltWait := some (s.childPorts f &&& ~~~s.lostPorts, top) }).haltReplies f

/-- The root halts the flight at its view, when it is RUNNING (R90, R256, R301). -/
def State.rootHalt (s : State) (f : Nat) : State :=
  let x := s.flight f
  if x.state = .running then
    let s := s.sendDown (s.childPorts f) (.command f s.devId 3 x.view)
    s.halt f x.view
  else s

/-- A halt at the waterline requested at the root of a flight that is RUNNING (R301). -/
def State.requestHalt (s : State) (f : Nat) : State :=
  if (s.flight f).state ≠ .running then s
  else if s.isRoot f then s.rootHalt f else s.sendUp f (.haltRequest f)

/-! ### Commands -/

/-- Quotas of all flights in slots (R81). -/
def State.quotaSum (s : State) : Nat := ((List.range 32).map (fun f => s.obj (0x3410 + f) 1)).sum

/-- Slots of the bog region (R186). -/
def State.bogRegionSlots (s : State) : Nat :=
  match s.regionOf (fun r => decide (r.kind = 4)) with
  | some r => (s.region r).length / 3
  | none => 0

/-- The chunk of a slot lies in no retired row (R208): 64 slots are 32 lines (R78, R186). -/
def State.chunkUsable (s : State) (base idx : Nat) : Bool :=
  !(anyTo 32 (fun i => s.retiredRow (base / 6 + 32 * (idx / 64) + i)))

/-- Base word of the bog region. -/
def State.bogBase (s : State) : Option Nat := (s.regionOf (fun r => decide (r.kind = 4))).map (fun r => (s.region r).base)

/-- Usable slots of the bog region: those whose chunk lies in no retired row (R81, R208). -/
def State.bogUsable (s : State) : Nat :=
  let n := s.bogRegionSlots
  match s.bogBase with
  | none => 0
  | some base =>
    if s.outOfService.any (fun e => (e.extractLsb' 0 4).toNat == 3) then
      n - ((List.range ((n + 63) / 64)).map (fun c => if s.chunkUsable base (64 * c) then 0 else min 64 (n - 64 * c))).sum
    else n

/-- The flight's quota and the sum of all quotas meet R81. -/
def State.quotaOk (s : State) (f : Nat) : Bool :=
  decide (s.obj (0x3410 + f) 6 + s.obj (0x3410 + f) 3 ≤ s.obj (0x3410 + f) 1) && decide (s.quotaSum ≤ s.bogUsable)

/-- Some cluster of the flight has lost its image (R283). -/
def State.imageLost (s : State) (f : Nat) : Bool := anyTo 32 (fun c => s.inFlight f c && (s.domain c).imageLost)

/-- Some HBM block is contained (R350). -/
def State.hbmContained (s : State) : Bool := anyTo 4 (fun n => (s.domain (32 + n)).contained)

/-- The part is LIVE or DEGRADED, so that a flight may enter RUNNING (Table 1.4). -/
def State.mayRun (s : State) : Bool := s.dev == .live || s.dev == .degraded

/-- Why a command is refused by the state this device holds: 0 when it is permitted (R71, R81, R82, R94, R186, R257, R258, R283,
R350, Table 4.2); `staged` says that the start epoch comes with a resume-full. -/
def State.commandRefusal (s : State) (f cmd : Nat) (staged : Bool) : Nat :=
  let x := s.flight f
  let bad := 0x08000022
  match cmd with
  | 1 =>
    if x.state ≠ .idle ∨ s.imageLost f ∨ s.hbmContained then bad
    else if ¬ s.quotaOk f ∨ (s.regionOf (fun r => decide (r.kind = 5) && decide (r.flight = f))).isNone then 0x08000020 else 0
  | 2 => if x.state ≠ .loaded ∨ s.imageLost f ∨ ¬ s.mayRun then bad else 0
  | 3 => if x.state ≠ .running then bad else 0
  | 4 =>
    if ¬ (x.state = .halted ∨ x.state = .mired) ∨ x.lost ∨ s.imageLost f ∨ ¬ s.mayRun ∨ x.absence ∨
        s.bog.any (fun b => b.flight == f && b.held) then bad else 0
  | 5 =>
    if ¬ (x.state = .halted ∨ x.state = .mired) ∨ x.lost ∨ ¬ s.mayRun ∨ (x.state = .mired ∧ ¬ staged) ∨
        (s.enginesOf f).any (fun g => (s.core g).act.isSome) then bad else 0
  | 6 => if ¬ (x.state = .loaded ∨ x.state = .halted ∨ x.state = .mired) then bad else 0
  | _ => bad

/-- A load that failed is undone: LOADED goes back to IDLE, a scan under way loads nothing, the root tells its children (R382). -/
def State.undoLoad (s : State) (f : Nat) : State :=
  let s := s.setFlight f { s.flight f with cmd := none }
  let s := s.sendDown (s.childPorts f) (.command f s.devId 6 0)
  if (s.flight f).state = .loaded then s.unload f else s

/-- The command in progress is complete on this device and below it: the root ends it, another device reports up (R382). -/
def State.commandDone (s : State) (f : Nat) : State :=
  match (s.flight f).cmd with
  | none => s
  | some c =>
    if c.wait ≠ 0 ∨ c.scans ≠ [] ∨ c.failed then s else
    let s := s.setFlight f { s.flight f with cmd := none }
    if s.isRoot f then (if c.cmd = 1 then s.enterFlight f .loaded else s)
    else if c.cmd = 3 then s else s.sendUp f (.completion f false)

/-- A command taken up by this device: forwarded to its children, then applied (R382, Table 4.2). -/
def State.applyCommand (s : State) (f root cmd arg : Nat) : State :=
  let ports := s.childPorts f
  let s := s.sendDown ports (.command f root cmd arg)
  let scans := if cmd = 1 then s.enginesOf f else []
  let s := s.setFlight f { s.flight f with cmd := some { cmd := cmd, arg := arg, wait := ports, scans := scans, failed := false } }
  let s := match cmd with
    | 1 => if scans = [] then (let s := s.loadViews f arg; if s.isRoot f then s else s.enterFlight f .loaded) else s
    | 2 => s.restart f arg false
    | 3 => s.halt f arg
    | 4 => s.resume f
    | 5 => s.restart f arg true
    | 6 => if (s.flight f).state = FState.idle then s else s.unload f
    | _ => s
  s.commandDone f

/-- A command committed at the root and applied (R382): a halt at the waterline takes the root's view. -/
def State.rootCommand (s : State) (f cmd arg : Nat) : State :=
  let arg := if cmd = 3 ∧ arg = 2 ^ 64 - 1 then (s.flight f).view else arg
  s.applyCommand f s.devId cmd arg

/-- DESCRIPTOR_SCAN at engine g: its part of the load in progress (R31). -/
def State.scanStep (s : State) (g : Nat) : State :=
  match s.flightOf (clusterOf g) with
  | none => s
  | some f =>
    match (s.flight f).cmd with
    | none => s
    | some c =>
      if c.cmd ≠ 1 ∨ ¬ c.scans.contains g ∨ c.failed then s else
      let (ok, s) := s.scanEngine g f
      if ok then
        let rest := c.scans.erase g
        let s := s.setFlight f { s.flight f with cmd := some { c with scans := rest } }
        if rest = [] then
          let s := s.loadViews f c.arg
          let s := if s.isRoot f then s else s.enterFlight f .loaded
          s.commandDone f
        else s
      else if s.isRoot f then s.undoLoad f
      else (s.setFlight f { s.flight f with cmd := some { c with failed := true } }).sendUp f (.completion f true)

/-- DESCRIPTOR_SCAN (R31, R60). -/
def execDescriptorScan (g : BitVec 9) (s : State) : Host.Outcome State Fault Refusal := .next (s.scanStep g.toNat)

/-- FLIGHT_COMMAND from port p (R382). An unload that undoes a load passes through a device that holds the flight IDLE. -/
def State.commandStep (s : State) (p f root cmd arg : Nat) : State :=
  let edge := p = s.parentPort f ∧ root = s.obj (0x2800 + f) 0xC ∧ s.obj (0x2800 + f) 2 ≠ 0
  let passes := cmd = 6 ∧ (s.flight f).state = .idle
  if edge ∧ (s.commandRefusal f cmd true = 0 ∨ passes) then s.applyCommand f root cmd arg
  else s.put (.service p (.completion f true))

/-- FLIGHT_COMMAND (R382). -/
def execFlightCommand (p : BitVec 3) (f : BitVec 5) (root : BitVec 10) (cmd : BitVec 8) (arg : BitVec 64) (s : State) :
    Host.Outcome State Fault Refusal := .next (s.commandStep p.toNat f.toNat root.toNat cmd.toNat arg.toNat)

/-- The flight-command fault of the root, naming a child port (R382). -/
def State.commandFault (s : State) (f p cmd : Nat) (refused : Bool) : State :=
  let d := if (s.port p).partner < 1024 then (s.port p).partner else 0xFFFF
  s.raise (srcId 26 f) 0x34 2 d (cmd + 2 ^ 8 * p + (if refused then 2 ^ 11 else 0))

/-- The command fails at the root: the fault, and a load is undone (R382). -/
def State.commandFails (s : State) (f p cmd : Nat) (refused : Bool) : State :=
  let s := s.commandFault f p cmd refused
  if cmd = 1 then s.undoLoad f else s.setFlight f { s.flight f with cmd := none }

/-- FLIGHT_COMPLETION from child port p (R382). -/
def State.completionStep (s : State) (p f : Nat) (refused : Bool) : State :=
  match (s.flight f).cmd with
  | none => s
  | some c =>
    if ¬ c.wait.getLsbD p then s
    else if refused then
      (if s.isRoot f then s.commandFails f p c.cmd true
       else (s.setFlight f { s.flight f with cmd := some { c with failed := true, wait := 0 } }).sendUp f (.completion f true))
    else (s.setFlight f { s.flight f with cmd := some { c with wait := c.wait &&& ~~~(1#8 <<< p) } }).commandDone f

/-- FLIGHT_COMPLETION (R382). -/
def execFlightCompletion (p : BitVec 3) (f : BitVec 5) (refused : Bool) (s : State) : Host.Outcome State Fault Refusal :=
  .next (s.completionStep p.toNat f.toNat refused)

/-- FLIGHT_COMMAND_TIMEOUT: the root lacks a completion through some child port (R382). Where several lack it, one fault is raised and
names the lowest (DESIGN CHOICE, assumption 92). -/
def execFlightCommandTimeout (f : BitVec 5) (s : State) : Host.Outcome State Fault Refusal :=
  match (s.flight f.toNat).cmd with
  | none => .next s
  | some c =>
    if s.isRoot f.toNat then
      match firstFrom 8 0 (fun p => c.wait.getLsbD p) with
      | some p => .next (s.commandFails f.toNat p c.cmd false)
      | none => .next s
    else .next s

/-- HALT_REPLY from child port p: the highest epoch of the devices there (R90); it stands for the halt's completion. -/
def State.haltReplyStep (s : State) (p f highest : Nat) : State :=
  match (s.flight f).haltWait with
  | none => s
  | some (ports, m) =>
    if ¬ ports.getLsbD p then s else
    let x := s.flight f
    let gone := ~~~(1#8 <<< p)
    let cmd := x.cmd.map (fun c => if c.cmd = 3 then { c with wait := c.wait &&& gone } else c)
    ((s.setFlight f { x with haltWait := some (ports &&& gone, max m highest), cmd := cmd }).haltReplies f).commandDone f

/-- HALT_REPLY (R90). -/
def execHaltReply (p : BitVec 3) (f : BitVec 5) (highest : BitVec 48) (s : State) : Host.Outcome State Fault Refusal :=
  .next (s.haltReplyStep p.toNat f.toNat highest.toNat)

/-- HALT_EPOCH: the agreed h from the parent port (R90). -/
def execHaltEpoch (p : BitVec 3) (f : BitVec 5) (h : BitVec 48) (s : State) : Host.Outcome State Fault Refusal :=
  .next (if p.toNat = s.parentPort f.toNat ∧ (s.flight f.toNat).state = .halting then s.agreeHalt f.toNat h.toNat else s)

/-- HALT_REQUEST from a child port: the root halts at the waterline, another device passes it up (R301, R382). -/
def execHaltRequest (p : BitVec 3) (f : BitVec 5) (s : State) : Host.Outcome State Fault Refusal :=
  .next (if (s.obj (0x2800 + f.toNat) 0xE).testBit p.toNat then
    (if s.isRoot f.toNat then s.rootHalt f.toNat else s.sendUp f.toNat (.haltRequest f.toNat)) else s)

/-- ABSENCE_REPORT from a child port: the root halts the flight on every device it reaches, another device passes it up (R256). -/
def State.absenceStep (s : State) (p f : Nat) : State :=
  if (s.obj (0x2800 + f) 0xE).testBit p then
    let s := s.setFlight f { s.flight f with absence := true }
    if s.isRoot f then s.rootHalt f else s.sendUp f (.absence f)
  else s

/-- ABSENCE_REPORT (R256). -/
def execAbsenceReport (p : BitVec 3) (f : BitVec 5) (s : State) : Host.Outcome State Fault Refusal := .next (s.absenceStep p.toNat f.toNat)

/-- RESTART_HOLDOFF_END: 100 µs after a restart (R75). -/
def execRestartHoldoffEnd (f : BitVec 5) (s : State) : Host.Outcome State Fault Refusal :=
  .next (s.setFlight f.toNat { s.flight f.toNat with holdoff := none })

/-! ### The tether controller -/

/-- Present entries of the matching store of engine g. -/
def State.presentEntries (s : State) (g : Nat) : Nat := ((s.tu g).store.filter (fun x => (entryData x.2).2.1)).length

/-- The highest count of present entries over the flight's engines. -/
def State.occupancy (s : State) (f : Nat) : Nat := (s.enginesOf f).foldl (fun m g => max m (s.presentEntries g)) 0

/-- A tether decision of Table 4.5: the new tether, and the controller's memory. -/
structure Decision where
  tether : Option Nat
  tc : Tether

/-- The decision at a sample: the first row of Table 4.5 that holds (R76). -/
def State.tetherDecision (s : State) (f : Nat) : Decision :=
  let x := s.flight f
  let o := 0x2820 + f
  let tmax := s.obj (0x2800 + f) 3
  let size := s.obj (0x2800 + f) 4 * x.tether
  let occ := 100 * s.occupancy f
  let inflow := x.tc.inflow
  let quota := s.obj (0x3410 + f) 1
  let soft := s.obj (0x3410 + f) 2
  let fill := 100 * s.bogFill f
  let tc := { x.tc with views := (x.view :: x.tc.views).take 9, inflow := 0, suspended := x.tc.suspended - 1,
                        payout := x.tc.payout.map (fun (n, a, d) => (n + 1, a, d)) }
  let reel := min x.tether (max (x.tether / 2) (s.obj o 1))
  let calm := decide (occ < s.obj o 3 * size) && decide (inflow < s.obj o 5) && (quota == 0 || decide (2 * fill < soft * quota))
  let tc := { tc with quiet := if calm then tc.quiet + 1 else 0 }
  let late := tc.payout.any (fun (n, a, acted) => decide (n ≤ s.obj o 6) && decide (tc.advance < a) && !acted)
  if x.becalmed then { tether := if x.tether = 1 then none else some 1, tc := tc }
  else if s.obj o 9 = 0 then { tether := if x.tether = tmax ∨ x.payPending = some tmax then none else some tmax, tc := tc }
  else if s.obj o 2 * size ≤ occ ∨ s.obj o 4 ≤ inflow ∨ (quota ≠ 0 ∧ soft * quota ≤ fill) then
    { tether := if reel < x.tether then some reel else none, tc := tc }
  else if late then
    { tether := if reel < x.tether then some reel else none,
      tc := { tc with suspended := 64, payout := tc.payout.map (fun (n, a, _) => (n, a, true)) } }
  else if s.obj o 6 ≤ tc.quiet ∧ x.tether < tmax ∧ x.tc.suspended = 0 then
    { tether := some (2 * x.tether),
      tc := { tc with quiet := 0, payout := if 2 * x.tether ≤ x.frames ∨ x.view % (2 * x.tether) = 0 then some (0, tc.advance, false) else tc.payout } }
  else { tether := none, tc := tc }

/-- The clock actions of R77 for cluster c of flight f. -/
def State.clockAction (s : State) (f c : Nat) : State :=
  let x := s.cluster c
  let o := 0x2820 + f
  let view := (s.flight f).view
  let empty := (List.range 16).all (fun i => (s.tu (16 * c + i)).ready.isEmpty)
  match s.clusterMinimum c f with
  | none => s
  | some m =>
    let n := if empty ∧ view < m then x.idleSamples + 1 else 0
    let s := s.setCluster c { x with idleSamples := n }
    if m = view then s.wantClock c (min x.ceiling (x.clock + 125))
    else if s.obj o 6 ≤ n ∧ s.obj o 7 + 125 ≤ x.clock then s.wantClock c (x.clock - 125)
    else s

/-- TETHER_SAMPLE of flight f (R76, R77). -/
def State.tetherSampleStep (s : State) (f : Nat) : State :=
  let x := s.flight f
  if x.state = .running ∨ x.state = .halting then
    let d := s.tetherDecision f
    let s := s.setFlight f { x with tc := d.tc }
    let s := match d.tether with | some n => s.tetherTo f n | none => s
    (List.range 32).foldl (fun s c =>
      if s.inFlight f c ∧ (s.domain c).state = .live then
        let s := s.retryClock c
        if s.obj (0x2820 + f) 8 = 1 then s.clockAction f c else s
      else s) s
  else s

/-- TETHER_SAMPLE (R76, R77). -/
def execTetherSample (f : BitVec 5) (s : State) : Host.Outcome State Fault Refusal := .next (s.tetherSampleStep f.toNat)

/-! ### The lull watch -/

/-- BECALMED: the tether reels in to 1, a draw-up is forced, urgency is raised (R84). -/
def State.becalmedStep (s : State) (f : Nat) : State :=
  let x := s.flight f
  if (x.state = .running ∨ x.state = .halting) ∧ s.obj (0x2840 + f) 3 = 1 ∧ ¬ x.becalmed then
    let s := (s.setFlight f { x with becalmed := true }).tetherTo f 1
    let s := s.bogTrigger f
    (s.setFlight f { s.flight f with boost := true }).raise (srcId 26 f) 0x30 1 x.view 0
  else s

/-- BECALMED (R84). -/
def execBecalmed (f : BitVec 5) (s : State) : Host.Outcome State Fault Refusal := .next (s.becalmedStep f.toNat)

/-- MIRED: the second interval has passed without an advance (R85). -/
def execMired (f : BitVec 5) (s : State) : Host.Outcome State Fault Refusal :=
  .next (if (s.flight f.toNat).becalmed ∧ s.obj (0x2840 + f.toNat) 3 = 1 then s.declareMired f.toNat 1 else s)

/-- MIRED_REPORT: from a child port, the report on its way to the root, which stops every device; from the parent port, the root's
stop (R85, R382). -/
def State.miredReportStep (s : State) (p f reason : Nat) : State :=
  if p = s.parentPort f then (s.enterMired f reason).sendDown (s.childPorts f) (.stop f reason)
  else if (s.obj (0x2800 + f) 0xE).testBit p then
    (if s.isRoot f then s.declareMired f reason else s.sendUp f (.mired f reason))
  else s

/-- MIRED_REPORT (R85). -/
def execMiredReport (p : BitVec 3) (f : BitVec 5) (reason : BitVec 8) (s : State) : Host.Outcome State Fault Refusal :=
  .next (s.miredReportStep p.toNat f.toNat reason.toNat)

/-! ### Epoch strobes -/

/-- EPS_PULSE: strobe i emits one pending pulse (R275). -/
def execEpsPulse (i : BitVec 2) (s : State) : Host.Outcome State Fault Refusal :=
  let n := s.eps.toList.getD i.toNat 0
  .next (if 0 < n ∧ s.outputsOn then ({ s with eps := s.eps.setIfInBounds i.toNat (n - 1) }).put (.epsPulse i.toNat) else s)

end Sys2Proof.Machine
end

