-- ==== Sys2Proof/Machine/TimeOps.lean ====
section
/-! DEFINITION. Time sources: ranks, selection of the upstream, becoming a source, start-up steps 9 and 10 (R266 to R270, R349, R350). -/

namespace Sys2Proof.Machine

/-- Fault source of the time base (Table 15.1). -/
def timeSrc : Nat := srcId 25 1

/-- A TMSTR part uses its external inputs (R269). -/
def State.usesExternal (s : State) : Bool := s.straps.tmstr && s.obj 0x2200 0xB == 1

/-- The external reference is used and valid, both inputs (R266, R269). -/
def State.externalValid (s : State) : Bool := s.usesExternal && s.time.ext10Valid && s.time.ppsValid

/-- Class of this part as a TMSTR source (R266). -/
def State.masterClass (s : State) : Nat := if s.externalValid then 0 else 1

/-- This part is a source of time (R266, R267). -/
def TimeBase.isSource (t : TimeBase) : Bool := t.master || t.takenOver

/-- An announced rank (class, device, hops, holdover) is better than another: class, then device, then hops (R266). -/
def announceBetter (a b : Nat × Nat × Nat × Bool) : Bool :=
  decide (a.1 < b.1) || (a.1 == b.1 && (decide (a.2.1 < b.2.1) || (a.2.1 == b.2.1 && decide (a.2.2.1 < b.2.2.1))))

/-- The best announce heard on the connected ports that `use` admits, with its port; the lowest port among equals (R266). -/
def State.bestAnnounce (s : State) (use : Nat → Bool) : Option (Nat × Nat × Nat × Nat × Bool) :=
  (List.range 8).foldl (fun best p =>
    let y := s.port p
    if use p ∧ y.state = .connected ∧ y.kind < 2 then
      match y.announced, best with
      | some a, none => some (p, a)
      | some a, some (q, b) => if announceBetter a b then some (p, a) else some (q, b)
      | none, b => b
    else best) none

/-- The part becomes a TMSTR source (R266). -/
def State.becomeMaster (s : State) : State :=
  let c := s.masterClass
  { s with time := { s.time with
      master := true, takenOver := false, role := if c = 0 then .master0 else .master1, cls := c, upstream := none, source := s.devId, hops := 0,
      asked := none, good := 0, conflict := none } }

/-- The part follows the source announced on port p (R266). -/
def State.followPort (s : State) (p : Nat) (a : Nat × Nat × Nat × Bool) : State :=
  let t := s.time
  let same := decide (t.upstream = some (BitVec.ofNat 3 p) ∧ t.source = a.2.1)
  { s with time := { t with
      master := false, takenOver := false, role := .follower, upstream := some (BitVec.ofNat 3 p), cls := a.1, source := a.2.1, hops := a.2.2.1 + 1,
      asked := if same then t.asked else none, good := if same then t.good else 0, conflict := if same then t.conflict else none } }

/-- The part has lost its source without a replacement: the last rate correction is held (R270). -/
def State.holdTime (s : State) : State :=
  let t := s.time
  if t.role = .follower then
    { s with time := { t with role := .holdover, upstream := none, source := 0xFFFF, hops := 0, asked := none, good := 0, conflict := none } }
  else s

/-- A TMSTR part may become a source by selection: start-up is complete. In step 9 it becomes one when its search or its wait for the
external inputs ends (R268, R269). -/
def State.mayMaster (s : State) : Bool := s.straps.tmstr && s.startStep == 10

/-- A TMSTR part follows a source of a better rank, and one of class 2 that runs when it comes up; another part follows any (R266, R267). -/
def State.mayFollow (s : State) (a : Nat × Nat × Nat × Bool) : Bool :=
  !s.straps.tmstr || a.1 == 2 || announceBetter a (s.masterClass, s.devId, a.2.2.1, false)

/-- The upstream selected again from the announces heard (R266, R267). -/
def State.selectSource (s : State) : State :=
  let own := (s.masterClass, s.devId, 0, false)
  match s.bestAnnounce (fun _ => true) with
  | none => if s.time.isSource then s else if s.mayMaster then s.becomeMaster else s.holdTime
  | some (p, a) =>
    if s.time.master then (if announceBetter a (own.1, own.2.1, a.2.2.1, false) then s.followPort p a else s)
    else if s.time.takenOver then (if a.1 < 2 ∨ a.2.1 < s.devId then s.followPort p a else s)
    else if s.mayFollow a then s.followPort p a
    else if s.mayMaster then s.becomeMaster
    else s.holdTime

/-- The announce of a port no longer stands. -/
def State.dropAnnounce (s : State) (p : Nat) : State := (s.setPort p { s.port p with announced := none }).selectSource

/-- Some domain is contained and keeps the part DEGRADED (Table 17.9, step 10, R20). -/
def State.anyContained (s : State) : Bool := anyTo 40 (fun d => (s.domain d).degrades)

/-- Step 10: LIVE, or DEGRADED if any domain is contained (R349). -/
def State.goLive (s : State) : State :=
  if s.dev = .config ∧ s.startStep = 9 then ({ s with startStep := 10 }).enterDev (if s.anyContained then .degraded else .live) else s

/-- Step 9, time lock: a part that is locked or is a source has it (R268, R269). -/
def State.awaitLock (s : State) : State :=
  if s.dev = .config ∧ s.startStep = 8 then
    let s := ({ s with startStep := 9 }).selectSource
    if s.time.locked ∨ s.time.isSource then s.goLive else s
  else s

end Sys2Proof.Machine
end

