-- ==== Sys2Proof/Machine/Ports.lean ====
section
/-! DEFINITION. Peer ports: link blocks, credits, replay, training and discovery, losing a partner (R234 to R258). -/

namespace Sys2Proof.Machine

/-- Fault source of port p (Table 15.1). -/
def portSrc (p : Nat) : Nat := srcId 21 p

/-- An event of port p whose details are the partner's device and the port (Table 15.2). -/
def State.portEvent (s : State) (p code level : Nat) : State := s.raise (portSrc p) code level (s.port p).partner p

/-- A counter of port p (Table 12.7). -/
def State.portCount (s : State) (p sub : Nat) : State := s.bump 32 (0x2C20 + p) sub

/-- The device state lets peer transmitters drive: not OFF, RESET or SELFTEST (R254), but when the boot image comes from a partner
(R352). -/
def State.portsDrive (s : State) : Bool := s.dev != .off && s.dev != .reset && (s.dev != .selftest || s.fw.peerBoot)

/-- The domain of port p: D36 for P0 to P3, D37 for P4 to P7 (Table 14.1). -/
def portDomain (p : Nat) : Nat := 36 + p / 4

/-- Port p may leave state 0: enabled, not contained, its domain LIVE (R254, R286). -/
def State.portMayRun (s : State) (p : Nat) : Bool :=
  s.obj (0x2C20 + p) 2 == 1 && !(s.port p).contained && s.portsDrive && (s.domain (portDomain p)).state == .live

/-! ### Blocks -/

/-- Slot i of a block, its code (Table 12.3), sequence and CRC field (Table 12.2). -/
def blockSlot (b : BitVec 1024) (i : Nat) : BitVec 192 := b.extractLsb' (192 * i) 192
def blockCode (b : BitVec 1024) (i : Nat) : Nat := (b.extractLsb' (976 + 3 * i) 3).toNat
def blockSeq (b : BitVec 1024) : BitVec 16 := b.extractLsb' 960 16
def blockCrc (b : BitVec 1024) : BitVec 32 := b.extractLsb' 992 32

/-- A block is sequenced when a slot holds code 010 or above (R237). -/
def blockSequenced (b : BitVec 1024) : Bool := anyTo 5 (fun i => decide (2 ≤ blockCode b i))

/-- A block with its CRC-32 (R236). -/
def sealBlock (b : BitVec 1024) : BitVec 1024 := setField b 992 32 (crc32Block b)

/-- A block of slots with codes, a sequence and the retransmitted bit. -/
def mkBlock (l : List (BitVec 192 × Nat)) (seq : BitVec 16) (again : Bool) : BitVec 1024 :=
  let g := fun i => (l.getD i (0, 0)).1
  let c := fun i => BitVec.ofNat 3 (l.getD i (0, 0)).2
  sealBlock (0#32 ++ BitVec.ofBool again ++ c 4 ++ c 3 ++ c 2 ++ c 1 ++ c 0 ++ seq ++ g 4 ++ g 3 ++ g 2 ++ g 1 ++ g 0)

/-- Bits i, i+1, … (n of them) of x scrambled, or with `back` descrambled, from a 58-bit state: x⁵⁸ + x³⁹ + 1 (R235). -/
def scrambleBits (back : Bool) (x : BitVec 1024) : Nat → Nat → BitVec 58 → BitVec 1024 → BitVec 1024 × BitVec 58
  | _, 0, c, y => (y, c)
  | i, n + 1, c, y =>
    let b := x.getLsbD i
    let o := b ^^ c.getLsbD 38 ^^ c.getLsbD 57
    scrambleBits back x (i + 1) n ((c <<< 1) ||| (BitVec.ofBool (if back then b else o)).zeroExtend 58) (if o then y ||| (1#1024 <<< i) else y)

/-- A block scrambled (R235). -/
def scramble (x : BitVec 1024) (c : BitVec 58) : BitVec 1024 × BitVec 58 := scrambleBits false x 0 1024 c 0

/-- A block descrambled (R235). -/
def descramble (x : BitVec 1024) (c : BitVec 58) : BitVec 1024 × BitVec 58 := scrambleBits true x 0 1024 c 0

/-! ### Receiving -/

/-- A block error at port p: discarded and counted, a level-1 event whose code Table 15.2 does not list (assumption 5), a replay requested when
none is outstanding (R43, R243, Table 2.9). -/
def State.blockError (s : State) (p : Nat) : State :=
  let s := (s.portCount p 0x10).raiseFree (portSrc p) 1
  let y := s.port p
  if y.wantReplay then s else s.setPort p { y with wantReplay := true, statusDue := true }

/-- A link-control flit of a good block (R240, R271): status and time-sync flits are kept for their rows; a reserved subtype or kind is
ignored and counted. -/
def State.linkControl (s : State) (p : Nat) (f : BitVec 192) : State :=
  let y := { s.port p with good := true }
  match (f.extractLsb' 0 4).toNat with
  | 0 => s.setPort p { y with statusIn := y.statusIn ++ [f] }
  | 1 => if (f.extractLsb' 4 2).toNat = 3 then (s.setPort p y).discard (portSrc p) else s.setPort p { y with syncIn := y.syncIn ++ [(f, s.stamp)] }
  | _ => (s.setPort p y).discard (portSrc p)

/-- A packet flit of a sequenced block handed to the port's router in its buffer set (R238, R241). -/
def State.takeFlit (s : State) (p : Nat) (f : BitVec 192) (code : Nat) : State :=
  let y := s.port p
  let put := fun (v : Nat) (u : Bool) (tag : BitVec 2) (next : Option (Nat × Bool)) =>
    let key := 2 * v + u.toNat
    s.setPort p { y with rxHead := next, ingress := tput [] key (tget [] y.ingress key ++ [{ bits := f, tag := tag, inj := 36 + p }]) y.ingress }
  if code < 4 then
    match y.rxHead with
    | none => s
    | some (v, u) => if code = 3 then put v u 1 none else put v u 0 (some (v, u))
  else
    let v := (ctlVc (f.extractLsb' 96 96)).toNat
    let u := decide (6 ≤ code)
    if code % 2 = 0 then put v u 2 (some (v, u)) else put v u 3 none

/-- Slots i, i+1, … (n of them) of a good block; packet flits are delivered when `all` holds. -/
def State.takeSlots (s : State) (p : Nat) (b : BitVec 1024) (all : Bool) : Nat → Nat → State
  | _, 0 => s
  | i, n + 1 =>
    let c := blockCode b i
    let s := if c = 1 then s.linkControl p (blockSlot b i) else if 2 ≤ c ∧ all then s.takeFlit p (blockSlot b i) c else s
    State.takeSlots s p b all (i + 1) n

/-- A descrambled link block at port p (R243). -/
def State.takeBlock (s : State) (p : Nat) (b : BitVec 1024) : State :=
  let (c, s) := s.checkCode (portSrc p) 0 (crc32Block b ^^^ blockCrc b).toNat
  if c.bad then s.blockError p else
  let y := s.port p
  let fresh := blockSequenced b && blockSeq b == y.rxNext
  let copy := blockSequenced b && !fresh && decide ((y.rxNext - blockSeq b).toNat ≤ 1024)
  let s := s.takeSlots p b fresh 0 5
  let y := s.port p
  if fresh then s.setPort p { y with rxNext := y.rxNext + 1, wantReplay := false, statusDue := true }
  else if blockSequenced b ∧ ¬ copy then s.blockError p
  else s

/-- A block as the lanes deliver it: sync header at [1:0], scrambled bits above it (R235). -/
def State.linkBlockStep (s : State) (p : Nat) (x : BitVec 1026) : State :=
  let y := s.port p
  if y.state ≠ .connected then s else
  let (b, c) := descramble (x.extractLsb' 2 1024) y.rxScram
  let s := s.setPort p { y with rxScram := c }
  match (x.extractLsb' 0 2).toNat with
  | 1 => s.takeBlock p b
  | 2 => s
  | _ => s.blockError p

/-- LINK_BLOCK (R243). -/
def execLinkBlock (p : BitVec 3) (block : BitVec 1026) (s : State) : Host.Outcome State Fault Refusal := .next (s.linkBlockStep p.toNat block)

/-- FEC_CODEWORD: at most 15 symbol errors are corrected, more mark the five blocks as block errors (R245); a delivered injection, in one
symbol, counts as corrected (R304, R305). -/
def State.fecStep (s : State) (p : Nat) (blocks : List (BitVec 1026)) (count : BitVec 10) (errors : Nat) : State :=
  let y := s.port p
  if y.state ≠ .connected ∨ ¬ y.fec then s else
  let s := s.setPort p { y with fecCount := count }
  let (c, s) := s.checkCode (portSrc p) 1 errors
  if 15 < errors then blocks.foldl (fun s _ => s.blockError p) (s.portCount p 0x14)
  else
    let s := if 0 < errors ∨ c.injected then s.portCount p 0x13 else s
    blocks.foldl (fun s b => s.linkBlockStep p b) s

/-- FEC_CODEWORD (R245). -/
def execFecCodeword (p : BitVec 3) (blocks : List (BitVec 1026)) (count : BitVec 10) (symbolErrors : Nat) (s : State) :
    Host.Outcome State Fault Refusal := .next (s.fecStep p.toNat blocks count symbolErrors)

/-! ### Transmitting -/

/-- Size of an ingress buffer set (Table 12.5). -/
def setSize (key : Nat) : Nat := match key / 2 with | 0 => 128 | 1 => 128 | 2 => 1536 | _ => 256

/-- Slot code of a staged flit (Table 12.3). -/
def stagedCode (x : Staged) : Nat :=
  match x.flit.tag.toNat with
  | 0 => 2 | 1 => 3 | 2 => (if x.upper then 6 else 4) | _ => (if x.upper then 7 else 5)

/-- Buffer set of a staged flit. -/
def Staged.key (x : Staged) : Nat := 2 * x.chan.toNat + x.upper.toNat

/-- The flit that fills the next slot of port y: the rest of the packet begun, else the head of highest urgency among the sets that
hold one and a credit, ties in turn after the set served last (R238, R242). -/
def Port.nextFlit (y : Port) : Option Staged :=
  let credit := fun key => decide (tget 0 y.credUsed key < setSize key)
  let first := fun key => y.staging.find? (fun x => x.key == key)
  match y.txHead with
  | some (v, u) => let key := 2 * v + u.toNat
    if credit key then first key else none
  | none =>
    let turn := fun key => (key + 8 - (y.turn + 1) % 8) % 8
    ((List.range 8).filterMap (fun key => if credit key then first key else none)).foldl (fun a x => match a with
      | none => some x
      | some z =>
        let ux := (ctlUrgency x.flit.ctl).toNat
        let uz := (ctlUrgency z.flit.ctl).toNat
        if uz < ux ∨ (ux = uz ∧ turn x.key < turn z.key) then some x else some z) none

/-- Up to n slots filled from the staging of port p; the room of each flit that leaves goes on its way back (R242). -/
def State.fillSlots (s : State) (p : Nat) : Nat → List (BitVec 192 × Nat) × State
  | 0 => ([], s)
  | n + 1 =>
    let y := s.port p
    match y.nextFlit with
    | none => ([], s)
    | some x =>
      let more := !x.flit.isLast
      let s := s.setPort p { y with
        staging := y.staging.erase x, txHead := if more then some (x.chan.toNat, x.upper) else none, turn := x.key,
        credUsed := tput 0 x.key (tget 0 y.credUsed x.key + 1) y.credUsed }
      let s := { s with noc := { s.noc with back := s.noc.back ++ [.staging (stageKey p x.chan.toNat x.flit.inj)] } }
      let (l, s) := State.fillSlots s p n
      ((x.flit.bits, stagedCode x) :: l, s)

/-- The status flit of a port (Table 12.4). -/
def Port.status (y : Port) : BitVec 192 :=
  let f := fun i => BitVec.ofNat 16 (tget 0 y.freed i)
  0#27 ++ f 7 ++ f 6 ++ f 5 ++ f 4 ++ f 3 ++ f 2 ++ f 1 ++ f 0 ++ y.rxNext ++ BitVec.ofBool y.wantReplay ++ (y.rxNext - 1) ++ 0#4

/-- A time-sync flit with the transmit stamp of its kind inserted while its block is built (R271, R272). -/
def State.stampSync (s : State) (p : Nat) (f : BitVec 192) : BitVec 192 × State :=
  let t := s.stamp + Config.txLatency p
  match (f.extractLsb' 4 2).toNat with
  | 0 =>
    let s := match s.time.asked with
      | some (n, _) => if n = f.extractLsb' 6 8 then { s with time := { s.time with asked := some (n, t) } } else s
      | none => s
    (setField f 32 80 (BitVec.ofNat 80 t), s)
  | 1 => (setField f 112 80 (BitVec.ofNat 80 t), s)
  | _ => (f, s)

/-- The time-sync flits of a list stamped. -/
def State.stampAll (s : State) (p : Nat) : List (BitVec 192) → List (BitVec 192) × State
  | [] => ([], s)
  | f :: l =>
    let (g, s) := s.stampSync p f
    let (r, s) := State.stampAll s p l
    (g :: r, s)

/-- A block scrambled and sent under sync header 01 (R235); with FEC five blocks make a codeword under its 10-bit count (R245). -/
def State.sendBlock (s : State) (p : Nat) (b : BitVec 1024) : State :=
  let y := s.port p
  let (x, c) := scramble b y.txScram
  let z : BitVec 1026 := x ++ 1#2
  if ¬ y.fec then (s.setPort p { y with txScram := c }).put (.block p z)
  else if y.fecOut.length < 4 then s.setPort p { y with txScram := c, fecOut := y.fecOut ++ [z] }
  else (s.setPort p { y with txScram := c, fecOut := [], fecNext := y.fecNext + 1 }).put (.codeword p (y.fecOut ++ [z]) y.fecNext)

/-- The number that the next sequenced block of port y will carry: the next block to be sent again, else a new one (R237, R244). -/
def Port.nextSeq (y : Port) : BitVec 16 := match y.resend with | b :: _ => blockSeq b | [] => y.txSeq

/-- An unsequenced block with the link-control flits that are due (R237, R239, R240). -/
def State.sendControl (s : State) (p : Nat) : State :=
  let y := s.port p
  let now := y.syncOut.take 4
  let (l, s) := s.stampAll p now
  let y := s.port p
  let status := if y.statusDue then [(y.status, 1)] else []
  let b := mkBlock (status ++ l.map (fun f => (f, 1))) y.nextSeq false
  (s.setPort p { y with statusDue := false, syncOut := y.syncOut.drop 4, sinceFiller := 0 }).sendBlock p b

/-- LINK_BLOCK_TRANSMIT: link control that is due, blocks to be sent again, new flits while the replay buffer has room, or an
unsequenced filler (R235, R239, R240, R242, R244). -/
def State.transmitStep (s : State) (p : Nat) : State :=
  let y := s.port p
  if y.state ≠ .connected then s
  else if y.statusDue ∨ y.syncOut ≠ [] ∨ 2047 ≤ y.sinceFiller then s.sendControl p
  else
    match y.resend with
    | b :: rest =>
      (s.setPort p { y with resend := rest, sinceFiller := y.sinceFiller + 1 }).sendBlock p (sealBlock (b ||| (1#1024 <<< 991)))
    | [] =>
      if 1024 ≤ y.replay.length then s.sendControl p else
      match s.fillSlots p 5 with
      | ([], s) => s.sendControl p
      | (l, s) =>
        let y := s.port p
        let b := mkBlock l y.txSeq false
        (s.setPort p { y with replay := y.replay ++ [b], txSeq := y.txSeq + 1, sinceFiller := y.sinceFiller + 1 }).sendBlock p b

/-- LINK_BLOCK_TRANSMIT (R235). -/
def execLinkBlockTransmit (p : BitVec 3) (s : State) : Host.Outcome State Fault Refusal := .next (s.transmitStep p.toNat)

/-! ### Status and replay -/

/-- The queues of port p flushed: its ingress and the dual-clock queues to and from its router; a packet of which the router has passed
part is abandoned, its hold given up (R233). -/
def State.flushPort (s : State) (p : Nat) : State :=
  let k := 36 + p
  let s := (List.range 4).foldl (fun s v => (s.endCut k 6 v false).endCut k 6 v true) s
  let s := s.setPort p { s.port p with ingress := [], rxHead := none }
  (s.flushCrossing k 1).flushCrossing k 2

/-- A port that retrains for its own reason: steps 3 to 6, equalisation kept, its queues flushed (R233, R246). -/
def State.retrainPort (s : State) (p : Nat) : State :=
  (s.setPort p { s.port p with state := .align, retrain := true, resend := [], failures := none }).flushPort p

/-- Replay exhausted: counted, the replay buffer discarded, a level-2 fault, the port retrains (R89, R244). -/
def State.replayExhausted (s : State) (p : Nat) : State :=
  let s := (s.portCount p 0x12).portEvent p 0x28 2
  (s.setPort p { s.port p with replay := [] }).retrainPort p

/-- A replay from sequence q, which is held: an attempt on the same sequence that failed is counted (R244). -/
def State.replayFrom (s : State) (p : Nat) (q : BitVec 16) (failed : Nat) : State :=
  if 8 ≤ failed then s.replayExhausted p else
  let s := s.portCount p 0x11
  let y := s.port p
  s.setPort p { y with failures := some (q, failed), resend := y.replay.dropWhile (fun b => blockSeq b != q) }

/-- A status flit's acknowledgement (R244). -/
def Port.acked (y : Port) (ack : BitVec 16) : Port :=
  match y.replay with
  | [] => y
  | b :: _ =>
    let n := (ack + 1 - blockSeq b).toNat
    if n ≤ y.replay.length then
      let rest := y.replay.drop n
      let held := fun (q : BitVec 16) => rest.any (fun b => blockSeq b == q)
      { y with
        replay := rest, resend := y.resend.filter (fun b => held (blockSeq b)),
        failures := y.failures.filter (fun x => held x.1) }
    else y

/-- Freed counts 0 to n−1 of a status flit added to the credits (R241). -/
def Port.freeCredits (y : Port) (f : BitVec 192) : Nat → Port
  | 0 => y
  | n + 1 =>
    let y := Port.freeCredits y f n
    let v := (f.extractLsb' (37 + 16 * n) 16).toNat
    let d := (v + 65536 - tget 0 y.freedSeen n) % 65536
    { y with freedSeen := tput 0 n v y.freedSeen, credUsed := tput 0 n (tget 0 y.credUsed n - d) y.credUsed }

/-- STATUS_FLIT: the oldest received status flit; a replay request for a sequence not held is ignored and counted (R240, R241, R244). -/
def State.statusStep (s : State) (p : Nat) : State :=
  let y := s.port p
  match y.statusIn with
  | [] => s
  | f :: rest =>
    if y.state ≠ .connected then s.setPort p { y with statusIn := rest } else
    let y := (({ y with statusIn := rest }).acked (f.extractLsb' 4 16)).freeCredits f 8
    let s := s.setPort p y
    let q := f.extractLsb' 21 16
    if ¬ f.getLsbD 20 then s
    else if y.replay.any (fun b => blockSeq b == q) then
      s.replayFrom p q (match y.failures with | some (r, n) => if r = q then n + 1 else 0 | none => 0)
    else s.discard (portSrc p)

/-- STATUS_FLIT (R240). -/
def execStatusFlit (p : BitVec 3) (s : State) : Host.Outcome State Fault Refusal := .next (s.statusStep p.toNat)

/-- STATUS_FLIT_TIMER: a status flit is due at least once every 1 µs (R240). -/
def execStatusFlitTimer (p : BitVec 3) (s : State) : Host.Outcome State Fault Refusal :=
  .next (if (s.port p.toNat).state = .connected then s.setPort p.toNat { s.port p.toNat with statusDue := true } else s)

/-- REPLAY_TIMEOUT: blocks held and no ack advance for 4 µs, a replay from the oldest (R244). -/
def State.replayTimeoutStep (s : State) (p : Nat) : State :=
  let y := s.port p
  match y.replay with
  | [] => s
  | b :: _ =>
    if y.state ≠ .connected then s else
    match y.failures with
    | some (q, n) => if 7 ≤ n then s.replayExhausted p else s.replayFrom p (blockSeq b) (if q = blockSeq b then n + 1 else 0)
    | none => s.replayFrom p (blockSeq b) 0

/-- REPLAY_TIMEOUT (R244). -/
def execReplayTimeout (p : BitVec 3) (s : State) : Host.Outcome State Fault Refusal := .next (s.replayTimeoutStep p.toNat)

/-! ### Training -/

/-- DETECT: the transmitter sends the training pattern (Table 12.6, step 1). -/
def State.enterDetect (s : State) (p : Nat) : State := (s.setPort p { s.port p with state := .detect, identity := none }).put (.trainingPattern p)

/-- TRAIN: the committed rate and FEC come into force (R246). -/
def State.enterTrain (s : State) (p : Nat) : State :=
  s.setPort p { s.port p with state := .train, rate := s.obj (0x2C20 + p) 3 == 1, fec := s.obj (0x2C20 + p) 4 == 1, identity := none }

/-- SIGNAL_DETECT: a port that waits for signal trains; one whose partner was lost waits too (R246, R258). -/
def execSignalDetect (p : BitVec 3) (s : State) : Host.Outcome State Fault Refusal :=
  let y := s.port p.toNat
  .next (if (y.state = .detect ∨ y.state = .absent ∨ y.state = .shutdown) ∧ s.portMayRun p.toNat then s.enterTrain p.toNat else s)

/-- TRAIN: step 2 is complete (R246). -/
def execTrain (p : BitVec 3) (s : State) : Host.Outcome State Fault Refusal :=
  .next (if (s.port p.toNat).state = .train then s.setPort p.toNat { s.port p.toNat with state := .align } else s)

/-- The identity ordered set of port p (R247). -/
def State.ownIdentity (s : State) (p : Nat) : IdentitySet :=
  { device := BitVec.ofNat 10 (match s.deviceId with | some d => d | none => s.straps.devid.toNat), upperKnown := s.deviceId.isSome,
    port := BitVec.ofNat 3 p, kind := 1, stepping := BitVec.ofNat 16 steppingString, rate := (s.port p).rate, fec := (s.port p).fec,
    idSource := BitVec.ofNat 1 (s.obj 0x2C00 2), tmstr := s.straps.tmstr, tbkup := s.straps.tbkup }

/-- DISCOVER: identity sets are sent (R247). -/
def State.enterDiscover (s : State) (p : Nat) : State :=
  (s.setPort p { s.port p with state := .discover, identity := none }).put (.identity p (s.ownIdentity p))

/-- ALIGN: step 3 is complete (R246). -/
def execAlign (p : BitVec 3) (s : State) : Host.Outcome State Fault Refusal :=
  let y := s.port p.toNat
  .next (if y.state = .align then (if y.fec then s.setPort p.toNat { y with state := .fecLock } else s.enterDiscover p.toNat) else s)

/-- FEC_LOCK: step 4 is complete (R246). -/
def execFecLock (p : BitVec 3) (s : State) : Host.Outcome State Fault Refusal :=
  .next (if (s.port p.toNat).state = .fecLock then s.enterDiscover p.toNat else s)

/-- TRAINING_TIMEOUT: step 2 over its bound or a later step failed; DETECT again, counted (R246). -/
def State.trainingFails (s : State) (p : Nat) : State :=
  match (s.port p).state with
  | .train | .align | .fecLock | .discover => ((s.portCount p 0x15).portEvent p 0x2C 1).enterDetect p
  | _ => s

/-- TRAINING_TIMEOUT (R246). -/
def execTrainingTimeout (p : BitVec 3) (s : State) : Host.Outcome State Fault Refusal := .next (s.trainingFails p.toNat)

/-- RETRAIN_TIMEOUT: steps 3 to 6 not complete within 1 ms, the port runs again from step 2 (R246). -/
def execRetrainTimeout (p : BitVec 3) (s : State) : Host.Outcome State Fault Refusal :=
  let y := s.port p.toNat
  .next (if y.retrain ∧ y.state ≠ .connected ∧ y.state ≠ .train then s.enterTrain p.toNat else s)

/-- ALIGNMENT_LOSS: a connected port retrains from step 3 (R246). -/
def execAlignmentLoss (p : BitVec 3) (s : State) : Host.Outcome State Fault Refusal :=
  .next (if (s.port p.toNat).state = .connected then s.retrainPort p.toNat else s)

/-! ### Start-up step 8 -/

/-- Every enabled port is CONNECTED (Table 17.9, step 8). -/
def State.portsConnected (s : State) : Bool :=
  (List.range 8).all (fun p => !s.portMayRun p || (s.port p).state == .connected)

/-- Step 8 ends once every enabled port is CONNECTED. -/
def State.checkPorts (s : State) : State := if s.portsConnected then s.awaitLock else s

/-- PORT_TRAINING_WAIT_TIMEOUT: 500 ms after step 8 began (R349). -/
def execPortTrainingWaitTimeout (s : State) : Host.Outcome State Fault Refusal := .next s.awaitLock

/-! ### Reading a boot image from a partner -/

/-- READ of 64 words of the boot image, from word n on, sent through port p (R352). -/
def State.readPeer (s : State) (p n : Nat) : State :=
  s.sendPacket 45 vcReq 0 (bootEntryOut p) (unitSrc s.devId 1) (mkHead n 15 1 64 (BitVec.ofNat 12 (n / 64)) 0 0 false) []

/-- The image is asked of the first connected Zarsan in port order that has not failed to deliver it (R352). -/
def State.nextPeer (s : State) : State :=
  match firstFrom 8 0 (fun p => (s.port p).state == .connected && (s.port p).kind == 1 && !s.fw.peerTried.contains p) with
  | some p => ({ s with fw := { s.fw with peerRead := some (p, []) } }).readPeer p 0
  | none => { s with fw := { s.fw with peerRead := none } }

/-- The reading starts when no connected partner is being read (R352). -/
def State.startPeer (s : State) : State :=
  let busy : Bool := match s.bootPort with | some p => (s.port p).state == .connected | none => false
  if s.fw.peerBoot ∧ ¬ busy then s.nextPeer else s

/-! ### Discovery -/

/-- Entry to CONNECTED (R241, R246, R247, R258, Table 12.6 step 6). -/
def State.connectPort (s : State) (p : Nat) (i : IdentitySet) : State :=
  let s := s.flushPort p
  let y := s.port p
  let d := i.device.toNat
  let s := s.setPort p { y with
    state := .connected, retrain := false, partner := d, partnerPort := i.port.toNat, kind := i.kind.toNat, held := 0, identity := none,
    txSeq := 0, replay := [], resend := [], failures := none, rxNext := 0, wantReplay := false, credUsed := [], freedSeen := [],
    freed := [], fecOut := [], statusDue := true, sinceFiller := 0, good := false, empty := 0, absentSet := 0, announced := none }
  let s := if 2 ≤ i.kind.toNat then s.setObj 0x2C00 5 (s.obj 0x2C00 5 ||| 2 ^ d) else s
  s.startPeer.checkPorts

/-- A fault that holds port p in DISCOVER, raised when its cause is new (R249). -/
def State.holdPort (s : State) (p cause d : Nat) : State :=
  if (s.port p).held = cause then s
  else (s.setPort p { s.port p with held := cause }).raise (portSrc p) 0x2B 2 d p

/-- The identity sets of both ends compared; a cause that held the port stands until the port passes DISCOVER (R247, R249). -/
def State.judgeIdentity (s : State) (p : Nat) : State :=
  let y := s.port p
  match y.identity, y.state with
  | some i, .discover =>
    let d := i.device.toNat
    let board := (s.obj 0x2C00 4).testBit p && s.obj 0x2C00 2 == 1
    if i.upperKnown ∧ s.deviceId = some d then s.holdPort p 1 d
    else if i.rate ≠ y.rate ∨ i.fec ≠ y.fec then s.holdPort p 2 d
    else if board ∧ i.upperKnown ∧ s.upperId.isSome ∧ s.upperId ≠ some (i.device.extractLsb' 4 6) then s.holdPort p 3 d
    else if i.upperKnown ∧ s.deviceId.isSome then s.connectPort p i
    else s
  | _, _ => s

/-- The device ID has become known: identity sets are sent anew on every port in DISCOVER, and those received are compared (R248). -/
def State.announceIds (s : State) : State :=
  (List.range 8).foldl (fun s p =>
    if (s.port p).state = .discover then (s.put (.identity p (s.ownIdentity p))).judgeIdentity p else s) s

/-- IDENTITY_ORDERED_SET from the partner of port p (R247 to R249). -/
def State.identityStep (s : State) (p : Nat) (i : IdentitySet) : State :=
  if (s.port p).state ≠ .discover then s else
  let s := s.setPort p { s.port p with identity := some i }
  if s.obj 0x2C00 2 = 1 ∧ s.upperId = none ∧ (s.obj 0x2C00 4).testBit p ∧ i.upperKnown then
    ({ s with upperId := some (i.device.extractLsb' 4 6) }).announceIds
  else s.judgeIdentity p

/-- IDENTITY_ORDERED_SET (R247). -/
def execIdentityOrderedSet (p : BitVec 3) (set : IdentitySet) (s : State) : Host.Outcome State Fault Refusal := .next (s.identityStep p.toNat set)

/-! ### Losing a partner -/

/-- Devices whose device-table entry at some injecting router names port p as egress (R256). -/
def State.devicesBehind (s : State) (p : Nat) : BitVec 1024 :=
  let ks := (List.range 46).filter (fun k => s.obj (0x2A40 + k) 2 != 0)
  bitsOf 1024 (fun d => d != s.devId && ks.any (fun k =>
    let e := s.routeEntry k 2 d
    entryState e != 0 && e / 2 ^ 44 % 8 == p))

/-- The staging of port p emptied (R256, step 4). -/
def State.emptyStaging (s : State) (p : Nat) : State :=
  let y := s.port p
  (y.staging).foldl (fun s x => s.lostFlit p x.chan.toNat x.flit) (s.setPort p { y with staging := [], txHead := none })

/-- Step 3 of R256: the halt at the waterline of every flight with a tree edge at port p, and the absence reported up. -/
def State.haltEdges (s : State) (p : Nat) : State :=
  (List.range 32).foldl (fun s f =>
    let parent := decide (s.parentPort f = p)
    let child := (s.obj (0x2800 + f) 0xE).testBit p
    if s.obj (0x2800 + f) 2 ≠ 0 ∧ (parent ∨ child) then
      let x := s.flight f
      let s := if x.state = .running ∨ x.state = .halting then s.setFlight f { x with absence := true } else s
      if ¬ parent ∧ s.isRoot f then s.rootHalt f
      else
        let s := if x.state = .running then s.halt f x.view else s
        if parent then s else s.sendUp f (.absence f)
    else s) s

/-- Steps 2 to 4 of R256; step 3 where `halts` holds. -/
def State.loseEdges (s : State) (p : Nat) (halts : Bool) : State :=
  let s := s.setPort p { s.port p with absentSet := s.devicesBehind p, resend := [], failures := none, rxHead := none }
  let s := if halts then s.haltEdges p else s
  (s.emptyStaging p).dropAnnounce p

/-- State 8, partner absent (R255, R256). -/
def State.partnerAbsent (s : State) (p : Nat) : State :=
  let s := (s.setPort p { s.port p with state := .absent, retrain := false }).portEvent p 0x29 2
  s.loseEdges p true

/-- RETRAIN_LIMIT: a retrain not CONNECTED within the port's limit (R255). -/
def execRetrainLimit (p : BitVec 3) (s : State) : Host.Outcome State Fault Refusal :=
  .next (if (s.port p.toNat).retrain then s.partnerAbsent p.toNat else s)

/-- LOSS_OF_SIGNAL while CONNECTED or retraining (R255). -/
def execLossOfSignal (p : BitVec 3) (s : State) : Host.Outcome State Fault Refusal :=
  .next (if (s.port p.toNat).state = .connected ∨ (s.port p.toNat).retrain then s.partnerAbsent p.toNat else s)

/-- KEEPALIVE_WINDOW: a window of 1 µs ends; the eighth empty one in a row declares the absence (R255). -/
def State.keepaliveStep (s : State) (p : Nat) : State :=
  let y := s.port p
  if y.state ≠ .connected then s
  else if y.good then s.setPort p { y with good := false, empty := 0 }
  else if 8 ≤ y.empty + 1 then (s.setPort p { y with empty := 0 }).partnerAbsent p
  else s.setPort p { y with empty := y.empty + 1 }

/-- KEEPALIVE_WINDOW (R255). -/
def execKeepaliveWindow (p : BitVec 3) (s : State) : Host.Outcome State Fault Refusal := .next (s.keepaliveStep p.toNat)

/-- SHUTDOWN_ORDERED_SET: state 9, a level-0 event, from any state in which the port hears its partner; no flight is halted (R255, R256). -/
def State.shutdownStep (s : State) (p : Nat) : State :=
  if (s.port p).state ≠ .disabled ∧ (s.port p).state ≠ .shutdown then
    ((s.setPort p { s.port p with state := .shutdown, retrain := false }).portEvent p 0x2A 0).loseEdges p false
  else s

/-- SHUTDOWN_ORDERED_SET (R255). -/
def execShutdownOrderedSet (p : BitVec 3) (s : State) : Host.Outcome State Fault Refusal := .next (s.shutdownStep p.toNat)

/-! ### Enable and disable -/

/-- The port goes idle, after its shutdown notice when it drives (R254, R255). -/
def State.idlePort (s : State) (p : Nat) : State :=
  let y := s.port p
  let s := if y.state = .disabled then s else s.put (.shutdownNotice p)
  (s.setPort p { y with state := .disabled, retrain := false, partner := 0xFFFF, partnerPort := 0xFF, kind := 0, identity := none }).dropAnnounce p

/-- A port that may run and is idle starts DETECT. -/
def State.startPort (s : State) (p : Nat) : State := if (s.port p).state = .disabled ∧ s.portMayRun p then s.enterDetect p else s

/-- The port contained by a reaction: shutdown notice, idle transmitters, steps 2 to 4 of R256, until its reset (Table 15.5). -/
def State.containPort (s : State) (p : Nat) : State :=
  let s := s.idlePort p
  (s.setPort p { s.port p with contained := true }).loseEdges p true

/-- The enable of port p written: 0 idles it; 1 after 0 resets the port and starts DETECT (R246, R255, R295). -/
def State.setPortEnable (s : State) (p : Nat) (on : Bool) : State :=
  let was := s.obj (0x2C20 + p) 2 == 1
  let s := s.setObj (0x2C20 + p) 2 on.toNat
  if on then
    if was then s else ((((s.flushPort p).setPort p { s.port p with contained := false, ingress := [], rxHead := none }).resetSource (portSrc p)).startPort p)
  else s.idlePort p

end Sys2Proof.Machine
end

