-- ==== Sys2Proof/Machine/TimeBase.lean ====
section
/-! DEFINITION. The time base: two-way sync, announces, external inputs, backup, the waits of start-up step 9 (R264 to R273). -/

namespace Sys2Proof.Machine

/-- One nanosecond in stamp units (Table 13.4). -/
abbrev nsUnits : Int := 65536

/-- A signed value of w bits. -/
def signedOf (w v : Nat) : Int := if v < 2 ^ (w - 1) then v else (v : Int) - 2 ^ w

/-- The first time-sync flit of a kind received on port p, taken (Table 13.5). Its reserved bits are not looked at, nor are those of a status
flit: the manual does not say what non-zero ones do (DESIGN CHOICE, assumption 102). -/
def State.takeSync (s : State) (p kind : Nat) : Option ((BitVec 192 × Nat) × State) :=
  match takeFirst (fun (x : BitVec 192 × Nat) => (x.1.extractLsb' 4 2).toNat == kind) (s.port p).syncIn with
  | none => none
  | some (x, rest) => some (x, s.setPort p { s.port p with syncIn := rest })

/-- A time-sync flit of a kind and sequence (Table 13.5). -/
def syncFlit (kind : Nat) (seq : BitVec 8) (hops source cls : Nat) (holdover : Bool) (a : Nat) : BitVec 192 :=
  0#80 ++ BitVec.ofNat 80 a ++ 0#1 ++ BitVec.ofBool holdover ++ BitVec.ofNat 2 cls ++ BitVec.ofNat 10 source ++ BitVec.ofNat 4 hops ++ seq ++
    BitVec.ofNat 2 kind ++ 1#4

/-- A time-sync flit queued on port p; its transmit stamp is inserted when its block is built (R272). -/
def State.queueSync (s : State) (p : Nat) (f : BitVec 192) : State :=
  if (s.port p).state = .connected then s.setPort p { s.port p with syncOut := (s.port p).syncOut ++ [f] } else s

/-- TIME_SYNC_REQUEST: answered with t2, its receive time, and t3, inserted at transmission (R272). -/
def execTimeSyncRequest (p : BitVec 3) (s : State) : Host.Outcome State Fault Refusal :=
  match s.takeSync p.toNat 0 with
  | none => .next s
  | some ((f, t2), s) => .next (s.queueSync p.toNat (syncFlit 1 (f.extractLsb' 6 8) 0 0 0 false t2))

/-! ### Following -/

/-- The part's frequency error in units of 2⁻³² ns a nanosecond, within the ±50 ppm of Table 13.1 (assumption 5). -/
def frequencyError : Int := (Config.refclkError % 429497 : Nat) - (214748 : Int)

/-- A rate correction within ±858,993 (R264). -/
def boundRate (c : Int) : Int := max (-858993) (min 858993 c)

/-- The rate correction after an offset is folded in: the loop of 20 Hz bandwidth is not laid down beyond its limits, so the value is free
within ±858,993 (R264), and in LIVE within 100 ppm of what makes up for the part's frequency error (R268, R272; assumption 5). -/
def State.slew (s : State) : State :=
  let (n, s) := s.fresh
  let c : Int := if s.startStep = 10 then boundRate ((Config.freeCount n % 858993 : Nat) - (429496 : Int) - frequencyError)
    else (Config.freeCount n % 1717987 : Nat) - (858993 : Int)
  { s with time := { s.time with c := c } }

/-- What the collector keeps of events, cleared: counts, promotion, statuses, the first-fault record, events on their way (R296;
assumption 95). The logbook and the event counters of Table 15.9 stand. -/
def State.clearRecords (s : State) : State :=
  let before := s.anyPending
  let s := { s with
    objs := s.objs.filter (fun x => !statusKey x.1),
    col := { s.col with
      detected := [], queues := [], taken := [], windows := [], promotedAt := [], alerts := [], record := 0, full := false, closed := 0,
      rate := (0, 0), emcyRate := (0, 0), errors := [] } }
  s.afterClear before

/-- The counter stepped by an offset in stamp units (R268, R269): the collector's records start anew (R296). -/
def State.stepTime (s : State) (offset : Int) : State :=
  ({ s with time := { s.time with value := s.time.value + BitVec.ofInt 96 (offset * 65536), stepped := true } }).clearRecords

/-- A source whose offset exceeds 1 µs in LIVE: own time kept, a level-2 time conflict when it is new (R268). -/
def State.timeConflict (s : State) (source : Nat) : State :=
  if s.time.conflict = some source then s
  else ({ s with time := { s.time with conflict := some source } }).raise timeSrc 0x38 2 source 0

/-- Time lock after 16 exchanges within 2 ns; a TMSTR part that followed a class-2 source becomes a source itself (R267, R268). -/
def State.checkLock (s : State) : State :=
  if s.time.good < 16 then s else
  let s := { s with time := { s.time with locked := true } }
  let s := if s.straps.tmstr ∧ s.time.cls = 2 ∧ s.time.role = .follower ∧ 9 ≤ s.startStep then s.becomeMaster else s
  s.goLive

/-- An exchange on the upstream port completed with an offset in stamp units (R268, R272). -/
def State.exchange (s : State) (offset : Int) : State :=
  let s := { s with time := { s.time with offset := offset * 1000 / nsUnits, asked := none } }
  let live := decide (s.startStep = 10)
  if live ∧ 1000 * nsUnits < offset.natAbs then (({ s with time := { s.time with good := 0 } }).timeConflict s.time.source)
  else
    let s := { s with time := { s.time with conflict := none } }
    let s := if ¬ live ∧ ¬ s.time.stepped then s.stepTime offset else s.slew
    let s := { s with time := { s.time with good := if (offset.natAbs : Int) ≤ 2 * nsUnits then s.time.good + 1 else 0 } }
    s.checkLock

/-- A response discarded and counted; one whose request was given up has been counted then (R272). -/
def TimeBase.loseResponse (t : TimeBase) (seq : BitVec 8) : TimeBase :=
  if t.gaveUp = some seq then { t with gaveUp := none } else { t with lost := t.lost + 1 }

/-- TIME_SYNC_RESPONSE on port p: one that is not awaited is discarded and counted (R272). -/
def State.syncResponseStep (s : State) (p : Nat) : State :=
  match s.takeSync p 1 with
  | none => s
  | some ((f, t4), s) =>
    match s.time.asked with
    | some (n, t1) =>
      if s.time.upstream ≠ some (BitVec.ofNat 3 p) ∨ n ≠ f.extractLsb' 6 8 then { s with time := s.time.loseResponse (f.extractLsb' 6 8) } else
      let t2 : Int := (f.extractLsb' 32 80).toNat
      let t3 : Int := (f.extractLsb' 112 80).toNat
      let asym := signedOf 16 (s.obj (0x2208 + p) 1) * nsUnits / 1000
      let s := { s with time := { s.time with delay := ((t4 - t1) - (t3 - t2)) / 2 } }
      s.exchange (((t2 - t1) - (t4 - t3)) / 2 + asym)
    | none => { s with time := s.time.loseResponse (f.extractLsb' 6 8) }

/-- TIME_SYNC_RESPONSE (R272). -/
def execTimeSyncResponse (p : BitVec 3) (s : State) : Host.Outcome State Fault Refusal := .next (s.syncResponseStep p.toNat)

/-- SYNC_REQUEST_TIMER: every 16 µs a request goes out on the upstream port (R272). -/
def State.syncTimer (s : State) : State :=
  match s.time.upstream with
  | none => s
  | some p =>
    let n := s.time.seq
    ({ s with time := { s.time with seq := n + 1, asked := some (n, s.stamp) } }).queueSync p.toNat (syncFlit 0 n 0 0 0 false 0)

/-- SYNC_REQUEST_TIMER (R272). -/
def execSyncRequestTimer (s : State) : Host.Outcome State Fault Refusal := .next s.syncTimer

/-- SYNC_RESPONSE_TIMEOUT: the response awaited is given up and counted (R272). -/
def execSyncResponseTimeout (s : State) : Host.Outcome State Fault Refusal :=
  .next (match s.time.asked with
    | some (n, _) => { s with time := { s.time with asked := none, lost := s.time.lost + 1, gaveUp := some n } }
    | none => s)

/-! ### Announces -/

/-- ANNOUNCE on port p: ignored from a bridge or speed adapter (R266). -/
def State.announceStep (s : State) (p : Nat) : State :=
  match s.takeSync p 2 with
  | none => s
  | some ((f, _), s) =>
    if 2 ≤ (s.port p).kind then s else
    let a := ((f.extractLsb' 28 2).toNat, (f.extractLsb' 18 10).toNat, (f.extractLsb' 14 4).toNat, f.getLsbD 30)
    (s.setPort p { s.port p with announced := some a }).selectSource

/-- ANNOUNCE (R266). -/
def execAnnounce (p : BitVec 3) (s : State) : Host.Outcome State Fault Refusal := .next (s.announceStep p.toNat)

/-- What the part announces on port p: its own rank, or the best it hears on its other ports with one more hop; a rank at 15 hops
goes no further (R266, Table 13.5). -/
def State.announceFor (s : State) (p : Nat) : Option (BitVec 192) :=
  if s.time.isSource then some (syncFlit 2 0 0 s.devId s.time.cls (s.time.role == .holdover) 0)
  else
    match s.bestAnnounce (fun q => q != p) with
    | some (_, c, d, h, o) => if h < 15 then some (syncFlit 2 0 (h + 1) d c o 0) else none
    | none => none

/-- ANNOUNCE_TIMER: every 16 µs, on every connected port (R266). -/
def State.announceTimerStep (s : State) : State :=
  (List.range 8).foldl (fun s p => match s.announceFor p with | some f => s.queueSync p f | none => s) s

/-- ANNOUNCE_TIMER (R266). -/
def execAnnounceTimer (s : State) : Host.Outcome State Fault Refusal := .next s.announceTimerStep

/-- ANNOUNCE_TIMEOUT: 128 µs without an announce on port p (R267). -/
def execAnnounceTimeout (p : BitVec 3) (s : State) : Host.Outcome State Fault Refusal := .next (s.dropAnnounce p.toNat)

/-- BACKUP_TAKEOVER: a TBKUP part that hears no source of class 0 or 1 takes over with its present time and rate (R267). -/
def State.backupStep (s : State) : State :=
  let heard : Bool := match s.bestAnnounce (fun _ => true) with | some (_, c, _) => decide (c < 2) | none => false
  if s.straps.tbkup ∧ ¬ s.straps.tmstr ∧ ¬ heard ∧ ¬ s.time.takenOver then
    { s with time := { s.time with
        takenOver := true, role := .backup, cls := 2, upstream := none, source := s.devId, hops := 0, asked := none, good := 0, conflict := none } }
  else s

/-- BACKUP_TAKEOVER (R267). -/
def execBackupTakeover (s : State) : Host.Outcome State Fault Refusal := .next s.backupStep

/-! ### External inputs -/

/-- The class of a source follows the validity of its external reference; when that is lost the rate is held (R266, R270). -/
def State.externalChange (s : State) : State :=
  if s.time.master then
    if s.externalValid then { s with time := { s.time with role := .master0, cls := 0 } }
    else if s.time.cls = 0 then ({ s with time := { s.time with role := .holdover, cls := 1 } }).selectSource
    else s
  else s

/-- TB_10M_IN_EDGE: valid after 1 s within tolerance (R269). -/
def execTb10mInEdge (inTolerance : Bool) (s : State) : Host.Outcome State Fault Refusal :=
  let now := s.now
  let t := s.time
  let since := t.ext10.getD now
  .next (({ s with time := if inTolerance then
      { t with ext10 := some since, ext10Last := some now, ext10Valid := t.ext10Valid || decide (since + 10 ^ 9 ≤ now) }
    else { t with ext10 := none, ext10Last := some now, ext10Valid := false } }).externalChange)

/-- TB_10M_IN_LOSS: 2 µs without an edge (R269). -/
def execTb10mInLoss (s : State) : Host.Outcome State Fault Refusal :=
  .next (({ s with time := { s.time with ext10 := none, ext10Valid := false } }).externalChange)

/-- How far the counter stands past the nearest second boundary, in stamp units. -/
def State.ppsPhase (s : State) : Int :=
  let second := 10 ^ 9 * 65536
  let r := s.stamp % second
  if 2 * r < second then r else (r : Int) - second

/-- A TMSTR part in CONFIG follows nothing, or a source of class 0 or 1 whose rank is worse than its own; one of class 2 it follows until it
has held its time (R266, R267). -/
def State.outranks (s : State) : Bool :=
  s.time.upstream.isNone ||
    (s.time.cls != 2 && announceBetter (s.masterClass, s.devId, s.time.hops, false) (s.time.cls, s.time.source, s.time.hops, false))

/-- What a PPS edge does to the time of a TMSTR part that uses its inputs (R268, R269). -/
def State.ppsDiscipline (s : State) : State :=
  if ¬ s.usesExternal ∨ ¬ s.time.ppsValid then s
  else if s.dev = .config ∧ s.startStep = 9 ∧ s.externalValid ∧ ¬ s.time.isSource ∧ s.outranks then
    ((s.stepTime (-s.ppsPhase)).becomeMaster).goLive
  else if ¬ s.time.master then s
  else if (s.ppsPhase).natAbs ≤ 1000 * 65536 then ({ s with time := { s.time with conflict := none } }).slew
  else s.timeConflict s.devId

/-- TB_PPS_IN_EDGE: valid after 3 edges 1 s ± 1 µs apart (R269). -/
def State.ppsEdge (s : State) : State :=
  let now := s.now
  let t := s.time
  let good := match t.ppsLast with | some l => decide (l + 10 ^ 9 ≤ now + 1000) && decide (now ≤ l + 10 ^ 9 + 1000) | none => false
  let n := if good then t.pps + 1 else 1
  (({ s with time := { t with ppsLast := some now, pps := n, ppsValid := t.ppsValid || decide (3 ≤ n) } }).externalChange).ppsDiscipline

/-- TB_PPS_IN_EDGE (R269). -/
def execTbPpsInEdge (s : State) : Host.Outcome State Fault Refusal := .next s.ppsEdge

/-- TB_PPS_IN_LOSS: 1.5 s without an edge (R269). -/
def execTbPpsInLoss (s : State) : Host.Outcome State Fault Refusal :=
  .next (({ s with time := { s.time with pps := 0, ppsValid := false } }).externalChange)

/-! ### Waits of step 9 -/

/-- EXTERNAL_WAIT_TIMEOUT: 4 s in CONFIG without valid inputs, a level-1 event, and a TMSTR part runs free as class 1, unless it follows a
source that it may follow (R266, R267, R269). -/
def execExternalWaitTimeout (s : State) : Host.Outcome State Fault Refusal :=
  .next (if s.dev = .config ∧ s.startStep = 9 ∧ s.usesExternal ∧ ¬ s.externalValid ∧ ¬ s.time.isSource then
    let s := s.raise timeSrc 0x39 1 s.devId 0
    if s.outranks then s.becomeMaster.goLive else s
  else s)

/-- NO_SOURCE_TIMEOUT: 10 ms without a source, the part runs free: unlocked, or a TMSTR part as class 1 (R266, R268). -/
def execNoSourceTimeout (s : State) : Host.Outcome State Fault Refusal :=
  .next (if s.startStep = 9 ∧ s.time.upstream.isNone ∧ ¬ s.usesExternal then (if s.straps.tmstr then s.becomeMaster else s).goLive else s)

end Sys2Proof.Machine
end

