-- ==== Sys2Proof/Machine/Targets.lean ====
section
/-! DEFINITION. Requests served at their targets and responses completing at their requesters (R116, R117, R180 to R190, R197,
R201, R202, R214, R215, R219, R222, R223, R252, R352, R374, R376). -/

namespace Sys2Proof.Machine

/-! ### Targets -/

/-- Number of a target in the pools: its router. -/
def targetNumber (t : Target) : Nat := targetRouter t

/-- Requests waiting at a target. -/
def State.requests (s : State) (t : Target) : List Pkt :=
  match t with
  | .cluster c => (s.cluster c.toNat).reqQ
  | .hbm n => tget [] s.hbmQ n.toNat
  | .service => s.svcReq

/-- Request opcode of a head: the reserved ones are taken by READ's row and answered ADDR (R214). -/
def requestOp (h : BitVec 96) : Nat := if 1 ≤ hdOp h ∧ hdOp h ≤ 5 then hdOp h else 1

/-- The requester of a cluster-store bank: 0 to 15 the far port of an engine, 16 the network port (R181). -/
def State.bankRequester (s : State) (p : Pkt) : Nat :=
  match p.inj with
  | some _ => 16
  | none => ((s.physical (ctlEngine p.ctl)).getD 0) % 16

/-- The bank of a request's first word; 16 for a sluice, which only the network port asks for (R180, R181). -/
def requestBank (p : Pkt) : Nat := if hdSpace p.head = 3 then 16 else hdOffset p.head % 16

/-- The first request of each requester, in order of arrival. -/
def State.portHeads (s : State) : List Nat → List Pkt → List Pkt
  | _, [] => []
  | seen, p :: l =>
    let r := s.bankRequester p
    if seen.contains r then State.portHeads s seen l else p :: State.portHeads s (r :: seen) l

/-- Places from the requester that bank b of cluster c served last to requester r, round (R181). -/
def State.bankTurn (s : State) (c b r : Nat) : Nat := (r + 16 - tget 16 (s.cluster c).turn b) % 17

/-- The request of opcode `op` that a cluster serves next, and the requests without it: each requester's own in order, and at a bank the
requesters round-robin (R181). -/
def State.clusterRequest (s : State) (c op : Nat) : Option (Pkt × List Pkt) :=
  let q := (s.cluster c).reqQ
  let heads := s.portHeads [] q
  let first := fun (p : Pkt) => heads.all (fun z =>
    requestBank z != requestBank p || decide (s.bankTurn c (requestBank p) (s.bankRequester p) ≤ s.bankTurn c (requestBank p) (s.bankRequester z)))
  match heads.find? (fun p => requestOp p.head == op && first p) with
  | none => none
  | some p => takeFirst (fun z => s.bankRequester z == s.bankRequester p) q

/-- Request p of n words touches an HBM line that z touches (R183, R189). -/
def shareLine (p z : Pkt) : Bool :=
  decide (hdOffset p.head / 6 ≤ (hdOffset z.head + hdLen z.head - 1) / 6) && decide (hdOffset z.head / 6 ≤ (hdOffset p.head + hdLen p.head - 1) / 6)

/-- Request p may be served before the earlier ones: none touches one of its lines (R189), and a SYNC passes no request of its pool
(R222). -/
def mayPass (earlier : List Pkt) (p : Pkt) : Bool :=
  earlier.all (fun z => if hdOp p.head = 5 ∨ hdOp z.head = 5 then z.inj != p.inj else !shareLine p z)

/-- The request that an HBM controller serves next, and those without it: the highest urgency first and the oldest first among equal
urgency (R188). `earlier` holds the requests already passed over, newest first. -/
def hbmNext : List Pkt → List Pkt → Option (Pkt × List Pkt)
  | _, [] => none
  | earlier, p :: l =>
    match mayPass earlier p, hbmNext (p :: earlier) l with
    | true, some (z, r) => if ctlUrgency p.ctl < ctlUrgency z.ctl then some (z, p :: r) else some (p, l)
    | true, none => some (p, l)
    | false, some (z, r) => some (z, p :: r)
    | false, none => none

/-- The request of opcode `op` that a target serves now, and its requests without it (R181, R188, R189). -/
def State.nextRequest (s : State) (t : Target) (op : Nat) : Option (Pkt × List Pkt) :=
  match t with
  | .cluster c => s.clusterRequest c.toNat op
  | .hbm n => (hbmNext [] (tget [] s.hbmQ n.toNat)).filter (fun x => requestOp x.1.head == op)
  | .service =>
    match s.svcReq with
    | [] => none
    | p :: l => if requestOp p.head = op then some (p, l) else none

/-- Request p taken by a target, whose other requests are l; a bank's turn passes to its requester (R181). -/
def State.takeRequest (s : State) (t : Target) (p : Pkt) (l : List Pkt) : State :=
  match t with
  | .cluster c =>
    let y := s.cluster c.toNat
    s.setCluster c.toNat { y with reqQ := l, turn := tput 16 (requestBank p) (s.bankRequester p) y.turn }
  | .hbm n => { s with hbmQ := tput [] n.toNat l s.hbmQ }
  | .service => { s with svcReq := l }

/-- The target is powered: its domain LIVE, QUIESCE or DRAIN (R279, Table 14.3). -/
def State.targetRuns (s : State) (t : Target) : Bool :=
  match t with
  | .cluster c => s.clusterRuns c.toNat
  | .hbm n => let d := (s.domain (32 + n.toNat)).state
    d == .live || d == .quiesce || d == .drain
  | .service => true

/-- Fault source of a target's transit checks (Table 15.1). -/
def targetSrc (t : Target) : Nat :=
  match t with
  | .cluster c => srcId 17 c.toNat
  | .hbm n => srcId 20 n.toNat
  | .service => srcId 25 0

/-- Source and level under which a requester's uncorrectable read or poisoned write is reported (R291, Tables 10.4, 10.7); a
requester on another device has no source here, so the memory's own stands in. -/
def State.requesterSrc (s : State) (p : Pkt) (own : Nat) : Nat × Nat :=
  let src := srcOf p.ctl
  if src.device ≠ s.devId then (own, 3)
  else if src.node = 0x3FFF then (if src.engine = 3 then srcId 22 0 else srcId 25 0, 2)
  else match s.physical src.engine with
    | some g => (g, 3)
    | none => (own, 3)

/-- An uncorrectable read reported under its requester (R197, R291). -/
def State.reportRead (s : State) (who : Nat × Nat) (adr mem : Nat) (d i u : Bool) : State :=
  s.raiseFull who.1 0x02 who.2 adr (mem + (if d then 1024 else 0)) i u

/-- Words of a cluster store read for a requester. -/
def State.readStores (s : State) (who : Nat × Nat) (c : Nat) : Nat → Nat → Option (List Word) × State
  | _, 0 => (some [], s)
  | o, n + 1 =>
    match s.readStore c o with
    | (.bad d i u, s) => (none, s.reportRead who o (srcId 16 c) d i u)
    | (.ok w, s) =>
      match State.readStores s who c (o + 1) n with
      | (none, s) => (none, s)
      | (some l, s) => (some (w :: l), s)

/-- Words of a local store read through the cluster port for a requester. -/
def State.readPort (s : State) (who : Nat × Nat) (g : Nat) : Nat → Nat → Option (List Word) × State
  | _, 0 => (some [], s)
  | a, n + 1 =>
    match s.readLocal g a 31 with
    | (.bad d i u, s) => (none, s.reportRead who a g d i u)
    | (.ok w, s) =>
      match State.readPort s who g (a + 1) n with
      | (none, s) => (none, s)
      | (some l, s) => (some (w :: l), s)

/-- Words of HBM read for a requester. -/
def State.readMem (s : State) (who : Nat × Nat) (w n : Nat) : Option (List Word) × State :=
  match s.readHbms who.1 w n with
  | (.inl (a, d, i, u), s) => (none, s.reportRead who (a / 6) (srcId 20 (stackOf (a / 6))) d i u)
  | (.inr l, s) => (some l, s)

/-- Words of a cluster store written: 0, or BUS where one lies in a retired bank, which takes none (R208; assumption 99). -/
def State.writeStores (s : State) (c : Nat) : Nat → List Word → Nat × State
  | _, [] => (0, s)
  | o, w :: l =>
    let retired := s.retiredBank c (o % 16)
    let (e, s) := State.writeStores (if retired then s else s.writeStore c o w) c (o + 1) l
    (if retired then 4 else e, s)

/-- Words of an engine's sluice written through its network port: 0, or BUS where its page is retired (R208; assumption 99). -/
def State.writePort (s : State) (g a : Nat) (l : List Word) : Nat × State :=
  if (List.range l.length).any (fun i => s.retiredPage g (a + i)) then (4, s) else (0, s.writeLocals g a l)

/-! ### Addresses -/

/-- Where a request's words lie at its target. -/
inductive Place where
  | store (c o : Nat)
  | sluice (g a : Nat)
  | hbm (w : Nat)
  | status (n : Nat)
  deriving DecidableEq, Repr

/-- Place of a request of n words at cluster c (Table 5.11). -/
def State.clusterPlace (s : State) (c : Nat) (p : Pkt) (n : Nat) : Place :=
  let o := hdOffset p.head
  match hdSpace p.head with
  | 0 => if o + n ≤ 2 ^ 19 ∧ p.inj = none then .store c o else .status 6
  | 1 => if o < 2 ^ 34 ∧ o % 2 ^ 19 + n ≤ 2 ^ 19 then .store c (o % 2 ^ 19) else .status 6
  | 3 =>
    if o < 2 ^ 30 ∧ o % 2048 + n ≤ 2048 then .sluice (p.engine.getD (s.physicalAt c (o / 2 ^ 11) (ctlGen p.ctl))) (0x1F800 + o % 2048) else .status 6
  | _ => .status 6

/-- Place of a request of n words in HBM: engines only in design memory of their flight (R116, R187). ADDR goes before ACC where both hold: the
manual does not order them (DESIGN CHOICE, assumption 103). -/
def State.hbmPlace (s : State) (p : Pkt) (n : Nat) (write : Bool) : Place :=
  let o := hdOffset p.head
  if hdSpace p.head ≠ 2 ∨ 28991029248 < o + n then .status 6
  else
    match s.regionAt o with
    | none => .status 5
    | some r =>
      let x := s.region r
      let allowed := if hdNamed p.head then decide (x.kind = 1 ∧ x.flight = hdFlight p.head)
        else x.host && decide (x.kind = 1 ∨ x.kind = 2 ∨ (¬ write ∧ (x.kind = 3 ∨ x.kind = 5)))
      if allowed ∧ o + n ≤ x.base + x.length then .hbm o else .status 5

/-- Place of a request at its target. -/
def State.place (s : State) (t : Target) (p : Pkt) (n : Nat) (write : Bool) : Place :=
  match t with
  | .cluster c => s.clusterPlace c.toNat p n
  | .hbm _ => s.hbmPlace p n write
  | .service => .status 6

/-! ### Serving -/

/-- Byte i of a slot: of the image written into it, else of the image the part is shipped with (assumption 7). -/
def FwSlot.byte (x : FwSlot) (i : Nat) : BitVec 8 :=
  match x.image with
  | [] => if x.state = 1 then Config.factoryByte i else 0
  | l => l.getD i 0

/-- Version of a slot. -/
def FwSlot.versionOf (x : FwSlot) : BitVec 32 := if x.image.isEmpty ∧ x.state = 1 then Config.factoryVersion else x.version

/-- Firmware slot k: 0 A, 1 B. -/
def State.slot (s : State) (k : Nat) : FwSlot := s.fw.slots.toList.getD k { state := 0, version := 0, image := [] }

/-- Bytes of the running firmware image (R352). -/
def State.imageByte (s : State) (i : Nat) : BitVec 8 :=
  if s.fw.running ≤ 1 then (s.slot s.fw.running).byte i
  else BitVec.ofNat 8 (tget 0 s.fw.ram i)

/-- Word n of the boot image: bytes 4n to 4n + 3 (R352). -/
def State.imageWord (s : State) (n : Nat) : Word :=
  0#4 ++ s.imageByte (4 * n + 3) ++ s.imageByte (4 * n + 2) ++ s.imageByte (4 * n + 1) ++ s.imageByte (4 * n)

/-- A READ served by the management controller: a boot image to a port's partner, ACC to any other in space 0xF (R352). -/
def State.serveBoot (s : State) (p : Pkt) : State :=
  let fromPort : Bool := match p.inj with | some k => decide (36 ≤ k ∧ k < 44) | none => false
  if hdSpace p.head ≠ 15 then s.answer 45 p 6 []
  else if fromPort ∧ s.dev = .live ∧ s.obj 0x2190 7 = 1 then
    s.answer 45 p 0 ((List.range (hdLen p.head)).map (fun i => s.imageWord (hdOffset p.head + i)))
  else s.answer 45 p 5 []

/-- A READ served (R214). -/
def State.serveRead (s : State) (t : Target) (p : Pkt) : State :=
  let k := targetRouter t
  let n := hdLen p.head
  let reply := fun (x : Option (List Word) × State) => match x with
    | (some l, s) => s.answer k p 0 l
    | (none, s) => s.answer k p 4 []
  match t with
  | .service => s.serveBoot p
  | _ =>
    match s.place t p n false with
    | .status m => s.answer k p m []
    | .store c o => reply (s.readStores (s.requesterSrc p (srcId 16 c)) c o n)
    | .sluice g a => reply (s.readPort (s.requesterSrc p g) g a n)
    | .hbm w => reply (s.readMem (s.requesterSrc p (srcId 20 (stackOf (w / 6)))) w n)

/-- A trace record that its engine has sent (R374): the write of six words whose offset names the buffer (assumption 12). -/
def State.serveTrace (s : State) (p : Pkt) (ws : List Word) : State :=
  if hdTag p.head = traceTag ∧ ctlDevice p.ctl = s.devId ∧ ¬ ctlUnit p.ctl then
    let w := fun i => ws.getD i 0
    (s.takeRecord (hdOffset p.head) (w 5 ++ w 4 ++ w 3 ++ w 2 ++ w 1 ++ w 0)).answer 45 p 0 []
  else if hdSpace p.head = 15 then s.answer 45 p 5 []
  else s.answer 45 p 6 []

/-- A WRITE served (R202, R214). -/
def State.serveWrite (s : State) (t : Target) (p : Pkt) (ws : List Word) : State :=
  let k := targetRouter t
  match t with
  | .service => s.serveTrace p ws
  | _ =>
    match s.place t p (hdLen p.head) true with
    | .status m => s.answer k p m []
    | .store c o => let (e, s) := s.writeStores c o ws; s.answer k p e []
    | .sluice g a => let (e, s) := s.writePort g a ws; s.answer k p e []
    | .hbm w =>
      let who := s.requesterSrc p (srcId 20 (stackOf (w / 6)))
      let (o, s) := s.writeHbm w ws who.1 who.2
      s.answer k p (match o with | .done => 0 | .poisoned => 1 | .bus => 4) []

/-- A far atomic served at a cluster-store bank: the old word answered, f of it stored (R181, R190). -/
def State.serveAtomic (s : State) (t : Target) (p : Pkt) (f : Word → Word) : State :=
  let k := targetRouter t
  match s.place t p 1 true with
  | .store c o =>
    match s.readStore c o with
    | (.bad d i u, s) => (s.reportRead (s.requesterSrc p (srcId 16 c)) o (srcId 16 c) d i u).answer k p 4 []
    | (.ok w, s) => (s.writeStore c o (f w)).answer k p 0 [w]
  | .status m => s.answer k p m []
  | _ => s.answer k p 6 []

/-- The pool's flits still occupied: requests of the same router that wait at the target (R222). -/
def State.poolFlits (s : State) (t : Target) (k : Option Nat) : Nat :=
  (((s.requests t).filter (fun p => p.inj == k && hdOp p.head != 5)).map (fun p => 1 + p.data.length)).sum

/-- Data flits of a request checked (Table 11.6). -/
def State.checkData (s : State) (t : Target) : List (BitVec 192) → CodeCheck × State
  | [] => ({ bad := false, injected := false, during := false }, s)
  | f :: l =>
    let (c, s) := match t with
      | .cluster n => s.checkCode (srcId 17 n.toNat) 2 (dataSyndrome f).toNat
      | _ => ({ bad := dataSyndrome f != 0, injected := false, during := false }, s)
    if c.bad then (c, s) else State.checkData s t l

/-- The request of opcode `op` that a target serves now (R181, R188, R189, R214, R215). Bits [83:74] of its header, which are reserved, are not
looked at: the manual does not say what non-zero ones do (DESIGN CHOICE, assumption 102). -/
def State.serve (s : State) (t : Target) (op : Nat) : State :=
  match s.nextRequest t op with
  | none => s
  | some (p, l) =>
    if ¬ (s.targetRuns t ∨ op = 5) then s else
    let s := s.takeRequest t p l
    let k := targetRouter t
    let checked : Bool := match t with | .cluster _ => false | _ => true
    if checked ∧ headSyndrome p.head ≠ 0 then (s.discard (targetSrc t)).raise (targetSrc t) 0x23 1 (sourceField p.ctl) (hdTag p.head).toNat
    else if ¬ (1 ≤ hdOp p.head ∧ hdOp p.head ≤ 5) then s.answer k p 6 []
    else
      let (c, s) := if p.inj.isSome then s.checkData t p.data else ({ bad := false, injected := false, during := false }, s)
      if c.bad then
        (s.raiseFull (targetSrc t) 0x23 1 (sourceField p.ctl) (hdTag p.head).toNat c.injected c.during).answer k p 2 []
      else
        let ws := flitWords p.data (hdLen p.head)
        match op with
        | 1 => s.serveRead t p
        | 2 => s.serveWrite t p ws
        | 3 => s.serveAtomic t p (fun w => w + ws.getD 0 0)
        | 4 => s.serveAtomic t p (fun _ => ws.getD 0 0)
        | _ => s.respond k p 0x25 (s.poolFlits t p.inj) 0 []

/-- READ (R116, R183, R197, R214). -/
def execReadReq (t : Target) (s : State) : Host.Outcome State Fault Refusal := .next (s.serve t 1)
/-- WRITE (R198, R202, R214). -/
def execWriteReq (t : Target) (s : State) : Host.Outcome State Fault Refusal := .next (s.serve t 2)
/-- XADD (R177, R181, R214). -/
def execXaddRequest (t : Target) (s : State) : Host.Outcome State Fault Refusal := .next (s.serve t 3)
/-- SWAP (R177, R181, R214). -/
def execSwapRequest (t : Target) (s : State) : Host.Outcome State Fault Refusal := .next (s.serve t 4)
/-- SYNC (R222). -/
def execSync (t : Target) (s : State) : Host.Outcome State Fault Refusal := .next (s.serve t 5)

/-! ### Responses -/

/-- Responses waiting at a requester. -/
def State.responses (s : State) (d : RspDst) : List Pkt :=
  match d with
  | .engine g => (s.engine g.toNat).rspIn
  | .host => s.host.rspIn
  | .service => s.svcRsp

/-- The first response taken. -/
def State.popResponse (s : State) (d : RspDst) : State :=
  match d with
  | .engine g => s.setEngine g.toNat { s.engine g.toNat with rspIn := (s.engine g.toNat).rspIn.drop 1 }
  | .host => { s with host := { s.host with rspIn := s.host.rspIn.drop 1 } }
  | .service => { s with svcRsp := s.svcRsp.drop 1 }

/-- Fault source of a requester's transit checks (Table 15.1). -/
def requesterUnit (d : RspDst) : Nat :=
  match d with
  | .engine g => srcId 17 (clusterOf g.toNat)
  | .host => srcId 22 0
  | .service => srcId 25 0

/-- The header of a response checked; one that came by the crossbar carries none (R181, Table 15.1: class 17 checker 1, class 22
checker 0). -/
def State.checkResponse (s : State) (d : RspDst) (p : Pkt) : CodeCheck × State :=
  if p.inj = none then ({ bad := false, injected := false, during := false }, s) else
  match d with
  | .engine g => s.checkCode (srcId 17 (clusterOf g.toNat)) 1 (headSyndrome p.head).toNat
  | .host => s.checkCode (srcId 22 0) 0 (headSyndrome p.head).toNat
  | .service => ({ bad := headSyndrome p.head != 0, injected := false, during := false }, s)

/-- The data of a response checked. -/
def State.checkResponseData (s : State) (d : RspDst) (p : Pkt) : CodeCheck × State :=
  match d with
  | .engine g =>
    if p.inj = none then ({ bad := false, injected := false, during := false }, s)
    else s.checkData (.cluster (BitVec.ofNat 5 (clusterOf g.toNat))) p.data
  | _ => ({ bad := p.data.any (fun f => dataSyndrome f != 0), injected := false, during := false }, s)

/-- The oldest trace record sent and answered (R374). -/
def State.traceDone (s : State) (g : Nat) : State := s.setTu g { s.tu g with trace := (s.tu g).trace.drop 1 }

/-- A segment of engine g completed with TMO, and the SYNC of its pool wanted (R222, R223). -/
def State.segmentTimeout (s : State) (g k : Nat) : State :=
  let x := (s.core g).segment k
  let s := s.setCore g ((s.core g).completeSegment k 2 [])
  s.wantSync x.dest (clusterOf g) (s.logical g s.noc.gen) 0

/-- A response of a far transaction at engine g (R117, R215, R222): its tag names the segment; one whose tag has timed out is
discarded and counted. A TMO that the target reports has its pool synchronised too (R222). -/
def State.engineResponse (s : State) (g : Nat) (p : Pkt) (badData : Bool) : State :=
  if hdTag p.head = traceTag then (if hdOp p.head = 0x22 then s.traceDone g else s) else
  let k := (hdTag p.head).toNat % 4
  let x := (s.core g).segment k
  if ¬ x.outstanding ∨ x.tag ≠ hdTag p.head then s.discard (srcId 17 (clusterOf g))
  else if badData ∨ hdStatus p.head = 2 then s.segmentTimeout g k
  else s.setCore g ((s.core g).completeSegment k (hdStatus p.head) (flitWords p.data x.len))

/-- The response at the head of a requester's queue, when its opcode is `op`. -/
def State.takeResponse (s : State) (d : RspDst) (op : Nat) : State :=
  match s.responses d with
  | [] => s
  | p :: _ =>
    if hdOp p.head ≠ op then s else
    let s := s.popResponse d
    let (h, s) := s.checkResponse d p
    let unit := requesterUnit d
    if h.bad then (s.discard unit).raiseFull unit 0x23 1 (sourceField p.ctl) (hdTag p.head).toNat h.injected h.during
    else
      let (c, s) := s.checkResponseData d p
      let s := if c.bad then s.raiseFull unit 0x23 1 (sourceField p.ctl) (hdTag p.head).toNat c.injected c.during else s
      match d with
      | .engine g => s.engineResponse g.toNat p c.bad
      | _ => s

/-- WRITE_RSP (R117, R215). -/
def execWriteRsp (d : RspDst) (s : State) : Host.Outcome State Fault Refusal := .next (s.takeResponse d 0x22)
/-- XADD_RSP (R117, R215). -/
def execXaddRsp (d : RspDst) (s : State) : Host.Outcome State Fault Refusal := .next (s.takeResponse d 0x23)
/-- SWAP_RSP (R117, R215). -/
def execSwapRsp (d : RspDst) (s : State) : Host.Outcome State Fault Refusal := .next (s.takeResponse d 0x24)

/-- Router whose pools a requester draws on. -/
def requesterRouter (d : RspDst) : Nat :=
  match d with
  | .engine g => clusterOf g.toNat
  | .host => 44
  | .service => 45

/-- SYNC_RSP: the pool's credits in use become the occupancy that its target reports, and its SYNC slot is free (R222). The tag names the target's router. -/
def State.syncResponse (s : State) (d : RspDst) : State :=
  match s.responses d with
  | [] => s
  | p :: _ =>
    if hdOp p.head ≠ 0x25 then s else
    let s := s.popResponse d
    let (h, s) := s.checkResponse d p
    if h.bad then (s.discard (requesterUnit d)).raiseFull (requesterUnit d) 0x23 1 (sourceField p.ctl) (hdTag p.head).toNat h.injected h.during
    else
      let key := 64 * ((hdTag p.head).toNat / 4) + requesterRouter d
      let n := s.noc
      { s with noc := { n with poolUsed := tput 0 key (min 28 (hdOffset p.head % 65536)) n.poolUsed, syncUsed := tput 0 key 0 n.syncUsed } }

/-- SYNC_RSP (R222). -/
def execSyncRsp (d : RspDst) (s : State) : Host.Outcome State Fault Refusal := .next (s.syncResponse d)

/-- A SYNC that has timed out: its slot is freed and it is sent anew (R222, R223). The tag names its target. -/
def State.syncTimeout (s : State) (d : RspDst) (tag : BitVec 12) : State :=
  let key := 64 * (tag.toNat / 4) + requesterRouter d
  if tag.toNat % 4 ≠ 0 ∨ tget 0 s.noc.syncUsed key = 0 then s else
  let s := { s with noc := { s.noc with syncUsed := tput 0 key 0 s.noc.syncUsed } }
  match d with
  | .engine g => s.wantSync (tag.toNat / 4) (clusterOf g.toNat) (s.logical g.toNat s.noc.gen) 0
  | .host => s.wantSync (tag.toNat / 4) 44 3 0x3FFF
  | .service => s.wantSync (tag.toNat / 4) 45 1 0x3FFF

/-- INITIATOR_TIMEOUT: the transaction of a tag completes TMO, its buffer is freed, its pool is to be synchronised (R222, R223). -/
def State.initiatorTimeoutStep (s : State) (d : RspDst) (tag : BitVec 12) : State :=
  match d with
  | .engine g =>
    if tag = traceTag then (if (s.tu g.toNat).trace = [] then s else (s.traceDone g.toNat).wantSync 45 (clusterOf g.toNat) (s.logical g.toNat s.noc.gen) 0)
    else
      let k := tag.toNat % 4
      let x := (s.core g.toNat).segment k
      if x.outstanding ∧ x.tag = tag then s.segmentTimeout g.toNat k else s.syncTimeout d tag
  | _ => s.syncTimeout d tag

end Sys2Proof.Machine
end

