-- ==== Sys2Proof/Machine/BootOps.lean ====
section
/-! DEFINITION. Firmware images, the non-volatile default area, and what a reset of the whole part keeps (R322, R346, R352 to R355). -/

namespace Sys2Proof.Machine

/-! ### Images -/

/-- Bytes i to i + 3 of an image as a 32-bit value, least significant first (R313). -/
def imageField (l : List (BitVec 8)) (i : Nat) : Nat := bytesToNat ((l.drop i).take 4)

/-- An image is valid: header well formed, CRC-32 over the bytes from 16 to its end (chapter 17, before R352). -/
def imageValid (l : List (BitVec 8)) : Bool :=
  let n := imageField l 8
  imageField l 0 == 0x5A465731 && decide (64 ≤ n) && decide (n ≤ 2 ^ 23) && decide (n ≤ l.length) &&
    ((l.drop 17).take 47).all (fun b => b == 0) &&
    (crc32Bytes ((l.take n).drop 16) 0xFFFFFFFF#32).toNat == imageField l 12

/-- The version in a header. -/
def imageVersion (l : List (BitVec 8)) : BitVec 32 := BitVec.ofNat 32 (imageField l 4)

/-- Slot k replaced. -/
def State.setSlotImage (s : State) (k : Nat) (x : FwSlot) : State := { s with fw := { s.fw with slots := s.fw.slots.setIfInBounds k x } }

/-- The slot other than the preferred one (R353). -/
def State.inactiveSlot (s : State) : Nat := if s.fw.preferred then 0 else 1

/-- The preferred slot. -/
def State.preferredSlot (s : State) : Nat := if s.fw.preferred then 1 else 0

/-- Update status entered, with vector 14 when it changes (Tables 17.4, 17.10). -/
def State.enterUpdate (s : State) (n : Nat) : State := if s.fw.update = n then s else { s with fw := { s.fw with update := n } }.vector 14

/-- The image of slot k runs. -/
def State.runSlot (s : State) (k : Nat) : State := { s with fw := { s.fw with running := k, version := (s.slot k).versionOf } }

/-! ### The non-volatile default area -/

/-- Copy k of the area. -/
def State.nvCopy (s : State) (k : Nat) : NvCopy := s.fw.nv.toList.getD k { count := 0, crc := 0, values := [] }

/-- The CRC-32 of a copy: over its count and its values, key and value of each, least significant byte first (R322; the manual lays no bytes
down: assumption 96). -/
def nvCrc (count : BitVec 32) (values : Tab Nat) : BitVec 32 :=
  crc32Bytes (natToBytes 4 count.toNat ++ values.flatMap (fun x => natToBytes 3 x.1 ++ natToBytes 8 x.2)) 0xFFFFFFFF#32

/-- A copy passes its check (R322). -/
def NvCopy.valid (x : NvCopy) : Bool := x.crc == nvCrc x.count x.values

/-- The copy in use: it passes its check and has the higher count (R322). -/
def State.nvInUse (s : State) : Option Nat :=
  let a := s.nvCopy 0
  let b := s.nvCopy 1
  if a.valid ∧ (¬ b.valid ∨ b.count.toNat ≤ a.count.toNat) then some 0 else if b.valid then some 1 else none

/-- Save count of the copy in use (0x2180:03). -/
def State.saveCount (s : State) : Nat := match s.nvInUse with | some k => (s.nvCopy k).count.toNat | none => 0

/-- The values an object with a non-volatile default takes at a reset of its domain (R322). -/
def State.nvValues (s : State) : Tab Nat := match s.nvInUse with | some k => (s.nvCopy k).values | none => []

/-- The value of one such object. -/
def State.nvValue (s : State) (ix sub : Nat) : Nat := tget (objDefault (256 * ix + sub)) s.nvValues (256 * ix + sub)

/-- An object has a non-volatile default. -/
def nvKey (key : Nat) : Bool := match objInfo (key / 256) (key % 256) with | some i => i.nv | none => false

/-- Committed values, or factory values when those are asked for, saved into the older copy (R322). -/
def State.saveDefaults (s : State) : State :=
  let k := match s.nvInUse with | some 0 => 1 | _ => 0
  let values := if s.fw.factoryNext then [] else s.objs.filter (fun x => nvKey x.1)
  let count := BitVec.ofNat 32 (s.saveCount + 1)
  let copy : NvCopy := { count := count, crc := nvCrc count values, values := values }
  { s with fw := { s.fw with nv := s.fw.nv.setIfInBounds k copy, factoryNext := false } }

/-! ### Reset of the whole part -/

/-- The reach of a power-on or device reset: everything but what the logbook's MRAM keeps, the TAP, and the pins (Table 17.7). -/
def State.resetAll (s : State) (porst : Bool) : State :=
  { State.reset with
    pending := s.pending, porst := porst, retired := s.retired, tap := s.tap, outbox := s.outbox, free := s.free,
    col := { Collector.reset with ring := s.col.ring, pinned := s.col.pinned },
    host := { HostIf.reset with perst := s.host.perst },
    fw := { Firmware.reset with slots := s.fw.slots, preferred := s.fw.preferred, nv := s.fw.nv, hot := s.fw.hot } }

end Sys2Proof.Machine
end

