-- ==== Sys2Proof/Machine/Bog.lean ====
section
/-! DEFINITION. The bog controller: entry, draw-up, draws awaiting acceptance, JOIN (R78 to R82, R257, R384). -/

namespace Sys2Proof.Machine

/-- Fault source of the bog front end, and of the back end in the stack of line l (Table 15.1). -/
def bogFront : Nat := srcId 23 0
def bogBack (l : Nat) : Nat := srcId 23 (1 + stackOf l)

/-! ### Slots -/

/-- Slot i is in use. -/
def State.slotUsed (s : State) (i : Nat) : Bool := s.bog.any (fun b => b.idx == i || (b.held && b.idx + 1 == i))

/-- The lowest free line of the bog region for a held flit, as its first slot (R257). -/
def State.freeLine (s : State) (base slots : Nat) : Option Nat :=
  (firstFrom (slots / 2) 0 (fun i => !s.slotUsed (2 * i) && !s.slotUsed (2 * i + 1) && s.chunkUsable base (2 * i))).map (2 * ·)

/-- The lowest chunk of the free list: usable, in no chain, without a slot in use (R78, R208). -/
def State.freeChunk (s : State) (base slots : Nat) : Option Nat :=
  firstFrom (slots / 64) 0 (fun c => s.chunkUsable base (64 * c) && !s.bogChains.any (fun x => x.2.chunks.contains c) &&
    !s.bog.any (fun b => b.idx / 64 == c))

/-- The chain of a bucket. -/
def State.bogChain (s : State) (k : Nat) : BogChain := tget { chunks := [], next := 0 } s.bogChains k

/-- The slot that a bucket's next token takes, and its pointers then: the place behind its tail, or the first of a free chunk, which joins
its chain (R78). Where no chunk is free, which the manual does not speak of, the lowest free slot, outside every chain (assumption 93). -/
def State.freeSlot (s : State) (base slots k : Nat) : Option (Nat × BogChain) :=
  let c := s.bogChain k
  match c.chunks.getLast?, decide (c.next < 64) with
  | some l, true => some (64 * l + c.next, { c with next := c.next + 1 })
  | _, _ =>
    match s.freeChunk base slots with
    | some n => some (64 * n, { chunks := c.chunks ++ [n], next := 1 })
    | none => (firstFrom slots 0 (fun i => !s.slotUsed i && s.chunkUsable base i &&
        !s.bogChains.any (fun x => x.2.chunks.getLast? == some (i / 64) && decide (x.2.next ≤ i % 64)))).map (fun i => (i, c))

/-- Head pointer of a bucket: its first slot in use (R78). -/
def State.bogHead (s : State) (k : Nat) : Option Nat := (s.bog.find? (fun b => !b.held && b.bucket == k)).map (·.idx)

/-- Tail pointer of a bucket: the place behind the last slot of its last chunk (R78). -/
def State.bogTail (s : State) (k : Nat) : Option Nat := (s.bogChain k).chunks.getLast?.map (fun l => 64 * l + (s.bogChain k).next)

/-- The three words of a slot (Table 4.6). -/
def slotWords (t : BitVec 96) (counted diverted : Bool) (e : Nat) : List Word :=
  [t.extractLsb' 0 36, t.extractLsb' 36 36,
   0#4 ++ BitVec.ofNat 6 (e / 256) ++ BitVec.ofBool diverted ++ BitVec.ofBool counted ++ t.extractLsb' 72 24]

/-- A held flit as the six words of a line, the flit in the low 192 bits (R257). -/
def heldWords (x : Flit) : List Word :=
  let b : BitVec 216 := 0#24 ++ x.ctl ++ x.token
  (List.range 6).map (fun i => b.extractLsb' (36 * i) 36)

/-- The physical cluster a token is bound for. -/
def State.boundFor (s : State) (engine : Nat) : Option Nat := s.physicalCluster (engine / 16) s.noc.gen

/-- The slot's cluster has lost its image, so the slot is never drawn (R79). -/
def State.slotLost (s : State) (engine : Nat) : Bool :=
  match s.boundFor engine with
  | some c => (s.domain c).imageLost
  | none => true

/-- Epoch of a token by the device's view; none where it would lie below zero, which is never formed (R33). -/
def bogEpoch (tag : BitVec 8) (view : Nat) : Option Nat :=
  let d := tagDistance tag.toNat view
  if d < 192 then some (view + d) else if 256 ≤ view + d then some (view + d - 256) else none

/-- Draw-up takes place: the flight is RUNNING or HALTING (R79). -/
def State.draws (s : State) (f : Nat) : Bool := (s.flight f).state == .running || (s.flight f).state == .halting

/-! ### Entry -/

/-- The counted and diverted bits of a token for a logical engine (R78). -/
def State.entryBits (s : State) (engine : Nat) : Bool × Bool :=
  match s.boundFor engine with
  | none => (false, true)
  | some c =>
    let d : Domain := s.domain c
    (!d.contained && (d.state == .live || d.state == .quiesce || d.state == .drain), d.contained || d.state != .live)

/-- A slot changed. -/
def State.setSlot (s : State) (i : Nat) (f : BogSlot → BogSlot) : State :=
  { s with bog := s.bog.map (fun b => if b.idx == i then f b else b) }

/-- A slot queued for draw-up. -/
def BogSlot.queue (b : BogSlot) : BogSlot := { b with queued := true, back := false }

/-- A token that the front end has checked and accepted is written, the flight not being IDLE (R78 to R82, R257): it is queued for draw-up
at once when its epoch lies in the window, but a drawn-up token that came back waits for the next trigger or 1 µs (R79, R80). An epoch
below zero is never stored: such a token is stale (R33; assumption 94). -/
def State.bogStore (s : State) (x : Flit) : State :=
  let f := tokFlight x.token
  let held := decide (tokDevice x.token ≠ s.devId)
  let quota := s.obj (0x3410 + f) 1
  let size := if held then 2 else 1
  let v := s.flight f
  let l := tokEngine x.token
  match bogEpoch (tokTag x.token) v.view with
  | none => s.raise bogFront 0x18 3 (sourceField x.ctl) (tokenField x.token)
  | some e =>
  let k := 64 * l + e % 64
  let place := s.bogBase.bind (fun base =>
    if held then (s.freeLine base s.bogRegionSlots).map (fun i => (base, i, s.bogChain k))
    else (s.freeSlot base s.bogRegionSlots k).map (fun (i, c) => (base, i, c)))
  match place, decide (s.bogFill f + size ≤ quota) with
  | some (base, i, chain), true =>
    let (counted, diverted) := s.entryBits l
    let words := if held then heldWords x else slotWords x.token counted diverted e
    let w := base + 3 * i
    let (_, s) := s.writeHbm w words (bogBack (w / 6)) 2
    let b : BogSlot := { idx := i, flight := f, engine := l, tag := (tokTag x.token).toNat, lap := e % 2 ^ 14, draw := none, copies := 0,
                         queued := false, back := tokClass x.token == 4 && !held, held := held }
    let s := { s with bog := s.bog ++ [b], bogChains := if held then s.bogChains else tput { chunks := [], next := 0 } k chain s.bogChains }
    let s := s.setFlight f { v with tc := { v.tc with inflow := v.tc.inflow + 1 }, peak := max v.peak (s.bogFill f) }
    let s := if quota ≤ s.bogFill f + s.obj (0x3410 + f) 3 then s.declareMired f 2 else s
    let y := s.flight f
    if s.draws f ∧ ¬ held ∧ tokClass x.token ≠ 4 ∧ y.view ≤ e ∧ e < y.view + y.tether then
      s.setSlot i BogSlot.queue
    else s
  | _, _ => (s.setFlight f { s.flight f with lost := true }).raise (srcId 26 f) 0x32 3 (tokenField x.token) 0

/-- BOG_WRITE: the front end takes the token at the head of its write buffer (R79). -/
def State.bogWriteStep (s : State) : State :=
  match s.bogIn with
  | [] => s
  | x :: rest =>
    let s := { s with bogIn := rest }
    let (c, s) := s.checkCode bogFront 0 (tokenSyndrome x.token)
    if c.bad then
      let s := s.raiseFull bogFront 0x10 1 (sourceField x.ctl) (tokenField x.token) c.injected c.during
      if ctlUnit x.ctl then s else s.sendRecompute 45 0 1 (unitSrc s.devId 0) x.ctl x.token
    else
      let s := s.sendAccept 45 x.ctl x.token
      if (s.flight (tokFlight x.token)).state = .idle then s.bump 32 0x3400 3 else s.bogStore x

/-- BOG_WRITE (R79, R82). -/
def execBogWrite (s : State) : Host.Outcome State Fault Refusal := .next s.bogWriteStep

/-! ### Draw-up -/

/-- Epoch of a slot in the lap that the view is in (R78). -/
def BogSlot.epochAt (b : BogSlot) (view : Nat) : Nat := view + (b.lap + 64 - view % 64) % 64

/-- Draws of an epoch tag that await acceptance (R384). -/
def State.drawsOf (s : State) (tag : Nat) : List BogSlot := s.bog.filter (fun b => b.draw.isSome && b.tag == tag)

/-- A queued slot that may be drawn now (R79, R384). -/
def State.mayDraw (s : State) (b : BogSlot) : Bool :=
  b.queued && !b.held && b.draw.isNone && s.draws b.flight && !s.slotLost b.engine && decide ((s.drawsOf b.tag).length < 64)

/-- The slot drawn next: lowest epoch first, then oldest (R79). -/
def State.nextDraw (s : State) : Option BogSlot :=
  let far := fun (b : BogSlot) => (b.lap + 64 - (s.flight b.flight).view % 64) % 64
  (s.bog.filter s.mayDraw).foldl (fun a b => match a with
    | none => some b
    | some c => if far b < far c then some b else some c) none

/-- The lowest draw number free for a tag (R384). -/
def State.drawNumber (s : State) (tag : Nat) : Nat :=
  (firstFrom 64 0 (fun n => !(s.drawsOf tag).any (fun b => b.draw == some n))).getD 0

/-- A slot freed. -/
def State.dropSlot (s : State) (i : Nat) : State := { s with bog := s.bog.filter (fun b => b.idx != i) }.trimChains

/-- A slot's token as its three words hold it. -/
def slotToken (a b c : Word) : BitVec 96 := c.extractLsb' 0 24 ++ b ++ a

/-- The slot's words as stored, for the token field of an event about a token that is lost. -/
def State.slotRaw (s : State) (i : Nat) : BitVec 96 × Bool :=
  match s.bogBase with
  | none => (0, false)
  | some base =>
    let w := fun k => lineWord (s.hbmLine ((base + 3 * i + k) / 6)) ((base + 3 * i + k) % 6)
    (slotToken (w 0) (w 1) (w 2), (w 2).getLsbD 25)

/-- A token lost at draw-up: its slot freed, a level-3 event that names the flight (R78, Table 2.9, Table 10.4). -/
def State.loseSlot (s : State) (b : BogSlot) (c : CodeCheck) : State :=
  (s.raiseFull (srcId 26 b.flight) 0x33 3 (tokenField (s.slotRaw b.idx).1) 0 c.injected c.during).dropSlot b.idx

/-- The epoch high bits and the tag of a slot's words name the epoch of the present lap of its bucket (R78). -/
def BogSlot.inLap (b : BogSlot) (view : Nat) (z : Word) (t : BitVec 96) : Bool :=
  (z.extractLsb' 26 6).toNat * 256 + (tokTag t).toNat == b.epochAt view % 2 ^ 14

/-- The token of a slot read from HBM and checked, for draw-up under a number; at its first draw, one of another lap is discarded and
counted (R78, R80, R384). -/
def State.sendDraw (s : State) (b : BogSlot) (n : Nat) : State :=
  match s.bogBase with
  | none => s
  | some base =>
    let w := base + 3 * b.idx
    match s.readHbms (bogBack (w / 6)) w 3 with
    | (.inr [x, y, z], s) =>
      let t := slotToken x y z
      let (c, s) := s.checkCode (bogBack (w / 6)) 1 (tokenSyndrome t)
      if c.bad then s.loseSlot b c else
      let view := (s.flight b.flight).view
      if b.draw.isNone ∧ ¬ b.inLap view z t then (s.discard bogFront).loseSlot b { bad := true, injected := false, during := false } else
      let t := sealToken (setField t 82 3 4#3)
      let s := s.setSlot b.idx (fun z => { z with draw := some n, copies := z.copies + 1, queued := false, back := false })
      s.sendToken 45 vcToken (s.tokenUrgency b.flight (b.epochAt view) view) (s.engineEntry 45 s.devId b.engine)
        { device := s.devId, engine := 0, node := 0x3FFF, seq := n } t
    | (.inl (_, _, i, u), s) => s.loseSlot b { bad := true, injected := i, during := u }
    | (_, s) => s.loseSlot b { bad := true, injected := false, during := false }

/-- BOG_DRAW_UP: the next slot is drawn, once the word of its chain is read (R78 to R80, R192, R384). -/
def State.drawUpStep (s : State) : State :=
  match s.nextDraw with
  | none => s
  | some b =>
    let (bad, s) := s.readAon 1 b.bucket
    if bad then s else s.sendDraw b (s.drawNumber b.tag)

/-- BOG_DRAW_UP (R80). -/
def execBogDrawUp (s : State) : Host.Outcome State Fault Refusal := .next s.drawUpStep

/-- The draw that a tag and a draw number name. -/
def State.drawOf (s : State) (tag n : Nat) : Option BogSlot := (s.drawsOf tag).find? (fun b => b.draw == some n)

/-- An ACCEPT or a recompute request that names no draw: discarded and counted (R384). -/
def State.stray (s : State) : State := { s with bogStray := s.bogStray + 1 }

/-- DRAW_ACCEPT: the ACCEPT at the head of the service units' responses (R384). -/
def State.drawAcceptStep (s : State) : State :=
  match s.svcRsp with
  | [] => s
  | p :: rest =>
    if hdOp p.head ≠ 0x30 then s else
    let s := { s with svcRsp := rest }
    if headSyndrome p.head ≠ 0 then s.raise bogFront 0x23 1 (sourceField p.ctl) (hdTag p.head).toNat else
    let o := hdOffset p.head
    match s.drawOf (o / 2 ^ 20 % 256) (o / 2 ^ 14 % 64) with
    | some b => s.dropSlot b.idx
    | none => s.stray

/-- DRAW_ACCEPT (R384). -/
def execDrawAccept (s : State) : Host.Outcome State Fault Refusal := .next s.drawAcceptStep

/-- BOG_RECOMPUTE_REQUEST: a request addressed to unit code 0 (R38, R384, Table 2.3). -/
def State.bogRecomputeStep (s : State) : State :=
  match s.bogRecomp with
  | [] => s
  | x :: rest =>
    let s := { s with bogRecomp := rest }
    let (c, s) := s.checkCode bogFront 0 (tokenSyndrome x.token)
    if c.bad then s.raiseFull bogFront 0x10 1 (sourceField x.ctl) (tokenField x.token) c.injected c.during else
    let v := (tokValue x.token).toNat
    match s.drawOf (v % 256) (v / 256 % 64) with
    | some b => s.sendDraw b (v / 256 % 64)
    | none => s.stray

/-- BOG_RECOMPUTE_REQUEST (R384). -/
def execBogRecomputeRequest (s : State) : Host.Outcome State Fault Refusal := .next s.bogRecomputeStep

/-- DRAW_TIMEOUT: a draw not accepted within 0x2A01:04 is sent again under its number (R80). -/
def execDrawTimeout (tag : BitVec 8) (n : BitVec 6) (s : State) : Host.Outcome State Fault Refusal :=
  .next (match s.drawOf tag.toNat n.toNat with
    | some b => s.sendDraw b n.toNat
    | none => s)

/-- BOG_REDRAW_TIMER: 1 µs after a slot was written for a token whose window had closed, it is queued again (R80). -/
def execBogRedrawTimer (slot : Nat) (s : State) : Host.Outcome State Fault Refusal :=
  .next (s.setSlot slot (fun b => if b.back && s.draws b.flight then b.queue else b))

/-! ### JOIN -/

/-- At a JOIN of cluster c: diverted tokens of flights that no longer hold the cluster are discarded and counted, and the flight that
holds it takes a draw-up trigger (R79, Table 14.4). -/
def State.bogJoin (s : State) (c : Nat) : State :=
  let gone := s.bog.filter (fun b => !b.held && s.boundFor b.engine == some c && (s.slotRaw b.idx).2 && s.flightOf c != some b.flight)
  let s := gone.foldl (fun s b => (s.dropSlot b.idx).bump 32 0x3400 3) s
  match s.flightOf c with
  | some f => s.bogTrigger f
  | none => s

end Sys2Proof.Machine
end

