-- ==== Sys2Proof/Machine/HostOps.lean ====
section
/-! DEFINITION. What ends a transaction, and what a reset of the host interface reaches (R327, R329, R346, R347). -/

namespace Sys2Proof.Machine

/-- The transaction ends with a status: staged values discarded, vector 13 (R329, Table 17.4). -/
def State.endTxn (s : State) (status : Nat) : State :=
  ({ s with txn := { s.txn with status := status, staged := [], flightChanged := false } }).vector 13

/-- A path is lost: the transaction it owns is rolled back (R329). -/
def State.pathLost (s : State) (p : Path) : State :=
  if s.txn.owner = some p ∧ 1 ≤ s.txn.status ∧ s.txn.status ≤ 3 then s.endTxn 5 else s

/-- The endpoint may train its link (R351): PERST_N and PORST_N high, start-up past step 3, D38 in service. -/
def State.hostMayTrain (s : State) : Bool :=
  !s.porst && !s.host.perst && s.dev != .off && s.dev != .reset && (s.domain 38).state == .live && !(s.domain 38).contained

/-- The link trains, or stays down (R351, Table 16.11). -/
def State.trainHost (s : State) : State :=
  { s with host := { s.host with link := if s.hostMayTrain then 1 else 0, speed := 0 } }

/-- The function takes BAR accesses: D0, its domain in service, past start-up step 3 (R335, Table 14.3, R351). -/
def State.hostServes (s : State) : Bool :=
  !s.host.d3hot && (s.domain 38).state == .live && !(s.domain 38).contained && s.dev != .off && s.dev != .reset

/-- AER records an unsupported request (R337). -/
def State.unsupportedWrite (s : State) : State := { s with host := { s.host with aer := s.host.aer ||| 2 } }

/-- The bytes of the chunk in MB_DATA (Table 16.3). -/
def Mailbox.chunk (m : Mailbox) : List (BitVec 8) := (List.range m.len.toNat).map (fun i => BitVec.ofNat 8 (tget 0 m.data i))

/-- Index and sub-index in MB_INDEX (Table 16.3). -/
def Mailbox.object (m : Mailbox) : Nat × Nat := ((m.index.extractLsb' 0 16).toNat, (m.index.extractLsb' 16 8).toNat)

/-- A held mailbox access whose host interface is reset: the write that it completes goes on inside the part, unreported (R347). -/
def State.orphan (s : State) (a : Access) : Option Access :=
  match a with
  | .mailbox cmd =>
    let m := s.host.mb
    let before := match m.collect with | some (_, l) => l | none => []
    if cmd.extractLsb' 0 2 = 2 ∧ cmd.getLsbD 2 then some (.silent m.object.1 m.object.2 (before ++ m.chunk)) else none
  | .write .pcie ix sub bytes => some (.silent ix sub bytes)
  | x => some x

/-- Configuration space, BAR0 registers, DMA channels and MSI-X table at their reset values, with the link's own state kept; the
transaction that PCIe owns is rolled back (R329, R346, R347). -/
def State.resetHost (s : State) : State :=
  let s := { s with fw := { s.fw with
    heldAccesses := s.fw.heldAccesses.filterMap s.orphan, update := if s.fw.update = 1 ∧ s.host.mb.collect.isSome then 6 else s.fw.update } }
  ({ s with host := { HostIf.reset with link := s.host.link, speed := s.host.speed, perst := s.host.perst } }).pathLost .pcie

/-- PERST_N, hot reset, link down: as above, and the link retrains (Table 17.7). -/
def State.hostDown (s : State) : State := s.resetHost.trainHost

/-- Host-traffic error of a source (0x40, level 2; Table 15.2). -/
def State.hostError (s : State) (src adr status : Nat) : State := s.raise src 0x40 2 adr status

/-- DMA channel c. -/
def State.dma (s : State) (c : Nat) : Dma := s.host.dma.toList.getD c Dma.reset

/-- DMA channel c replaced. -/
def State.setDma (s : State) (c : Nat) (x : Dma) : State := { s with host := { s.host with dma := s.host.dma.setIfInBounds c x } }

/-- A channel has a descriptor to process: enabled, no error, not paused, ring not empty (R341). -/
def Dma.hasWork (x : Dma) : Bool := x.enable && !x.error && x.head != x.tail

/-- The state a channel reads as between descriptors (Table 17.5). -/
def Dma.settle (x : Dma) (stopped : Bool) : Dma :=
  { x with state := if x.error then 3 else if !x.enable then 0 else if x.pause || stopped then 2 else if x.head = x.tail then 0 else 1 }

/-- Channel c settled: a function in D3hot or a domain that is not LIVE stops it at a descriptor boundary (R335, Table 14.3). -/
def State.settleDma (s : State) (c : Nat) : State :=
  s.setDma c ((s.dma c).settle (s.host.d3hot || (s.domain 38).state != .live || (s.domain 38).contained))

/-- The descriptor at TAIL is done: TAIL goes on round the ring, completed counts (Table 17.5). -/
def Dma.advance (x : Dma) : Dma :=
  { x with tail := BitVec.ofNat 16 ((x.tail.toNat + 1) % 2 ^ x.size.toNat), completed := satInc 32 x.completed }

/-- Descriptors in progress end with DOMAIN_OFF as D38 deflates, as a channel error (Tables 14.3, 17.4, R344). The descriptor lies in host
memory, so that the address of its first word is a free value here (assumption 5). -/
def State.abortDma (s : State) : State :=
  (List.range 8).foldl (fun s c =>
    let x := s.dma c
    if x.state = 1 then
      let (n, s) := s.fresh
      let adr : BitVec 40 := BitVec.ofNat 40 (Config.freeCount n)
      let s := (s.setDma c { x.advance with error := true, code := 3, addr := adr, state := 3 }).put (.descriptorStatus c 3 0)
      (s.hostError (srcId 22 (1 + c)) adr.toNat 3).vector (4 + c)
    else s) s

end Sys2Proof.Machine
end

