-- ==== Sys2Proof/Machine/PowerOps.lean ====
section
/-! DEFINITION. Power domains: containment, leaving service and returning to it, requests by state (R277 to R286, Tables 14.1 to
14.5). -/

namespace Sys2Proof.Machine

/-- Sources whose level-3 faults a reset of domain d ends: those of its containing unit, or that lie in it (R285, R295, Table 15.1). -/
def domainSources (d : Nat) : List Nat :=
  if d < 32 then (List.range 16).map (fun i => 16 * d + i) ++ [srcId 16 d, srcId 17 d, srcId 27 d]
  else if d < 36 then [srcId 20 (d - 32)]
  else if d < 38 then (List.range 4).map (fun i => srcId 21 (4 * (d - 36) + i))
  else []

/-- The ports of a domain (Table 14.1). -/
def domainPorts (d : Nat) : List Nat := if d = 36 then [0, 1, 2, 3] else if d = 37 then [4, 5, 6, 7] else []

/-- Capture enable cleared, the state idle, by a deflate or reset of D39 (R377). -/
def State.disarmCapture (s : State) : State := (s.setObj 0x3600 1 0).enterCapture 0

/-! ### Containment -/

/-- A domain is contained (R286, R366): a cluster loses its image, ports go idle with their partners lost, the host link goes down,
capture stops; a LIVE part becomes DEGRADED (R20). -/
def State.containDomain (s : State) (d : Nat) : State :=
  let x := s.domain d
  if x.contained then s else
  let s := s.setDomain d { x with contained := true, degrades := true, imageLost := x.imageLost || decide (d < 32) }
  let s := (domainPorts d).foldl (fun s p => s.containPort p) s
  let s := if d = 38 then s.hostDown else if d = 39 then s.disarmCapture else s
  if s.dev = .live then s.enterDev .degraded else s

/-! ### ISOLATE -/

/-- The FP controls that engine g takes at reset (R98). -/
def State.fsrDefault (s : State) (g : Nat) : BitVec 19 := BitVec.ofNat 19 (s.obj (0x2400 + g) 0x10 / 32 % 1024 * 32)

/-- Engine g after the reset of its cluster: everything anew but its always-on side, the slot map of the last LOADED scan and the
frozen dredge pointers (R283, R94, Table 14.2). -/
def State.resetEngine (s : State) (g : Nat) : State :=
  let e := s.engine g
  s.setEngine g { Engine.reset with
    core := { Core.reset with fsr := s.fsrDefault g },
    tu := { TokenUnit.reset with slotMap := e.tu.slotMap, count := e.tu.count, scanned := e.tu.scanned },
    dredge := e.dredge }

/-- The queue of router k's unit on channel v is flushed: its flits and those that wait before it go, and a packet of which the router has
passed or holds part is abandoned (R233). -/
def State.flushUnit (s : State) (k v : Nat) : State :=
  let cut := s.midPacket k v
  let s := s.setCrossing k 0 v (s.crossing k 0 v).flush
  let s := { s with noc := { s.noc with inject := tput [] (4 * k + v) [] s.noc.inject } }
  if ¬ cut then s else
  let key := bufKey k 0 v false
  let whole := ((tget [] s.noc.bufs key).reverse.dropWhile (fun x => !x.isLast)).reverse
  let s := { s with noc := { s.noc with bufs := tput [] key whole s.noc.bufs } }
  if whole = [] then s.endCut k 0 v false else s

/-- ISOLATE of a cluster: transactions still inside answered DOMAIN_OFF, token credits returned, queues flushed, engines and store
reset; the interface, the waterline node, the clock in use and the dredge pointers stay (Table 14.2, R281, R233). -/
def State.isolateCluster (s : State) (c : Nat) : State :=
  let s := (s.cluster c).reqQ.foldl (fun s p => if p.inj.isSome then s.niAnswer c p 3 else s) s
  let s := (List.range 16).foldl (fun s i =>
    (s.tu (16 * c + i)).parts.foldl (fun s x => x.2.foldl (fun s _ => s.tokenBack (16 * c + i) x.1) s) s) s
  let s := (List.range 4).foldl (fun s v => s.flushUnit c v) (s.flushCrossing c 1)
  let s := (List.range 16).foldl (fun s i => s.resetEngine (16 * c + i)) s
  let y := s.cluster c
  s.setCluster c { Cluster.reset with
    dredge := y.dredge, niIn := y.niIn, wnIn := y.wnIn, wnReports := y.wnReports, wnReported := y.wnReported, clock := y.clock, ceiling := y.ceiling }

/-- ISOLATE of a domain (Tables 14.2, 14.3). -/
def State.isolate (s : State) (d : Nat) : State :=
  if d < 32 then s.isolateCluster d
  else if d < 36 then
    let s := (tget [] s.hbmQ (d - 32)).foldl (fun s p => s.answer d p 3 []) s
    { s with hbmQ := tput [] (d - 32) [] s.hbmQ }
  else if d < 38 then (domainPorts d).foldl (fun s p => s.flushPort p) s
  else if d = 38 then
    let s := s.hostDown
    { s with host := { s.host with link := 0 } }
  else { s.disarmCapture with trace := Trace.reset }

/-! ### Entering states -/

/-- LIVE at the end of a sequence of D32 to D39: ports return to DETECT, the host link trains (R283). A domain that is contained still, its
deflate having been cancelled, keeps the part DEGRADED (R20). -/
def State.domainLive (s : State) (d : Nat) : State :=
  let s := s.setDomain d { s.domain d with state := .live, degrades := (s.domain d).contained, resetting := false, cancelled := false, flipped := false }
  let s := (domainPorts d).foldl (fun s p => s.startPort p) s
  if d = 38 then s.trainHost else s

/-- QUIESCE: a cluster asks for a flip; another domain, which takes none, is in DRAIN at once (Tables 14.2, 14.3). -/
def State.quiesce (s : State) (d : Nat) (reset : Bool) : State :=
  let x := s.domain d
  if d < 32 then
    let s := s.setDomain d { x with state := .quiesce, resetting := reset, cancelled := false, queued := 0 }
    { s with noc := { s.noc with flipWanted := true } }
  else
    let s := s.setDomain d { x with state := .drain, resetting := reset, cancelled := false, queued := 0 }
    let s := (domainPorts d).foldl (fun s p => (s.idlePort p).loseEdges p false) s
    if d = 38 then
      let s := s.abortDma
      let s := s.pathLost .pcie
      { s with host := { s.host with link := 0, speed := 0 } }
    else if d = 39 then s.disarmCapture
    else s

/-- A deflate of domain d is permitted at this moment over a path (Table 14.1, R277). -/
def State.mayDeflate (s : State) (d : Nat) (path : Path) : Bool :=
  (s.domain d).contained ||
  (if d < 32 then s.clusterMayDeflate d
   else if d < 36 then !s.capturing && (List.range 32).all (fun f => s.obj (0x2800 + f) 2 == 0 || (s.flight f).state == .idle)
   else if d = 38 then path == .can
   else true)

/-- The queued deflate of a domain that has become LIVE starts when it is still permitted (R284). -/
def State.startQueued (s : State) (d : Nat) : State :=
  let x := s.domain d
  if x.queued ≠ 1 then s else
  let s := s.setDomain d { x with queued := 0 }
  if s.mayDeflate d .can then s.quiesce d false else s

/-- OFF at the end of a deflate: image lost, the sequence counted, a queued inflate started, DEGRADED left (R283 to R285). -/
def State.enterOff (s : State) (d : Nat) : State :=
  let x := s.domain d
  let s := s.setDomain d { x with
    state := if x.queued = 2 then DState.power else .off, queued := 0, imageLost := x.imageLost || decide (d < 32), resetting := false,
    cancelled := false, degrades := false }
  (s.countSequence d).leaveDegraded

/-- An unretirement entry's resource lies in domain d (R208, Table 10.9). -/
def entryDomain (e : BitVec 64) : Nat :=
  match (e.extractLsb' 0 4).toNat with
  | 1 => (e.extractLsb' 4 9).toNat / 16
  | 4 => (e.extractLsb' 4 9).toNat / 16
  | 2 => (e.extractLsb' 4 5).toNat
  | _ => 32 + (e.extractLsb' 4 2).toNat

/-- RESTORE: the domain reset clears containment, stops and level-3 faults, sets image lost, loads the FP controls committed since, and
brings unretired resources back (Table 14.4, R98, R208, R283, R285). -/
def State.enterRestore (s : State) (d : Nat) : State :=
  let x := s.domain d
  let s := s.setDomain d { x with state := .restore, contained := false, imageLost := x.imageLost || decide (d < 32), resetting := false, cancelled := false }
  let s := { s with unretired := s.unretired.filter (fun e => entryDomain e != d) }
  let s := (domainPorts d).foldl (fun s p => s.setPort p { s.port p with contained := false }) s
  let s := if d < 32 then (List.range 16).foldl (fun s i => s.resetEngine (16 * d + i)) s else s
  (domainSources d).foldl (fun s i => s.resetSource i) s

/-! ### Requests -/

/-- A request accepted: 0x2300 + d:03 reads it. -/
def State.noteRequest (s : State) (d req : Nat) : State := s.setDomain d { s.domain d with request := req }

/-- A deflate request (Table 14.5): abort code, state after. -/
def State.requestDeflate (s : State) (d : Nat) (path : Path) : Nat × State :=
  let x := s.domain d
  let ok := s.noteRequest d 1
  match x.state with
  | .live => if s.mayDeflate d path then (0, ok.quiesce d false) else (0x08000022, s)
  | .restore => if x.contained then (0, (ok.isolate d).enterOff d) else (0, ok.setDomain d { ok.domain d with queued := 1 })
  | .power | .join => (0, ok.setDomain d { ok.domain d with queued := 1 })
  | _ => (0, ok)

/-- An inflate request (Table 14.5). -/
def State.requestInflate (s : State) (d : Nat) : Nat × State :=
  let x := s.domain d
  let ok := s.noteRequest d 2
  let y := ok.domain d
  match x.state with
  | .live => (0, ok.countSequence d)
  | .quiesce | .drain =>
    if d < 32 then
      let t := ok.setDomain d { y with cancelled := true, resetting := false }
      (0, { t with noc := { t.noc with flipWanted := true } })
    else (0, ok.domainLive d)
  | .isolate => (0, ok.setDomain d { y with queued := 2 })
  | .off => (0, ok.setDomain d { y with state := .power })
  | _ => (0, ok)

/-- A reset request (Table 14.5). -/
def State.requestReset (s : State) (d : Nat) : Nat × State :=
  let x := s.domain d
  let ok := s.noteRequest d 3
  let y := ok.domain d
  match x.state with
  | .live => (0, ok.quiesce d true)
  | .quiesce | .drain => (0, ok.setDomain d { y with resetting := true, cancelled := false })
  | .isolate => (0, ok.setDomain d { y with queued := 2 })
  | .off => (0x08000022, s)
  | _ => (0, ok)

/-- A write to 0x2300 + d:03 (R278, R284). -/
def State.domainRequest (s : State) (path : Path) (d req : Nat) : Nat × State :=
  match req with
  | 1 => s.requestDeflate d path
  | 2 => s.requestInflate d
  | _ => s.requestReset d

end Sys2Proof.Machine
end

