-- ==== Sys2Proof/Machine/Collect.lean ====
section
/-! DEFINITION. The fault collector at work: events into the class queues, the decision of a stamp, reactions, log entries, clearing
and injection (R291 to R311, R383). -/

namespace Sys2Proof.Machine

/-! ### Configuration and levels -/

/-- Configuration word of a source (Table 15.4). -/
def State.sourceConfig (s : State) (src : Nat) : Nat := s.obj (0x3040 + src / 32) (src % 32 + 1)

/-- Sources of host traffic: class 22, and the CAN controller and the dictionary (Table 15.1). -/
def hostTraffic (src : Nat) : Bool := src / 32 == 22 || src == srcId 25 3 || src == srcId 25 7

/-- The highest level that promotion gives a source (R297). -/
def raisedCap (src : Nat) : Nat := if hostTraffic src then 2 else 3

/-- An injected event with dry set (R306). -/
def State.dry (s : State) (e : Event) : Bool := e.injected && s.obj 0x3002 9 == 1

/-- Level recorded for an event, and the state with its source promoted when the event promotes it (R294, R297). -/
def State.decideLevel (s : State) (e : Event) : Nat × State :=
  if 2 < e.level then (if hostTraffic e.src then 2 else e.level, s) else
  let st := s.status e.src
  let up := min (e.level + 1) (raisedCap e.src)
  if st.testBit 4 then (up, s)
  else if e.reached then
    let s := s.setStatus e.src (st + 16)
    (up, { s with col := { s.col with promotedAt := tput 0 e.src (up + 1) s.col.promotedAt } })
  else (e.level, s)

/-- Reactions of an event at its recorded level (R300, R301, R306). -/
def State.reactions (s : State) (e : Event) (level : Nat) : Nat :=
  let r := if 4 ≤ level then 0x1F
    else if level = 3 then e.cfg / 2 ^ 48 % 128
    else if level = 2 then e.cfg / 2 ^ 40 % 128
    else e.cfg / 2 ^ 32 % 128
  if s.dry e then r &&& 3 else r

/-- The status bit of a recorded level set (R293). -/
def State.markLevel (s : State) (src level : Nat) : State :=
  if level = 0 then s else s.setStatus src (s.status src ||| 2 ^ (level - 1))

/-- The event counter of a source raised (Table 15.5, bit 1). -/
def State.countEvent (s : State) (src : Nat) : State := s.bump 32 (0x3080 + src / 32) (src % 32 + 1)

/-! ### FAULT_EVENT -/

/-- Start of the window that an event lies in, by its source's T (R296). -/
def Event.windowStart (e : Event) : Nat :=
  let t := e.cfg / 2 ^ 16 % 2 ^ 16 * 10 ^ 6
  e.close / t * t

/-- Start of the window counted and its count, for the source of an event, after an event that counts (R296): an event of an earlier
window leaves it alone; after a write that changes T, events counted since the new window's start stand in it (assumption 95). -/
def State.windowCount (s : State) (e : Event) : Nat × Nat :=
  let (a, n) := tget (0, 0) s.col.windows e.src
  if e.close < a then (a, n) else (e.windowStart, if e.windowStart ≤ a then n + 1 else 1)

/-- An event whose queue is full: its count, status and counter are updated, its record is lost (R298). -/
def State.loseRecord (s : State) (e : Event) : State :=
  let (l, s) := s.decideLevel e
  let s := s.markLevel e.src l
  let s := if (s.reactions e l).testBit 1 then s.countEvent e.src else s
  (s.setStatus e.src (s.status e.src ||| 32)).raise (srcId 25 2) 0x50 1 e.src 0

/-- FAULT_EVENT: the oldest event of a class enters its class queue (R296, R298). -/
def State.takeEvent (s : State) (cls : Nat) : State :=
  match takeFirst (fun e => e.src / 32 == cls) s.col.detected with
  | none => s
  | some (e, rest) =>
    let late := decide (e.stamp < s.col.closed)
    let e := { e with late := late, close := if late then max s.now s.col.closed else e.stamp, cfg := s.sourceConfig e.src }
    let s := { s with col := { s.col with detected := rest } }
    let s := s.setObj 0x3000 2 (s.obj 0x3000 2 + 1)
    let counts := decide (e.level ≤ 2) && !s.dry e
    let w := s.windowCount e
    let s := if counts then { s with col := { s.col with windows := tput (0, 0) e.src w s.col.windows } } else s
    let n := e.cfg % 2 ^ 16
    let e := { e with reached := counts && n != 0 && decide (n ≤ w.2) && decide (w.1 ≤ e.close) }
    let q := tget [] s.col.queues cls
    if 16 ≤ q.length then s.loseRecord e
    else { s with col := { s.col with queues := tput [] cls (q ++ [e]) s.col.queues } }

/-- FAULT_EVENT (R298). -/
def execFaultEvent (cls : BitVec 5) (s : State) : Host.Outcome State Fault Refusal :=
  .next (if cls.toNat < 30 then s.takeEvent cls.toNat else s)

/-! ### Log entries -/

/-- An entry with its check: one's complement of the CRC-8 over [247:0] (R307). -/
def sealEntry (x : BitVec 248) : BitVec 256 := ~~~(crc8Over x) ++ x

/-- The check of an entry passes (R307, R308). -/
def entryValid (x : BitVec 256) : Bool := x == sealEntry (x.extractLsb' 0 248)

/-- Sequence of an entry. -/
def entrySeq (x : BitVec 256) : Nat := (x.extractLsb' 0 24).toNat

/-- The entry of Table 15.8. -/
def mkEntry (seq : Nat) (e : Event) (level react suppressed bitmap : Nat) (conc first pinned : Bool) : BitVec 256 :=
  sealEntry (0#1 ++ BitVec.ofNat 7 react ++ BitVec.ofNat 10 (min suppressed 1023) ++ BitVec.ofNat 40 e.d1 ++ BitVec.ofNat 40 e.d0 ++
    BitVec.ofNat 32 bitmap ++ BitVec.ofBool pinned ++ BitVec.ofBool first ++ BitVec.ofBool conc ++ BitVec.ofBool e.during ++
    BitVec.ofBool e.injected ++ BitVec.ofBool (decide (e.level < level)) ++ BitVec.ofNat 8 e.code ++ BitVec.ofNat 3 e.level ++
    BitVec.ofNat 3 level ++ BitVec.ofNat 10 e.src ++ BitVec.ofNat 64 e.stamp ++ BitVec.ofNat 24 seq)

/-- An entry given the sequence and the suppressed count that it is written with (Table 15.8). -/
def reSeq (x : BitVec 256) (seq suppressed : Nat) : BitVec 256 :=
  sealEntry (setField (setField (x.extractLsb' 0 248) 0 24 (BitVec.ofNat 24 seq)) 230 10 (BitVec.ofNat 10 (min suppressed 1023)))

/-- Pinned entries in use, those on their way included (R309). -/
def Collector.pinnedUsed (c : Collector) : Nat :=
  (c.pinned.filter (fun x => entryValid x.2)).length + ((c.logQ ++ c.early).filter (·.pinned)).length

/-- An entry that is not written (R310). -/
def State.suppress (s : State) : State :=
  ({ s with col := { s.col with suppressed := s.col.suppressed + 1 } }).bump 32 0x3003 6

/-- An entry put on its way to the logbook: the pinned area, the write queue, the buffer before the head is known (R308 to R310). The
entry is answered as it stands, with the sequence it takes when every entry ahead of it is written. -/
def State.logEvent (s : State) (e : Event) (level react bitmap : Nat) (conc first pin : Bool) : BitVec 256 × State :=
  let c := s.col
  let free := decide (c.pinnedUsed < 256)
  let take := pin && free
  let s := if pin ∧ ¬ free then s.bump 32 0x3003 5 else s
  let x := mkEntry ((c.nextSeq + c.logQ.length + c.early.length) % 2 ^ 24) e level react c.suppressed bitmap conc first take
  let item : LogItem := { entry := x, pinned := take }
  (x,
    if ¬ c.headKnown then
      (if c.early.length < 512 then { s with col := { s.col with early := c.early ++ [item] } } else s.suppress)
    else if ¬ take ∧ 64 ≤ c.logQ.length then s.suppress
    else if c.early.isEmpty then { s with col := { s.col with logQ := c.logQ ++ [item] } }
    else { s with col := { s.col with early := c.early ++ [item] } })

/-- Entries that waited for the head enter the write queue while it has room (R308, R310). -/
def Collector.drainEarly (c : Collector) : Collector :=
  { c with logQ := c.logQ ++ c.early.take (64 - c.logQ.length), early := c.early.drop (64 - c.logQ.length) }

/-- The head is known (R308). -/
def State.releaseEarly (s : State) : State := { s with col := ({ s.col with headKnown := true }).drainEarly }

/-! ### Reactions -/

/-- Flights that a source affects on this part (R302). -/
def State.affectedFlights (s : State) (src : Nat) : List Nat :=
  let c := src / 32
  let i := src % 32
  let here := fun f => s.obj (0x2800 + f) 2 != 0
  if c ≤ 15 then (s.flightOf (src / 16)).toList
  else if c ≤ 17 ∨ c = 27 then (s.flightOf i).toList
  else if c = 20 ∨ c = 23 ∨ (c = 28 ∧ i < 4) then (List.range 32).filter here
  else if c = 21 then (List.range 32).filter (fun f => here f && (s.parentPort f == i || (s.obj (0x2800 + f) 0xE).testBit i))
  else if c = 26 then [i]
  else []

/-- Halt requests of an event, deferred while a firmware switch runs (R301, R354). -/
def State.haltFlights (s : State) (src : Nat) : State :=
  (s.affectedFlights src).foldl (fun s f =>
    if s.fw.held then { s with fw := { s.fw with deferred := s.fw.deferred ++ [.halt f] } } else s.requestHalt f) s

/-- The containing unit of a source taken out of service (Table 15.5). -/
def State.containSource (s : State) (src : Nat) : State :=
  let c := src / 32
  let i := src % 32
  if c ≤ 15 then s.containDomain (src / 16)
  else if c ≤ 17 ∨ c = 27 then s.containDomain i
  else if c = 20 then s.containDomain (32 + i)
  else if c = 21 then (if (s.port i).contained then s else s.containPort i)
  else s

/-- The reactions of an event in the order of Table 15.5 (R301); `x` names the log entry's marks. -/
def State.react (s : State) (e : Event) (level bitmap : Nat) (conc first : Bool) : State :=
  let r := s.reactions e level
  let s := s.markLevel e.src level
  let s := if first ∨ conc ∨ r.testBit 0 then
      let (x, s) := s.logEvent e level r bitmap conc first (first || decide (4 ≤ level))
      if first then { s with col := { s.col with record := x, full := true } } else s
    else s
  let s := if r.testBit 1 then s.countEvent e.src else s
  let s := if r.testBit 2 then s.vector (if level ≤ 2 then 1 else 2) else s
  let s := if r.testBit 3 then s.emcy (0xFF00 + level) e.src e.code else s
  let s := if r.testBit 4 ∧ 1 ≤ level then
    { s with col := { s.col with alerts := tput 0 e.src (tget 0 s.col.alerts e.src ||| 2 ^ (level - 1)) s.col.alerts } } else s
  let s := if r.testBit 5 then s.haltFlights e.src else s
  if r.testBit 6 then s.containSource e.src else s

/-! ### STAMP_CLOSE -/

/-- An event with its recorded level goes before another: higher level, then lower source ID (R299). -/
def eventBefore (a b : Nat × Event) : Bool := decide (b.1 < a.1) || (a.1 == b.1 && decide (a.2.src ≤ b.2.src))

/-- An event put in its place. -/
def placeEvent (a : Nat × Event) : List (Nat × Event) → List (Nat × Event)
  | [] => [a]
  | b :: l => if eventBefore b a then b :: placeEvent a l else a :: b :: l

/-- Levels of a stamp's events decided in order of arrival. -/
def State.decideAll (s : State) : List Event → List (Nat × Event) × State
  | [] => ([], s)
  | e :: l =>
    let (k, s) := s.decideLevel e
    let (r, s) := State.decideAll s l
    ((k, e) :: r, s)

/-- The bit of each unit class of a list of events. -/
def classBits (l : List (Nat × Event)) : Nat := l.foldl (fun b x => b ||| 2 ^ (x.2.src / 32)) 0

/-- The events of one stamp decided: levels, the first-fault capture, concurrent entries, reactions (R299, R301). -/
def State.decideStamp (s : State) (l : List Event) : State :=
  let (r, s) := s.decideAll l
  let r := r.foldl (fun acc x => placeEvent x acc) []
  let top := r.find? (fun x => !s.dry x.2)
  match top with
  | some x =>
    if ¬ s.col.full ∧ s.obj 0x3001 3 ≤ x.1 then
      let rest := r.erase x
      let s := s.react x.2 x.1 (classBits rest) false true
      rest.foldl (fun s y => s.react y.2 y.1 0 true false) s
    else r.foldl (fun s y => s.react y.2 y.1 0 false false) s
  | none => r.foldl (fun s y => s.react y.2 y.1 0 false false) s

/-- STAMP_CLOSE of t: the events that the collector has taken under it, those late for their own stamp among them (R298, R299). -/
def State.closeStamp (s : State) (t : Nat) : State :=
  let due := s.col.taken.filter (fun e => e.close == t)
  let s := { s with col := { s.col with taken := s.col.taken.filter (fun e => e.close != t), closed := max s.col.closed (t + 1) } }
  s.decideStamp due

/-- STAMP_CLOSE (R299). -/
def execStampClose (stamp : BitVec 64) (s : State) : Host.Outcome State Fault Refusal := .next (s.closeStamp stamp.toNat)

/-! ### The logbook -/

/-- First free slot of the pinned area (R308, R309). -/
def Collector.freePinned (c : Collector) : Option Nat := firstFrom 256 0 (fun i => !entryValid (tget 0 c.pinned i))

/-- Ring entries counted against L in the present second (R310). -/
def State.ringRate (s : State) : Nat := if s.col.rate.1 = s.now / 10 ^ 9 then s.col.rate.2 else 0

/-- LOGBOOK_ENTRY_WRITE: the oldest queued entry is written, or its write fails; one beyond L is not written (R307 to R310). An entry
takes its sequence and its suppressed count as it is written, and the first-fault record's copy of it follows. -/
def State.writeLog (s : State) (ok : Bool) : State :=
  match s.col.logQ with
  | [] => s
  | i :: rest =>
    let s := { s with col := ({ s.col with logQ := rest }).drainEarly }
    if ¬ i.pinned ∧ s.obj 0x3003 8 ≤ s.ringRate then s.suppress else
    let c := s.col
    let q := c.nextSeq
    let s := { s with col := { c with
      nextSeq := (q + 1) % 2 ^ 24, rate := (s.now / 10 ^ 9, if i.pinned then s.ringRate else s.ringRate + 1) } }
    if ok then
      let x := reSeq i.entry q c.suppressed
      let pinned := if i.pinned then (match c.freePinned with | some k => tput 0 k x c.pinned | none => c.pinned) else c.pinned
      { s with col := { s.col with
        ring := tput 0 (q % 65536) x c.ring, head := q, suppressed := 0, pinned := pinned,
        record := if c.full && c.record == i.entry then x else c.record } }
    else
      let (n, s) := s.fresh
      let s := { s with col := { s.col with ring := tput 0 (q % 65536) (Config.freeEntry n) s.col.ring } }
      s.suppress.raise (srcId 25 4) 0x51 2 (i.entry.extractLsb' 88 10).toNat 0

/-- LOGBOOK_ENTRY_WRITE (R308). -/
def execLogbookEntryWrite (ok : Bool) (s : State) : Host.Outcome State Fault Refusal := .next (s.writeLog ok)

/-- Sequence number a is newer than b in modular order (R308). -/
def seqNewer (a b : Nat) : Bool := decide ((a + 0x1000000 - b) % 0x1000000 < 0x800000)

/-- The newest valid entry of the ring (R308). -/
def Collector.scanHead (c : Collector) : Option Nat :=
  c.ring.foldl (fun h x =>
    if entryValid x.2 then
      (match h with
       | none => some (entrySeq x.2)
       | some q => if seqNewer (entrySeq x.2) q then some (entrySeq x.2) else h)
    else h) none

/-- The scan of start-up step 6 (R308). -/
def State.scanLogbook (s : State) : State :=
  let h := match s.col.scanHead with | some q => q | none => 2 ^ 24 - 1
  ({ s with col := { s.col with head := h, nextSeq := (h + 1) % 2 ^ 24 } }).releaseEarly

/-- The selected ring entry; none when overwritten or not yet written (R311). -/
def State.selectedEntry (s : State) : Option (BitVec 256) :=
  let q := s.obj 0x3003 2
  let x := tget 0 s.col.ring (q % 65536)
  if entryValid x ∧ entrySeq x = q then some x else none

/-! ### Clearing -/

/-- The cause of a level-2 event of a source persists (R383). -/
def State.causePersists (s : State) (src : Nat) : Bool :=
  let i := src % 32
  let temp := fun k => s.temps.getD k 0
  match src / 32 with
  | 21 => (s.port i).state == .absent || (s.port i).held != 0
  | 25 => (i == 0 && s.noc.drain == 2) || (i == 1 && s.time.conflict.isSome)
  | 26 => (s.flight i).state == .mired
  | 27 => decide (1000 ≤ temp i)
  | 28 => if i < 6 then decide (1000 ≤ temp (32 + i)) else decide (100 ≤ s.capSamples) && decide (s.obj 0x2380 1 < s.power)
  | _ => false

/-- A W1C write to a source's status: bits 0, 1 and 5; promoted goes with the level at which the source was promoted; level 2 is set
again while its cause persists (R293, R297, R383, Table 15.6). -/
def State.clearStatus (s : State) (src mask : Nat) : State :=
  let before := s.anyPending
  let was := s.status src
  let v := if mask.testBit 0 then clearBit was 0 else was
  let v := if mask.testBit 1 then clearBit v 1 else v
  let v := if mask.testBit 5 then clearBit v 5 else v
  let at' := tget 0 s.col.promotedAt src
  let bit := at' - 2
  let gone := v.testBit 4 && decide (2 ≤ at') && was.testBit bit && !v.testBit bit
  let v := if gone then clearBit v 4 else v
  let s := if gone then { s with col := { s.col with promotedAt := tput 0 src 0 s.col.promotedAt } } else s
  let v := if mask.testBit 1 ∧ was.testBit 1 ∧ s.causePersists src then v ||| 2 else v
  (s.setStatus src v).afterClear before

/-! ### Injection -/

/-- Arming or disarming the injection: abort code, state after (R304). -/
def State.writeArm (s : State) (v : Nat) : Nat × State :=
  if v = 0 then (0, ({ s with col := { s.col with armed := false } }).setObj 0x3002 6 0)
  else if s.col.armed then (0x08000022, s)
  else
    let src := s.obj 0x3002 1
    let mask := s.obj 0x3002 3
    match (if sourceListed src then checkerWidth src (s.obj 0x3002 2) else none) with
    | none => (0x08000020, s)
    | some w =>
      if mask = 0 ∨ 2 ^ w ≤ mask then (0x08000020, s)
      else (0, ({ s with col := { s.col with armed := true } }).setObj 0x3002 6 (s.obj 0x3002 4))

end Sys2Proof.Machine
end

