-- ==== Sys2Proof/Machine/Values.lean ====
section
/-! DEFINITION. Reading the object dictionary: what each object that shows the state of the part reads as (R313, R316, R320 to R326, and
the tables of objects). -/

namespace Sys2Proof.Machine

/-! ### Codes -/

/-- Device state (0x2100:04; Table 1.4). -/
def devCode (d : DevState) : Nat :=
  match d with | .off => 0 | .reset => 1 | .selftest => 2 | .config => 3 | .live => 4 | .degraded => 5

/-- Flight state (Table 4.1). -/
def flightCode (f : FState) : Nat :=
  match f with | .idle => 0 | .loaded => 1 | .running => 2 | .halting => 3 | .halted => 4 | .mired => 5

/-- Domain state (Table 14.7). -/
def domainCode (d : DState) : Nat :=
  match d with | .live => 0 | .quiesce => 1 | .drain => 2 | .isolate => 3 | .off => 4 | .power => 5 | .restore => 6 | .join => 7

/-- Port state (Table 12.7). -/
def portCode (y : Port) : Nat :=
  if y.retrain then 7 else
  match y.state with
  | .disabled => 0 | .detect => 1 | .train => 2 | .align => 3 | .fecLock => 4 | .discover => 5 | .connected => 6 | .absent => 8 | .shutdown => 9

/-- Role (Table 13.6). -/
def roleCode (r : Role) : Nat :=
  match r with | .follower => 0 | .master0 => 1 | .master1 => 2 | .backup => 3 | .holdover => 4 | .unlocked => 5

/-- A path as owner (Table 16.12). -/
def pathCode (p : Option Path) : Nat := match p with | none => 0 | some .can => 1 | some .pcie => 2

/-- A signed value of n bits as it is read. -/
def signedBits (n : Nat) (v : Int) : Nat := (BitVec.ofInt n v).toNat

/-! ### Values -/

/-- State of a firmware slot: being written while an image's chunks come in (Table 17.10). -/
def State.slotState (s : State) (k : Nat) : Nat := if s.fw.update = 1 ∧ k = s.inactiveSlot then 3 else (s.slot k).state

/-- CANopen and management objects (Tables 16.2, 16.6, 16.7, 16.12, 17.10). -/
def State.readManage (s : State) (ix sub : Nat) : Nat :=
  let x := s.txn
  match ix, sub with
  | 0x1001, 0 => (if s.anyPending then 1 else 0) + (if s.levelPending 3 ∨ s.levelPending 4 then 128 else 0)
  | 0x1003, 0 => s.col.errors.length
  | 0x1003, k => s.col.errors.getD (k - 1) 0
  | 0x1014, 0 => if s.obj ix sub = unwritten then 0x80 + s.nodeId else s.obj ix sub
  | 0x1018, 4 => Config.serialNumber.toNat
  | 0x2000, 2 => x.status
  | 0x2000, 5 => pathCode x.owner
  | 0x2000, 6 => x.staged.length
  | 0x2000, 7 => x.error.1 + 2 ^ 32 * x.error.2.1 + 2 ^ 48 * x.error.2.2
  | 0x2000, 8 => x.seq.toNat
  | 0x2100, 3 => s.straps.devid.toNat + 16 * s.straps.tmstr.toNat + 32 * s.straps.tbkup.toNat + 64 * s.straps.bootsrc.toNat
  | 0x2100, 4 => devCode s.dev
  | 0x2100, 5 => s.nodeId
  | 0x2100, 8 => s.fw.running
  | 0x2100, 9 => s.fw.version.toNat
  | 0x2180, 3 => s.saveCount
  | 0x2190, 2 => s.slotState 0
  | 0x2190, 3 => s.slotState 1
  | 0x2190, 4 => (s.slot 0).versionOf.toNat
  | 0x2190, 5 => (s.slot 1).versionOf.toNat
  | 0x2190, 8 => s.fw.update
  | 0x2190, 9 => s.preferredSlot
  | _, _ => s.obj ix sub

/-- Clocks, time base, domains (Tables 13.6, 14.7). -/
def State.readClock (s : State) (ix sub : Nat) : Nat :=
  let t := s.time
  if ix = 0x2200 then
    match sub with
    | 1 => s.now
    | 2 => s.stamp % 65536
    | 3 => roleCode t.role
    | 4 => match t.upstream with | some p => p.toNat | none => 0xFF
    | 5 => signedBits 32 t.offset
    | 6 => signedBits 32 t.c
    | 8 => t.source
    | 9 => t.hops
    | 0xA => t.ext10Valid.toNat + 2 * t.ppsValid.toNat
    | _ => s.obj ix sub
  else if 0x2210 ≤ ix ∧ ix < 0x2230 then
    match sub with
    | 1 => (s.cluster (ix - 0x2210)).clock
    | 3 => (s.cluster (ix - 0x2210)).ceiling
    | _ => s.obj ix sub
  else if 0x2230 ≤ ix ∧ ix < 0x2234 ∧ sub = 3 then s.eps.toList.getD (ix - 0x2230) 0
  else if ix = 0x2240 then s.outputsOn.toNat
  else if 0x2300 ≤ ix ∧ ix < 0x2328 then
    let x := s.domain (ix - 0x2300)
    match sub with
    | 1 => domainCode x.state
    | 2 => x.contained.toNat
    | 3 => x.request
    | 4 => x.queued
    | 5 => x.imageLost.toNat
    | _ => s.obj ix sub
  else if ix = 0x2380 ∧ sub = 5 then s.power
  else if 0x2390 ≤ ix then signedBits 16 (s.temps.getD (ix - 0x2390) 0)
  else s.obj ix sub

/-- Engines of cluster c that are retired (0x2600 + c:03). -/
def State.retiredEngines (s : State) (c : Nat) : Nat := ((List.range 16).filter (fun i => s.retiredEngine (16 * c + i))).length

/-- Engines, clusters, flights (Tables 16.8, 16.9, 4.1). -/
def State.readEngineObj (s : State) (ix sub : Nat) : Nat :=
  if ix < 0x2600 then
    let g := ix - 0x2400
    match sub with
    | 6 => s.logical g s.noc.gen
    | 7 => (s.retiredEngine g).toNat
    | 8 => (s.tu g).lur
    | 9 => (s.tu g).ready.length
    | 0xA => (s.tu g).credits
    | 0xB => (s.unitStopped g).toNat
    | 0xC => (s.core g).act.isSome.toNat
    | _ => s.obj ix sub
  else if ix < 0x2800 then
    let c := ix - 0x2600
    match sub with
    | 1 => match s.flightOf c with | some f => f | none => 0xFF
    | 3 => s.retiredEngines c
    | 4 => s.logicalCluster c
    | _ => s.obj ix sub
  else if ix < 0x2820 then
    let x := s.flight (ix - 0x2800)
    match sub with
    | 1 => flightCode x.state
    | 5 => x.tether
    | 9 => x.haltEpoch
    | 0xA => x.view
    | 0x10 => x.becalmed.toNat
    | 0x11 => x.reason
    | 0x12 => x.lost.toNat
    | _ => s.obj ix sub
  else s.obj ix sub

/-- Retirement entries in force as the list object's bytes (0x2E90:04). -/
def retiredValue (l : List (BitVec 64)) : Nat := l.foldr (fun e v => e.toNat + 2 ^ 64 * v) 0

/-- Network, ports, protection (Tables 11.8, 12.7, 12.8, 10.8). -/
def State.readNet (s : State) (ix sub : Nat) : Nat :=
  if ix = 0x2A00 then
    match sub with
    | 1 => s.noc.gen.toNat
    | 2 => s.noc.drain
    | 3 => s.oldPackets
    | _ => s.obj ix sub
  else if ix = 0x2C00 then
    match sub with
    | 1 => s.devId
    | 6 => s.absentMap.toNat
    | _ => s.obj ix sub
  else if 0x2C20 ≤ ix ∧ ix < 0x2C28 then
    let y := s.port (ix - 0x2C20)
    match sub with
    | 1 => portCode y
    | 5 => y.partner
    | 6 => y.partnerPort
    | 7 => y.kind
    | _ => s.obj ix sub
  else if ix = 0x2E90 then
    match sub with
    | 1 => s.retired.length
    | 4 => retiredValue s.retired
    | _ => s.obj ix sub
  else s.obj ix sub

/-- Levels pending by level (0x3000:01). -/
def State.pendingSummary (s : State) : Nat :=
  (List.range 4).foldl (fun v k => if s.levelPending (k + 1) then v + 2 ^ (k + 1) else v) 0

/-- Collector, host, bog, trace (Tables 15.9, 16.11, 19.2, R81). -/
def State.readFault (s : State) (ix sub : Nat) : Nat :=
  let c := s.col
  match ix, sub with
  | 0x3000, 1 => s.pendingSummary
  | 0x3001, 1 => c.record.toNat
  | 0x3001, 2 => c.full.toNat
  | 0x3002, 5 => c.armed.toNat
  | 0x3003, 1 => c.head
  | 0x3003, 3 => match s.selectedEntry with | some x => x.toNat | none => 0
  | 0x3003, 9 => (tget 0 c.pinned (s.obj 0x3003 4)).toNat
  | 0x3500, 1 => s.host.link
  | 0x3500, 2 => s.host.speed.toNat
  | 0x3500, 6 => if s.obj ix sub = unwritten then Config.subsystemIds % 2 ^ 32 else s.obj ix sub
  | 0x3600, 2 => s.trace.state
  | 0x3600, 5 => s.trace.dropped
  | 0x3600, 6 => s.trace.time
  | 0x3600, 7 => s.trace.firing
  | _, _ =>
    if 0x3410 ≤ ix ∧ ix < 0x3430 ∧ sub = 4 then s.bogFill (ix - 0x3410)
    else if 0x3410 ≤ ix ∧ ix < 0x3430 ∧ sub = 5 then (s.flight (ix - 0x3410)).peak
    else if 0x3610 ≤ ix ∧ ix < 0x3620 then
      let b := s.traceBuf (ix - 0x3610)
      match sub with
      | 2 => b.index
      | 3 => b.wrapped.toNat
      | 5 => b.written
      | _ => s.obj ix sub
    else s.obj ix sub

/-- What an object reads as (R313). -/
def State.objValue (s : State) (ix sub : Nat) : Nat :=
  if ix < 0x2200 then s.readManage ix sub
  else if ix < 0x2400 then s.readClock ix sub
  else if ix < 0x2A00 then s.readEngineObj ix sub
  else if ix < 0x3000 then s.readNet ix sub
  else s.readFault ix sub

/-! ### Reading -/

/-- The object is an engine counter of cycles, which the model does not follow (assumption 4); :10, the token unit's waits for bank 0, never
advances (R179). -/
def countsCycles (ix sub : Nat) : Bool :=
  decide (0x3200 ≤ ix) && decide (ix < 0x3400) && (sub == 0xB || (decide (0x11 ≤ sub) && decide (sub ≤ 0x19)))

/-- The object counts the cycles of a cluster clock (assumption 4). -/
def countsClock (ix sub : Nat) : Bool := decide (0x2210 ≤ ix) && decide (ix < 0x2230) && sub == 6

/-- A counter of cycles brought up to date: it has advanced by a free amount, with the overflow bit and vector 3 of a wrap (R325;
assumption 4). -/
def State.advance (s : State) (ix sub : Nat) : State :=
  if countsCycles ix sub then
    let (n, s) := s.fresh
    let (s, wraps) := s.count (ix - 0x3200) sub (Config.freeCount n)
    if wraps then s.vector 3 else s
  else if countsClock ix sub then
    let (n, s) := s.fresh
    s.setObj ix sub ((s.obj ix sub + Config.freeCount n) % 2 ^ 64)
  else s

/-- How an access names an object that does not exist (R320). -/
def missing (ix : Nat) : Nat := if objIndex ix then 0x06090011 else 0x06020000

/-- A dictionary read: its abort code, or its bytes (R11, R311, R313, R320); an uncorrectable error in the object's storage refuses it
(R197, R314). -/
def State.readObject (s : State) (ix sub : Nat) : Sum Nat (List (BitVec 8)) × State :=
  match objInfo ix sub with
  | none => (.inl (missing ix), s)
  | some o =>
    if o.cls = .wo then (.inl 0x06010001, s)
    else if ix = 0x3003 ∧ sub = 3 ∧ s.selectedEntry.isNone then (.inl 0x08000024, s)
    else
      let (bad, s) := s.readAon 0 (256 * ix + sub)
      if bad then (.inl 0x06060000, s)
      else
        let s := s.advance ix sub
        let n := if ix = 0x2E90 ∧ sub = 4 then 8 * s.retired.length else o.bytes
        (.inr (natToBytes n (s.objValue ix sub)), s)

end Sys2Proof.Machine
end

