-- ==== Sys2Proof/Machine/Txn.lean ====
section
/-! DEFINITION. Transactions: staging, validation, application (R45, R70, R71, R186, R207, R208, R212, R225, R227, R228, R316, R327 to
R334, R375, R382), with the rows PREPARATION_DONE, COMMIT_APPLICATION, IDLE_TIMEOUT. -/

namespace Sys2Proof.Machine

/-- Abort codes used here (Table 16.1). -/
def notAgreed : Nat := 0x08000020
def badState : Nat := 0x08000022
def noTxn : Nat := 0x08000021

/-! ### Staging -/

/-- Two staged writes are to the same object, or to the same route entry (R328, R334). -/
def Stage.same (a b : Stage) : Bool := a.index == b.index && a.sub == b.sub && a.route == b.route

/-- A write staged: the latest write stands last; beyond 4,096 objects it is refused (R328). -/
def State.stageWrite (s : State) (x : Stage) : Nat × State :=
  let rest := s.txn.staged.filter (fun y => !y.same x)
  if 4096 ≤ rest.length then (noTxn, s) else (0, { s with txn := { s.txn with staged := rest ++ [x] } })

/-- Entry i of a table replaced. -/
def setEntry (v i e : Nat) : Nat := v - (v / 2 ^ (64 * i) % 2 ^ 64) * 2 ^ (64 * i) + e * 2 ^ (64 * i)

/-- One staged value among the committed ones. -/
def State.applyStage (s : State) (x : Stage) : State :=
  match x.route with
  | some (k, t, i) =>
    (((s.freshAon 0 (256 * (0x2A40 + k) + t)).freshAon 0 (256 * 0x2030 + 4)).setObj 0x2030 4 x.value).setObj (0x2A40 + k) t
      (setEntry (s.obj (0x2A40 + k) t) i x.value)
  | none => (s.freshAon 0 (256 * x.index + x.sub)).setObj x.index x.sub x.value

/-- Every staged value in staging order (R334). -/
def State.applyStages (s : State) : State := s.txn.staged.foldl (fun t x => t.applyStage x) s

/-- A staged object is a route object or a route entry (R227). -/
def Stage.routes (x : Stage) : Bool := x.route.isSome || (decide (0x2A40 ≤ x.index) && decide (x.index < 0x2A6E))

/-! ### Routes -/

/-- The codes of a route, first hop first (R211). -/
def routeCodes (e : Nat) : List Nat := (List.range 14).map (fun i => e / 8 ^ i % 8)

/-- How far a walk has come: nothing yet, on the ring in a direction, in the columns or rows of the mesh in a direction, out of it. -/
inductive Leg where
  | start
  | ring (code : Nat)
  | column (east : Option Bool)
  | row (code : Nat)
  | out
  deriving DecidableEq, Repr

/-- The router a route ends at, when it has one of the two forms (R212): no later move of a mesh route comes back, so an express hop
overshoots no target. -/
def walk (k : Nat) (leg : Leg) : List Nat → Option Nat
  | [] => none
  | c :: l =>
    if c = 0 then some k else
    match neighbour k c with
    | none => none
    | some (n, _) =>
      if 32 ≤ k then
        match leg with
        | .start => if c = 1 then walk n (.column none) l else walk n (.ring c) l
        | .ring d => if c = d then walk n (.ring c) l else none
        | _ => none
      else if 32 ≤ n then walk n .out l
      else
        let east := c == 2 || (c == 5 && decide (k % 8 ≤ 3))
        let across := c == 2 || c == 4 || c == 5
        match leg with
        | .start => if across then walk n (.column (some east)) l else walk n (.row c) l
        | .column none => if across then walk n (.column (some east)) l else walk n (.row c) l
        | .column (some d) => if across then (if d = east then walk n leg l else none) else walk n (.row c) l
        | .row d => if c = d then walk n leg l else none
        | _ => none

/-- The router an entry must reach: the cluster of a cluster entry, the port an entry to a device names, the unit of a service entry
(R212, Tables 11.8, 11.9). -/
def State.entryTarget (t : State) (gen : Bool) (tbl i e : Nat) : Option Nat :=
  match tbl with
  | 1 => t.physicalCluster i gen
  | 2 => some (36 + e / 2 ^ 44 % 8)
  | _ => match i with | 0 => some 45 | 1 => some 44 | 2 => some 32 | 3 => some 33 | 4 => some 34 | 5 => some 35 | _ => none

/-- An entry at router k leads to its target (R212). -/
def State.entryLeads (t : State) (k tbl i e : Nat) : Bool :=
  match walk k .start (routeCodes e), t.entryTarget t.noc.gen tbl i e with
  | some a, some b => a == b
  | _, _ => false

/-- Number of entries of a table (Table 11.8). -/
def tableSize (tbl : Nat) : Nat := match tbl with | 1 => 32 | 2 => 1024 | _ => 8

/-- Fields of an entry that a commit sets: route and egress port. -/
def entryFields (e : Nat) : Nat := e % 2 ^ 42 + e / 2 ^ 44 % 8 * 2 ^ 44

/-- Entry i of a table value is one that a commit may write: a legal route, or zero for none (R212). -/
def State.entryOk (t : State) (k tbl v i : Nat) : Bool :=
  let e := entryFields (v / 2 ^ (64 * i) % 2 ^ 64)
  e == 0 || t.entryLeads k tbl i e

/-- A table staged whole, or one entry of it, passes R212. -/
def State.routeFault (t : State) (x : Stage) : Nat :=
  match x.route with
  | some (k, tbl, i) => if t.entryOk k tbl (t.obj (0x2A40 + k) tbl) i then 0 else notAgreed
  | none =>
    let k := x.index - 0x2A40
    if x.sub ≤ 3 ∧ ¬ (List.range (tableSize x.sub)).all (fun i => t.entryOk k x.sub (t.obj x.index x.sub) i) then notAgreed else 0

/-- A table with the state field of every entry set by the power sequencer: invalid where no route leads to the target (R225). -/
def State.withStates (t : State) (k tbl v : Nat) : Nat :=
  (List.range (tableSize tbl)).foldl (fun v i =>
    let e := entryFields (v / 2 ^ (64 * i) % 2 ^ 64)
    let st := if t.entryLeads k tbl i e then (if tbl = 1 then t.sequencerState i else 1) else 0
    setEntry v i (e + st * 2 ^ 42)) v

/-- The tables a commit has staged, by router and table. -/
def Stage.table (x : Stage) : Option (Nat × Nat) :=
  match x.route with
  | some (k, tbl, _) => some (k, tbl)
  | none => if x.routes ∧ x.sub ≤ 3 then some (x.index - 0x2A40, x.sub) else none

/-- State fields of the staged tables, and of the cluster tables that a domain's state has changed (R225, R227). -/
def State.sequenceStates (t : State) : State :=
  let tables := (t.txn.staged.filterMap Stage.table).eraseDups
  (tables.foldl (fun t (k, tbl) => t.setObj (0x2A40 + k) tbl (t.withStates k tbl (t.obj (0x2A40 + k) tbl))) t).setEntryStates

/-! ### Cross-object checks -/

/-- Two regions have a word in common. -/
def Region.meets (a b : Region) : Bool :=
  decide (1 ≤ a.kind) && decide (1 ≤ b.kind) && decide (a.base < b.base + b.length) && decide (b.base < a.base + a.length)

/-- Region r of a state meets the list of R186. -/
def State.regionOk (t : State) (r : Nat) : Bool :=
  let x := t.region r
  x.kind == 0 ||
  (x.base % 6144 == 0 && x.length % 6144 == 0 && x.length != 0 && decide (x.base + x.length ≤ 28991029248) &&
   (List.range 64).all (fun q => q == r || !(x.meets (t.region q))) &&
   (x.kind != 4 || (decide (x.length ≤ 3221225472) && (List.range 64).all (fun q => q == r || (t.region q).kind != 4))) &&
   (if x.kind = 3 ∨ x.kind = 4 then x.flight == 0xFF else decide (x.flight < 32)) &&
   (x.kind != 5 || (decide (1087488 ≤ x.length) &&
     (List.range 64).all (fun q => q == r || (t.region q).kind != 5 || (t.region q).flight != x.flight))))

/-- A flight that is RUNNING, HALTING or MIRED. -/
def State.flightActive (s : State) (f : Nat) : Bool :=
  let st := (s.flight f).state
  st == .running || st == .halting || st == .mired

/-- Region r may be changed now (R186). -/
def State.regionFree (s : State) (r : Nat) : Bool :=
  let x := s.region r
  match x.kind with
  | 0 => true
  | 3 => s.obj 0x3600 1 == 0 || (List.range 16).all (fun b => s.obj (0x3610 + b) 1 != r)
  | 4 => (List.range 32).all (fun f => s.obj (0x3410 + f) 1 == 0 || (s.flight f).state == .idle)
  | _ => decide (32 ≤ x.flight) || !s.flightActive x.flight

/-- Fields of a retirement entry within range, the others zero (R207, Table 10.9). -/
def retireOk (e : Nat) : Bool :=
  match e % 16 with
  | 1 => decide (e < 2 ^ 18)
  | 2 => decide (e < 2 ^ 13)
  | 3 => decide (e < 2 ^ 32) && decide (e / 2 ^ 11 % 64 < 48) && decide (e / 2 ^ 17 % 2 ^ 15 < 24576)
  | 4 => decide (e < 2 ^ 13)
  | _ => false

/-- An entry added to the list, once. -/
def addEntry (l : List (BitVec 64)) (e : BitVec 64) : List (BitVec 64) := if l.contains e then l else l ++ [e]

/-- The list with one staged retirement or unretirement in force (R207). -/
def retireEntry (l : List (BitVec 64)) (x : Stage) : List (BitVec 64) :=
  let e := BitVec.ofNat 64 x.value
  if x.index ≠ 0x2E90 then l else if x.sub = 2 then addEntry l e else if x.sub = 3 then l.filter (fun y => y != e) else l

/-- Refusal of a retirement (R207, R208), against the list `l` with every staged entry in force. -/
def State.retireFault (t : State) (l : List (BitVec 64)) (v : Nat) : Nat :=
  let e := BitVec.ofNat 64 v
  let g := v / 16 % 512
  let active : Bool := match t.flightOf (clusterOf g) with | some f => (t.flight f).state != .idle | none => false
  if ¬ retireOk v ∨ 4096 < l.length then notAgreed
  else if ¬ retiresEngine g e then 0
  else if active then badState
  else if 4 < ((List.range 16).filter (fun i => l.any (retiresEngine (16 * clusterOf g + i)))).length then notAgreed else 0

/-- Refusal of a flight command, or of a changed start epoch while LOADED (R71, R94, R382). -/
def State.commandVerdict (s t : State) (f cmd : Nat) : Nat :=
  let o := 0x2800 + f
  if t.obj o 0xC ≠ t.devId ∨ t.obj o 0xD ≠ 0xFF ∨ t.obj o 2 = 0 then badState
  else t.commandRefusal f cmd (s.txn.staged.any (fun x => x.index == o && x.sub == 6))

/-- How one staged object fails against the state with all staged values in place: abort code, index and sub-index named; code 0: it
passes. -/
def State.stageFault (s t : State) (x : Stage) : Nat × Nat × Nat :=
  let own := fun c => (c, x.index, x.sub)
  let ix := x.index
  if x.routes then own (t.routeFault x)
  else if 0x2800 ≤ ix ∧ ix < 0x2820 then
    let f := ix - 0x2800
    match x.sub with
    | 2 => own (if anyTo 32 (fun c => t.inFlight f c && anyTo 32 (fun g => g != f && t.inFlight g c)) then notAgreed else 0)
    | 3 => own (if 16384 < t.obj ix 4 * t.obj ix 3 then notAgreed else 0)
    | 4 => own (if 16384 < t.obj ix 4 * t.obj ix 3 then notAgreed else 0)
    | 6 => own (if (s.flight f).state = .loaded ∧ s.obj ix 6 ≠ x.value then badState else 0)
    | 7 => own (s.commandVerdict t f x.value)
    | _ => own 0
  else if ix = 0x2E90 ∧ x.sub = 2 then own (t.retireFault (s.txn.staged.foldl retireEntry t.retired) x.value)
  else if ix = 0x2E90 ∧ x.sub = 3 then own (if retireOk x.value then 0 else notAgreed)
  else if 0x3440 ≤ ix ∧ ix < 0x3480 then
    own (if ¬ (List.range 64).all (fun r => t.regionOk r) then notAgreed
         else if s.obj ix x.sub ≠ x.value ∧ ¬ s.regionFree (ix - 0x3440) then badState else 0)
  else if 0x3610 ≤ ix ∧ ix < 0x3620 then
    own (if s.obj 0x3600 1 = 1 then badState
         else if x.value = 0xFF then 0
         else if (t.region x.value).kind ≠ 3 ∨ anyTo 16 (fun b => 0x3610 + b != ix && t.obj (0x3610 + b) 1 == x.value) then badState else 0)
  else own 0

/-! ### The commit point -/

/-- The commit is at the waterline (Table 16.12). -/
def Txn.atWaterline (x : Txn) : Bool := x.point.testBit 63

/-- Flight and epoch of the commit point. -/
def Txn.pointFlight (x : Txn) : Nat := x.point / 2 ^ 48 % 32
def Txn.pointEpoch (x : Txn) : Nat := x.point % 2 ^ 48

/-- The commit point holds on this device: at once, or when its view stands at or above the epoch (R330). -/
def State.pointHolds (s : State) : Bool := !s.txn.atWaterline || decide (s.txn.pointEpoch ≤ (s.flight s.txn.pointFlight).view)

/-- Refusal of a transaction as a whole: a waterline point of a flight with no cluster here, or that has gone into or out of IDLE
(R331); a flip during a drain (R228). -/
def State.wholeFault (s : State) : Nat × Nat × Nat :=
  if s.txn.atWaterline ∧ (s.txn.flightChanged ∨ s.obj (0x2800 + s.txn.pointFlight) 2 = 0) then (badState, 0x2000, 3)
  else if s.noc.drain ≠ 0 ∧ s.txn.staged.any Stage.routes then (badState, 0x2A00, 0)
  else (0, 0, 0)

/-- Validation: the first failure, code 0 when every check passes (R330). -/
def State.validate (s : State) : Nat × Nat × Nat :=
  let w := s.wholeFault
  if w.1 ≠ 0 then w else
  let t := s.applyStages
  match (s.txn.staged.map (fun x => s.stageFault t x)).find? (fun e => e.1 != 0) with
  | some e => e
  | none => (0, 0, 0)

/-- A failed validation: status 6, the error kept, nothing applied (R330). -/
def State.refuseTxn (s : State) (e : Nat × Nat × Nat) : State := ({ s with txn := { s.txn with error := e } }).endTxn 6

/-! ### Application -/

/-- Backlogs of strobes that name no flight with a cluster here are cleared (R275). -/
def State.clearStrobes (s : State) : State :=
  (List.range 4).foldl (fun s i =>
    let f := s.obj (0x2230 + i) 1
    if 32 ≤ f ∨ s.obj (0x2800 + f) 2 = 0 then { s with eps := s.eps.setIfInBounds i 0 } else s) s

/-- Retirement entries added and removed (R207, R208). -/
def State.applyRetire (s : State) (x : Stage) : State :=
  let e := BitVec.ofNat 64 x.value
  { s with
    retired := retireEntry s.retired x,
    unretired := if x.index ≠ 0x2E90 then s.unretired
      else if x.sub = 2 then s.unretired.filter (fun y => y != e)
      else if s.retired.contains e then addEntry s.unretired e else s.unretired }

/-- A cluster that leaves its flight loses image lost and returns to its ceiling (R77, R283). -/
def State.leaveFlight (s : State) (c : Nat) : State :=
  (s.setDomain c { s.domain c with imageLost := false }).wantClock c (s.cluster c).ceiling

/-- What follows in the part from committed values: clusters that left a flight, strobes, the node-ID, the device ID,
the CAN port's rates, at which it returns to the bus without the transfers that stood open, the external reference (R77, R248, R269, R275,
R283, R316, R321). -/
def State.afterValues (s old : State) : State :=
  let touched := fun ix sub => s.txn.staged.any (fun x => x.index == ix && x.sub == sub)
  let s := (List.range 32).foldl (fun s c => if (old.flightOf c).isSome ∧ old.flightOf c ≠ s.flightOf c then s.leaveFlight c else s) s
  let s := s.clearStrobes
  let s := if old.obj 0x2100 7 ≠ s.obj 0x2100 7 then s.put (.bootUp s.nodeId) else s
  let s := if old.obj 0x2100 6 ≠ s.obj 0x2100 6 then { s with can := { s.can with rates := s.obj 0x2100 6, transfers := [] } } else s
  let s := if touched 0x2C00 2 ∧ s.obj 0x2C00 2 = 0 then { s with upperId := none } else s
  let s := if touched 0x2C00 2 ∨ touched 0x2C00 3 then s.announceIds else s
  if old.obj 0x2200 0xB ≠ s.obj 0x2200 0xB then s.externalChange else s

/-- The restart epoch, halt target or start epoch that goes with a command (R75, R90, R94). -/
def State.commandArg (s : State) (staged : List Stage) (f cmd : Nat) : Nat :=
  let o := 0x2800 + f
  match cmd with
  | 3 => s.obj o 8
  | 5 => if staged.any (fun x => x.index == o && x.sub == 6) then s.obj o 6 else (s.flight f).haltEpoch + 1
  | _ => s.obj o 6

/-- Flight commands issued in staging order (R330, R382). -/
def State.issueCommands (s : State) (staged : List Stage) : State :=
  staged.foldl (fun s x =>
    if 0x2800 ≤ x.index ∧ x.index < 0x2820 ∧ x.sub = 7 then
      let f := x.index - 0x2800
      s.rootCommand f x.value (s.commandArg staged f x.value)
    else s) s

/-- Every staged value takes effect in one step: values, retirement, routes with the flip, flight commands; status 4 (R330). -/
def State.applyTxn (s : State) : State :=
  let staged := s.txn.staged
  let old := s
  let t := staged.foldl (fun t x => t.applyRetire x) s.applyStages
  let t := if staged.any Stage.routes then
      let t := t.sequenceStates.flip
      { t with noc := { t.noc with oldRoutes := old.routeObjects } }
    else t
  let t := t.afterValues old
  (t.issueCommands staged).endTxn 4

/-- Application: validation repeated; a waterline commit that fails raises event 0x40 (R330). -/
def State.applyCommit (s : State) : State :=
  let e := s.validate
  if e.1 = 0 then s.applyTxn
  else
    let t := s.refuseTxn e
    if s.txn.atWaterline then t.raise (srcId 25 7) 0x40 2 (256 * e.2.1 + e.2.2) e.1 else t

/-! ### TXN_CTRL -/

/-- Begin (R327). -/
def State.begin (s : State) (path : Path) : Nat × State :=
  if 1 ≤ s.txn.status ∧ s.txn.status ≤ 3 then (badState, s)
  else (0, ({ s with txn := { Txn.reset with status := 1, owner := some path, seq := s.txn.seq + 1 } }).setObj 0x2000 3 0)

/-- Commit: validation, then preparation begins (R327, R330). -/
def State.commitTxn (s : State) (path : Path) (seq : BitVec 16) : Nat × State :=
  if seq ≠ s.txn.seq then (noTxn, s)
  else if s.txn.status ≠ 1 then (badState, s)
  else if s.txn.owner ≠ some path then (noTxn, s)
  else
    let s := { s with txn := { s.txn with point := s.obj 0x2000 3, flightChanged := false } }
    let e := s.validate
    if e.1 = 0 then (0, { s with txn := { s.txn with status := 2 } }) else (e.1, s.refuseTxn e)

/-- Rollback, from either path (R327). -/
def State.rollbackTxn (s : State) (seq : BitVec 16) : Nat × State :=
  if seq ≠ s.txn.seq then (noTxn, s)
  else if ¬ (1 ≤ s.txn.status ∧ s.txn.status ≤ 3) then (badState, s)
  else (0, s.endTxn 5)

/-- A write to TXN_CTRL (Table 16.12). -/
def State.txnControl (s : State) (path : Path) (v : Nat) : Nat × State :=
  let seq := BitVec.ofNat 16 (v / 65536)
  match v % 256 with
  | 1 => s.begin path
  | 2 => s.commitTxn path seq
  | 3 => s.rollbackTxn seq
  | _ => (0x06090030, s)

/-! ### Rows -/

/-- PREPARATION_DONE: status 3, and an immediate commit is applied (R330). -/
def execPreparationDone (s : State) : Host.Outcome State Fault Refusal :=
  .next (if s.txn.status ≠ 2 then s else
    let s := { s with txn := { s.txn with status := 3 } }
    if s.txn.atWaterline then s else s.applyCommit)

/-- COMMIT_APPLICATION, at the commit point (R330, R331). -/
def execCommitApplication (s : State) : Host.Outcome State Fault Refusal :=
  .next (if s.txn.status = 3 ∧ s.pointHolds then s.applyCommit else s)

/-- IDLE_TIMEOUT: an open transaction is rolled back with status 7 (R329). -/
def execIdleTimeout (s : State) : Host.Outcome State Fault Refusal := .next (if s.txn.status = 1 then s.endTxn 7 else s)

end Sys2Proof.Machine
end

