-- ==== Sys2Proof/Machine/Dict.lean ====
section
/-! DEFINITION. Writing the object dictionary: checks, effects by object, and the rows that are writes to one object (R11, R278, R293,
R299, R300, R303, R304, R309, R312 to R334, R346, R353, R354, R377). -/

namespace Sys2Proof.Machine

/-! ### Effects -/

/-- Epoch triggers looked at anew, when armed or written (R376). -/
def State.recheckTriggers (s : State) : State :=
  (List.range 4).foldl (fun s n =>
    if s.obj (0x3620 + n) 1 = 1 ∧ s.obj (0x3620 + n) 3 ≤ (s.flight (s.obj (0x3620 + n) 2)).view then s.fireTrigger n 0 (s.obj (0x3620 + n) 3)
    else s) s

/-- Capture enable written (R377): a trace capture unit whose domain is not in service arms nothing (R282; assumption 97). -/
def State.setCapture (s : State) (on : Bool) : Nat × State :=
  if on then
    if s.capturing ∨ (s.domain 39).state ≠ .live ∨ (s.domain 39).contained then (badState, s)
    else
      let s := s.setObj 0x3600 1 1
      let s := { s with trace := { s.trace with bufs := [], dropped := 0, time := 0, firing := 0xFF } }
      (0, (s.enterCapture 1).recheckTriggers)
  else (0, (s.setObj 0x3600 1 0).enterCapture 3)

/-- A device reset: everything anew with the rails up; start-up then runs from step 2 (R346, R348). -/
def State.deviceReset (s : State) : State := s.resetAll s.porst

/-- A firmware image written into the inactive slot (R353). -/
def State.writeImage (s : State) (l : List (BitVec 8)) : Nat × State :=
  if s.fw.update = 3 ∨ s.fw.update = 4 then (badState, s)
  else
    let ok := imageValid l
    (0, (s.setSlotImage s.inactiveSlot { state := if ok then 1 else 2, version := imageVersion l, image := l }).enterUpdate 2)

/-- A switch to the inactive slot asked for (R354). -/
def State.requestSwitch (s : State) : Nat × State :=
  if s.fw.update = 3 ∨ s.fw.update = 4 ∨ (s.slot s.inactiveSlot).state ≠ 1 then (badState, s) else (0, s.enterUpdate 3)

/-- Save of the non-volatile defaults (R322). -/
def State.requestSave (s : State) : Nat × State :=
  if 1 ≤ s.txn.status ∧ s.txn.status ≤ 3 then (badState, s) else (0, s.saveDefaults)

/-- Pinned entries freed (R309). -/
def State.clearPinned (s : State) : Nat × State :=
  if s.col.full then (badState, s) else (0, { s with col := { s.col with pinned := [] } })

/-- A write to an engine counter: the count set, the overflow bit cleared by a 1 (R325). -/
def State.writeCounter (s : State) (ix sub v : Nat) : State :=
  if sub = 0x20 then s.setObj ix sub v
  else s.setObj ix sub (v % 2 ^ 48 + (if v.testBit 48 then 0 else s.obj ix sub / 2 ^ 48 % 2 * 2 ^ 48))

/-- The bits a source's configuration word has (Table 15.4). -/
def configMask : Nat := 2 ^ 39 - 1 + 127 * 2 ^ 40 + 127 * 2 ^ 48

/-- The range of an object that depends on other objects (R76, R287, R372, Table 16.13). -/
def State.rangeOk (s : State) (ix sub v : Nat) : Bool :=
  if ix = 0x2030 ∧ sub = 3 then (match s.obj 0x2030 2 with | 1 => decide (v < 32) | 3 => decide (v < 8) | _ => true)
  else if ix = 0x2380 ∧ sub = 3 then decide (v + 3 ≤ s.obj 0x2380 2)
  else if 0x2820 ≤ ix ∧ ix < 0x2840 ∧ sub = 1 then decide (v ≤ s.obj (ix - 0x20) 3)
  else if 0x3640 ≤ ix ∧ ix < 0x3680 then
    (if sub % 4 = 2 then decide (v + s.obj ix (sub + 1) ≤ 16384) else if sub % 4 = 3 then decide (s.obj ix (sub - 1) + v ≤ 16384) else true)
  else true

/-- What a write of an rw, lv or wo object does: abort code, state after (R11). -/
def State.writeEffect (s : State) (path : Path) (ix sub v : Nat) (bytes : List (BitVec 8)) : Nat × State :=
  match ix, sub with
  | 0x1003, _ => (0, { s with col := { s.col with errors := [] } })
  | 0x2000, 1 => s.txnControl path v
  | 0x2100, 0xF => (0, s.deviceReset)
  | 0x2180, 1 => s.requestSave
  | 0x2180, 2 => (0, { s with fw := { s.fw with factoryNext := true } })
  | 0x2190, 1 => s.writeImage bytes
  | 0x2190, 6 => s.requestSwitch
  | 0x3001, 2 => (0, { s with col := { s.col with record := 0, full := false } })
  | 0x3002, 5 => s.writeArm v
  | 0x3003, 7 => s.clearPinned
  | 0x3600, 1 => s.setCapture (v == 1)
  | _, _ =>
    if 0x2210 ≤ ix ∧ ix < 0x2230 then (0, s.clockRequestStep (ix - 0x2210) v)
    else if 0x2230 ≤ ix ∧ ix < 0x2234 then (0, (s.setObj ix sub v).clearStrobes)
    else if 0x2300 ≤ ix ∧ ix < 0x2328 then s.domainRequest path (ix - 0x2300) v
    else if 0x2C20 ≤ ix ∧ ix < 0x2C28 ∧ sub = 2 then (0, s.setPortEnable (ix - 0x2C20) (v == 1))
    else if 0x3040 ≤ ix ∧ ix < 0x305E then (0, s.setObj ix sub (v &&& configMask))
    else if 0x3060 ≤ ix ∧ ix < 0x307E then (0, s.clearStatus (srcId (ix - 0x3060) (sub - 1)) v)
    else if 0x3200 ≤ ix ∧ ix < 0x3400 then (0, s.writeCounter ix sub v)
    else if 0x3620 ≤ ix ∧ ix < 0x3624 then (0, (s.setObj ix sub v).recheckTriggers)
    else (0, s.setObj ix sub v)

/-! ### The write -/

/-- The length a write must have: an image any length up to its slot, every other object its own (R313, R319, R353). -/
def lengthOk (ix sub : Nat) (o : ObjInfo) (n : Nat) : Bool :=
  if ix = 0x2190 ∧ sub = 1 then decide (1 ≤ n) && decide (n ≤ o.bytes) else n == o.bytes

/-- Type, length and range of a write: 0 when they are right (R313). -/
def State.checkWrite (s : State) (ix sub : Nat) (o : ObjInfo) (bytes : List (BitVec 8)) : Nat :=
  if ¬ lengthOk ix sub o bytes.length then 0x06070010
  else if o.domain then 0
  else
    let v := bytesToNat bytes
    if 2 ^ o.bits ≤ v then 0x06070010
    else if ¬ o.ok v ∨ ¬ s.rangeOk ix sub v then 0x06090030 else 0

/-- A route entry staged through 0x2030:04 (R334): its router, table and entry must agree. -/
def State.stageRoute (s : State) (v : Nat) : Nat × State :=
  let tbl := s.obj 0x2030 2
  let i := s.obj 0x2030 3
  if tbl = 0 ∨ tableSize tbl ≤ i then (notAgreed, s)
  else s.stageWrite { index := 0x2030, sub := 4, route := some (s.obj 0x2030 1, tbl, i), value := entryFields v }

/-- A write to a tx object: an open transaction of this path, then type, length and range, then the staging (R328). -/
def State.writeTx (s : State) (path : Path) (ix sub : Nat) (o : ObjInfo) (bytes : List (BitVec 8)) : Nat × State :=
  if s.txn.status ≠ 1 ∨ s.txn.owner ≠ some path then (noTxn, s)
  else
    let e := s.checkWrite ix sub o bytes
    if e ≠ 0 then (e, s)
    else if ix = 0x2030 then s.stageRoute (bytesToNat bytes)
    else s.stageWrite { index := ix, sub := sub, route := none, value := bytesToNat bytes }

/-- A dictionary write over a path: abort code, 0 for success, and the state after (R313, R314, R316, R320). -/
def State.dictWrite (s : State) (path : Path) (ix sub : Nat) (bytes : List (BitVec 8)) : Nat × State :=
  match objInfo ix sub with
  | none => (missing ix, s)
  | some o =>
    if path = .pcie ∧ (ix = 0x2326 ∨ (ix = 0x2100 ∧ sub = 0xF)) then (0x06010000, s) else
    match o.cls with
    | .const => (0x06010002, s)
    | .ro => (0x06010002, s)
    | .tx => s.writeTx path ix sub o bytes
    | _ =>
      let e := s.checkWrite ix sub o bytes
      if e ≠ 0 then (e, s) else (s.freshAon 0 (256 * ix + sub)).writeEffect path ix sub (bytesToNat bytes) bytes

/-! ### Access over a path -/

/-- The dictionary is reachable: from CONFIG on (Table 17.9). -/
def State.dictOpen (s : State) : Bool := s.dev == .config || s.dev == .live || s.dev == .degraded

/-- The fault source of an aborted access (Tables 15.1, 15.2). -/
def abortSource (path : Path) : Nat := match path with | .can => srcId 25 3 | .pcie => srcId 25 7

/-- An abort is event 0x40, naming the object and the code (Table 15.2). -/
def State.abortEvent (s : State) (path : Path) (ix sub code : Nat) : State :=
  if code = 0 then s else s.raise (abortSource path) 0x40 2 (256 * ix + sub) code

/-- The mailbox replaced. -/
def State.setMb (s : State) (m : Mailbox) : State := { s with host := { s.host with mb := m } }

/-- A mailbox command completed: done, its sequence, its code, vector 0 where asked for (R318, Table 16.4). -/
def State.mbDone (s : State) (cmd : BitVec 32) (code : Nat) : State :=
  let m := s.host.mb
  let s := s.setMb { m with busy := false, done := true, seq := cmd.extractLsb' 16 16, abort := BitVec.ofNat 32 code }
  let s := s.abortEvent .pcie m.object.1 m.object.2 code
  if cmd.getLsbD 3 then s.vector 0 else s

/-- A write being collected is discarded; an image's update fails with it (R319, Table 17.10). -/
def State.dropCollect (s : State) : State :=
  let m := s.host.mb
  let s := if s.fw.update = 1 ∧ m.collect.isSome then s.enterUpdate 6 else s
  s.setMb { m with collect := none }

/-- MB_CMD of a write that a row of its own stands for: one chunk ends it, with sequence 0 and no notify (assumption 98). -/
def rowCommand : BitVec 32 := 6

/-- The mailbox registers as the host writes them for such a row: index, length, offset and data of the write's last chunk (R318, R319). -/
def Mailbox.loaded (m : Mailbox) (ix sub : Nat) (bytes : List (BitVec 8)) : Mailbox :=
  let o := (bytes.length - 1) / 4096 * 4096
  { m with
    index := BitVec.ofNat 32 (ix + 2 ^ 16 * sub), len := BitVec.ofNat 32 (bytes.length - o), offset := BitVec.ofNat 32 o,
    data := tputAll 0 ((List.range (bytes.length - o)).zip ((bytes.drop o).map (·.toNat))) m.data }

/-- The outcome of an access reported on its path: over CAN in a USDO response on 0x580 + node-ID, over PCIe in the mailbox's registers (R314,
R315, R318). -/
def State.report (s : State) (path : Path) (ix sub code : Nat) (bytes : List (BitVec 8)) : State :=
  let s := { s with reply := some { path := path, abort := BitVec.ofNat 32 code, bytes := bytes } }
  match path with
  | .can => (s.put (.usdo (0x580 + s.nodeId) (BitVec.ofNat 32 code) bytes)).abortEvent .can ix sub code
  | .pcie => s.mbDone rowCommand code

/-- A write served and reported; a device reset leaves no one to report. Between the chunks of a mailbox write, another mailbox access is
refused and discards that write (R319). -/
def State.serveAccess (s : State) (path : Path) (ix sub : Nat) (bytes : List (BitVec 8)) : State :=
  if path = .pcie ∧ s.host.mb.collect.isSome then s.dropCollect.report path ix sub 0x06070010 []
  else
    let (code, t) := s.dictWrite path ix sub bytes
    if t.dev = .off then t else t.report path ix sub code []

/-- A write that arrives over a path: not served before CONFIG, over a stopped CAN port or by a function out of service, refused by the
mailbox in boot mode, ignored and counted by a busy one, held during a firmware switch (R317, R318, R335, R349, R352, R354). -/
def State.access (s : State) (path : Path) (ix sub : Nat) (bytes : List (BitVec 8)) : State :=
  match path with
  | .can =>
    if ¬ s.dictOpen ∨ s.can.stopped then s
    else if s.fw.held then { s with fw := { s.fw with heldAccesses := s.fw.heldAccesses ++ [.write .can ix sub bytes] } }
    else s.serveAccess .can ix sub bytes
  | .pcie =>
    if ¬ s.hostServes then s.unsupportedWrite
    else if s.host.mb.busy then s.bump 32 0x3500 4
    else
      let s := s.setMb (s.host.mb.loaded ix sub bytes)
      if s.fw.bootMode then s.report .pcie ix sub badState []
      else if ¬ s.dictOpen then s
      else if s.fw.held then
        let s := s.setMb { s.host.mb with busy := true, done := false }
        { s with fw := { s.fw with heldAccesses := s.fw.heldAccesses ++ [.write .pcie ix sub bytes] } }
      else s.serveAccess .pcie ix sub bytes

/-- A write of an n-byte value. -/
def State.accessValue (s : State) (path : Path) (ix sub n v : Nat) : State := s.access path ix sub (natToBytes n v)

/-! ### Rows that are writes -/

/-- BEGIN (R327): 0x2000:01 := 1. -/
def execBeginTxn (path : Path) (s : State) : Host.Outcome State Fault Refusal := .next (s.accessValue path 0x2000 1 4 1)

/-- COMMIT (R327, R330). -/
def execCommit (path : Path) (seq : BitVec 16) (s : State) : Host.Outcome State Fault Refusal :=
  .next (s.accessValue path 0x2000 1 4 (2 + 65536 * seq.toNat))

/-- ROLLBACK (R327). -/
def execRollback (path : Path) (seq : BitVec 16) (s : State) : Host.Outcome State Fault Refusal :=
  .next (s.accessValue path 0x2000 1 4 (3 + 65536 * seq.toNat))

/-- TX_WRITE (R328). -/
def execTxWrite (path : Path) (index : BitVec 16) (sub : BitVec 8) (data : List (BitVec 8)) (s : State) : Host.Outcome State Fault Refusal :=
  .next (s.access path index.toNat sub.toNat data)

/-- OBJECT_WRITE (R11). -/
def execObjectWrite (path : Path) (index : BitVec 16) (sub : BitVec 8) (data : List (BitVec 8)) (s : State) :
    Host.Outcome State Fault Refusal := .next (s.access path index.toNat sub.toNat data)

/-- SAVE (R322). -/
def execSave (path : Path) (s : State) : Host.Outcome State Fault Refusal := .next (s.accessValue path 0x2180 1 1 1)

/-- FACTORY (R322). -/
def execFactory (path : Path) (s : State) : Host.Outcome State Fault Refusal := .next (s.accessValue path 0x2180 2 1 1)

/-- DEVICE_RESET (R346). -/
def execDeviceReset (path : Path) (value : BitVec 8) (s : State) : Host.Outcome State Fault Refusal :=
  .next (s.access path 0x2100 0xF [value])

/-- DEFLATE of domain d (R279, R284). -/
def execDeflate (path : Path) (d : BitVec 6) (s : State) : Host.Outcome State Fault Refusal :=
  .next (s.accessValue path (0x2300 + d.toNat) 3 1 1)

/-- INFLATE of domain d (R283, R284). -/
def execInflate (path : Path) (d : BitVec 6) (s : State) : Host.Outcome State Fault Refusal :=
  .next (s.accessValue path (0x2300 + d.toNat) 3 1 2)

/-- DOMAIN_RESET of domain d (R284, R285). -/
def execDomainReset (path : Path) (d : BitVec 6) (s : State) : Host.Outcome State Fault Refusal :=
  .next (s.accessValue path (0x2300 + d.toNat) 3 1 3)

/-- RECORD_EMPTY (R299). -/
def execRecordEmpty (path : Path) (value : BitVec 8) (s : State) : Host.Outcome State Fault Refusal := .next (s.access path 0x3001 2 [value])

/-- CLEAR_PINNED (R309). -/
def execClearPinned (path : Path) (value : BitVec 8) (s : State) : Host.Outcome State Fault Refusal := .next (s.access path 0x3003 7 [value])

/-- SOURCE_STATUS_CLEAR (R293, R383). -/
def execSourceStatusClear (path : Path) (cls : BitVec 5) (inst : BitVec 5) (mask : BitVec 16) (s : State) : Host.Outcome State Fault Refusal :=
  .next (s.accessValue path (0x3060 + cls.toNat) (inst.toNat + 1) 2 mask.toNat)

/-- ERROR_FIELD_CLEAR (R303). -/
def execErrorFieldClear (path : Path) (value : BitVec 32) (s : State) : Host.Outcome State Fault Refusal :=
  .next (s.accessValue path 0x1003 0 4 value.toNat)

/-- INJECTION_ARM (R304). -/
def execInjectionArm (path : Path) (s : State) : Host.Outcome State Fault Refusal := .next (s.accessValue path 0x3002 5 1 1)

/-- INJECTION_DISARM (R304). -/
def execInjectionDisarm (path : Path) (s : State) : Host.Outcome State Fault Refusal := .next (s.accessValue path 0x3002 5 1 0)

/-- PORT_ENABLE (R246). -/
def execPortEnable (path : Path) (p : BitVec 3) (s : State) : Host.Outcome State Fault Refusal :=
  .next (s.accessValue path (0x2C20 + p.toNat) 2 1 1)

/-- PORT_DISABLE (R255). -/
def execPortDisable (path : Path) (p : BitVec 3) (s : State) : Host.Outcome State Fault Refusal :=
  .next (s.accessValue path (0x2C20 + p.toNat) 2 1 0)

/-- IMAGE_WRITE (R353). -/
def execImageWrite (path : Path) (image : List (BitVec 8)) (s : State) : Host.Outcome State Fault Refusal :=
  .next (s.access path 0x2190 1 image)

/-- ACTIVATE (R354). -/
def execActivate (path : Path) (value : BitVec 8) (s : State) : Host.Outcome State Fault Refusal := .next (s.access path 0x2190 6 [value])

/-- CAPTURE_ENABLE (R377). -/
def execCaptureEnable (path : Path) (s : State) : Host.Outcome State Fault Refusal := .next (s.accessValue path 0x3600 1 1 1)

/-- CAPTURE_DISABLE (R377). -/
def execCaptureDisable (path : Path) (s : State) : Host.Outcome State Fault Refusal := .next (s.accessValue path 0x3600 1 1 0)

/-- POST_TRIGGER_STOP of buffer b (R376). -/
def execPostTriggerStop (b : BitVec 4) (s : State) : Host.Outcome State Fault Refusal := .next (s.stopBuf b.toNat)

end Sys2Proof.Machine
end

