-- ==== Sys2Proof/Machine/Mailbox.lean ====
section
/-! DEFINITION. The PCIe mailbox, its registers and the apertures (R318, R319, R338, R347, R352, R354, Tables 16.3, 16.4, 17.3). -/

namespace Sys2Proof.Machine

/-- A chunk put into MB_DATA with the object's length (Table 16.3). -/
def State.mbAnswer (s : State) (l : List (BitVec 8)) : State :=
  let m := s.host.mb
  let part := (l.drop m.offset.toNat).take m.len.toNat
  s.setMb { m with total := BitVec.ofNat 32 l.length, data := tputAll 0 ((List.range part.length).zip (part.map (·.toNat))) m.data }

/-- The bytes a mailbox read takes its chunk from: the object as it is at offset 0, the image kept of it at a later offset (R312,
R319). -/
def State.mbSource (s : State) : Sum Nat (List (BitVec 8)) × State :=
  let m := s.host.mb
  let (ix, sub) := m.object
  let long : Bool := match objInfo ix sub with | some o => o.domain | none => false
  if m.offset = 0 then
    match s.readObject ix sub with
    | (.inl code, s) => (.inl code, s)
    | (.inr l, s) => (.inr l, s.setMb { s.host.mb with image := if long then some (256 * ix + sub, l) else none })
  else
    match m.image with
    | some (k, l) => if k = 256 * ix + sub ∧ m.offset.toNat < l.length then (.inr l, s) else (.inl 0x06070010, s)
    | none => (.inl 0x06070010, s)

/-- A mailbox read served (R318, R319): a length outside 1 to 4,096 is a length error, and so is a read between the chunks of a
write. -/
def State.mbRead (s : State) (cmd : BitVec 32) : State :=
  let m := s.host.mb
  if m.collect.isSome then s.dropCollect.mbDone cmd 0x06070010
  else if m.len = 0 ∨ 4096 < m.len.toNat then s.mbDone cmd 0x06070010
  else
    match s.mbSource with
    | (.inl code, s) => s.mbDone cmd code
    | (.inr l, s) => (s.mbAnswer l).mbDone cmd 0

/-- The first chunk of an image (Table 17.10). -/
def State.startImage (s : State) (key : Nat) : State := if key = 256 * 0x2190 + 1 then s.enterUpdate 1 else s

/-- A mailbox write served: chunks collected, the object written by the last (R319). -/
def State.mbWrite (s : State) (cmd : BitVec 32) : State :=
  let m := s.host.mb
  let (ix, sub) := m.object
  let key := 256 * ix + sub
  let before : List (BitVec 8) := match m.collect with | some (_, l) => l | none => []
  let follows : Bool := match m.collect with
    | some (k, l) => k == key && m.offset.toNat == l.length
    | none => m.offset == 0
  if m.len = 0 ∨ 4096 < m.len.toNat ∨ ¬ follows then s.dropCollect.mbDone cmd 0x06070010
  else if key = 256 * 0x2190 + 1 ∧ (s.fw.update = 3 ∨ s.fw.update = 4) then s.dropCollect.mbDone cmd badState
  else
    let all := before ++ m.chunk
    if cmd.getLsbD 2 then
      let s := s.setMb { m with collect := none }
      let (code, s) := s.dictWrite .pcie ix sub all
      let s := if code ≠ 0 ∧ s.fw.update = 1 ∧ key = 256 * 0x2190 + 1 then s.enterUpdate 6 else s
      s.mbDone cmd code
    else ((s.startImage key).setMb { m with collect := some (key, all) }).mbDone cmd 0

/-- A mailbox command served (Table 16.4); one with an operation that is refused discards a write being collected too (R319, assumption 60). -/
def State.mbServe (s : State) (cmd : BitVec 32) : State :=
  match (cmd.extractLsb' 0 2).toNat with
  | 1 => s.mbRead cmd
  | 2 => s.mbWrite cmd
  | _ => s.dropCollect.mbDone cmd 0x05040001

/-- MB_CMD written: ignored and counted while busy, refused in boot mode, held during a firmware switch (R318, R352, R354). -/
def State.mbCommand (s : State) (cmd : BitVec 32) : State :=
  if ¬ s.hostServes then s.unsupportedWrite
  else if s.host.mb.busy then s.bump 32 0x3500 4
  else if s.fw.bootMode then s.mbDone cmd badState
  else if ¬ s.dictOpen then s
  else if s.fw.held then
    let s := s.setMb { s.host.mb with busy := true, done := false }
    { s with fw := { s.fw with heldAccesses := s.fw.heldAccesses ++ [.mailbox cmd] } }
  else s.mbServe cmd

/-- MAILBOX_READ: MB_CMD with operation 1, or with one that is refused (R318). -/
def execMailboxRead (cmd : BitVec 32) (s : State) : Host.Outcome State Fault Refusal :=
  .next (if cmd.extractLsb' 0 2 = 2 then s else s.mbCommand cmd)

/-- MAILBOX_WRITE: MB_CMD with operation 2, or with one that is refused (R319). -/
def execMailboxWrite (cmd : BitVec 32) (s : State) : Host.Outcome State Fault Refusal :=
  .next (if cmd.extractLsb' 0 2 = 1 then s else s.mbCommand cmd)

/-! ### BAR0 -/

/-- Half of a 64-bit register replaced. -/
def setHalf (x : BitVec 64) (hi : Bool) (v : BitVec 32) : BitVec 64 := setField x (if hi then 32 else 0) 32 v

/-- A 4-byte write to a mailbox register with no row of its own (Table 16.3). -/
def State.writeMbReg (s : State) (o : Nat) (v : BitVec 32) : State :=
  let m := s.host.mb
  if m.busy then s.bump 32 0x3500 4
  else if o = 0x104 then s.setMb { m with index := v &&& 0xFFFFFF }
  else if o = 0x108 then s.setMb { m with len := v }
  else if o = 0x10C then s.setMb { m with offset := v }
  else if 0x1000 ≤ o then
    s.setMb { m with data := tputAll 0 ((List.range 4).map (fun i => (o - 0x1000 + i, (v.extractLsb' (8 * i) 8).toNat))) m.data }
  else s

/-- 4 bytes of a mailbox register read (Table 16.3); MB_CMD reads zero (R8). -/
def State.readMbReg (s : State) (o : Nat) : BitVec 32 :=
  let m := s.host.mb
  if o = 0x104 then m.index
  else if o = 0x108 then m.len
  else if o = 0x10C then m.offset
  else if o = 0x110 then m.seq ++ 0#14 ++ BitVec.ofBool m.done ++ BitVec.ofBool m.busy
  else if o = 0x114 then m.abort
  else if o = 0x118 then m.total
  else if 0x1000 ≤ o then
    BitVec.ofNat 32 (bytesToNat ((List.range 4).map (fun i => BitVec.ofNat 8 (tget 0 m.data (o - 0x1000 + i)))))
  else 0

/-- A 4-byte write to an APERTURE register: bits [34:0] are kept (Table 17.3). -/
def State.writeAperture (s : State) (i : Nat) (hi : Bool) (v : BitVec 32) : State :=
  let a := s.host.aperture.toList.getD i 0
  let x := setHalf (a.zeroExtend 64) hi v
  { s with host := { s.host with aperture := s.host.aperture.setIfInBounds i (x.truncate 35) } }

end Sys2Proof.Machine
end

