-- ==== Sys2Proof/Machine/Bar.lean ====
section
/-! DEFINITION. The BAR2 window, the DMA channels, and the resets, link and power states of the PCI Express function (R187, R335, R338,
R339, R341 to R347, R351). A host access is served whole in one step. -/

namespace Sys2Proof.Machine

/-! ### Where host words lie -/

/-- A word the host reaches, or the status that its access ends with (Table 5.12). -/
inductive HostWord where
  | hbm (w : Nat)
  | store (c o : Nat)
  | loc (g a : Nat)
  | status (n : Nat)
  deriving DecidableEq, Repr

/-- Status of an entry at the host interface's router: ADDR where it is invalid, DOMAIN_OFF where it is deflating (R224, R225). -/
def State.hostEntry (s : State) (tbl i : Nat) : Nat :=
  match entryState (s.routeEntry 44 tbl i) with | 0 => 6 | 2 => 3 | _ => 0

/-- The host may reach HBM word w: a region with host access, for writes of kind 1 or 2, in a block that serves (R187, R339). -/
def State.hostHbm (s : State) (w : Nat) (write : Bool) : HostWord :=
  if 28991029248 ≤ w then .status 6 else
  match s.regionAt w with
  | none => .status 5
  | some r =>
    let x := s.region r
    let ok := x.host && (x.kind == 1 || x.kind == 2 || (!write && (x.kind == 3 || x.kind == 5)))
    let n := stackOf (w / 6)
    if ¬ ok then .status 5
    else if s.hostEntry 3 (2 + n) ≠ 0 then .status (s.hostEntry 3 (2 + n))
    else if ¬ s.hbmServes n then .status 3
    else .hbm w

/-- The host may reach cluster c: its domain LIVE and not contained, its route in force (R182, R286). -/
def State.hostCluster (s : State) (c : Nat) : Nat :=
  if ¬ s.serving c then 3 else s.hostEntry 1 (s.logicalCluster c)

/-- Word of the cluster store of CLc for the host. -/
def State.hostStore (s : State) (c o : Nat) : HostWord :=
  if s.hostCluster c ≠ 0 then .status (s.hostCluster c) else .store c o

/-- Slot k of the window (R338). -/
def State.slotWord (s : State) (k : Nat) (write : Bool) : HostWord :=
  if k < 15 * 2 ^ 29 then s.hostHbm ((s.host.aperture.toList.getD (k / 2 ^ 29) 0).toNat + k % 2 ^ 29) write
  else if k - 15 * 2 ^ 29 < 2 ^ 24 then s.hostStore ((k - 15 * 2 ^ 29) / 2 ^ 19) ((k - 15 * 2 ^ 29) % 2 ^ 19)
  else .status 6

/-- A word read for the host under a source of class 22: the word, or the status of the failure (R197, R291). -/
def State.hostReadWord (s : State) (src : Nat) (p : HostWord) : Sum Nat Word × State :=
  match p with
  | .status n => (.inl n, s)
  | .hbm w =>
    match s.readMem (src, 2) w 1 with
    | (some [v], s) => (.inr v, s)
    | (_, s) => (.inl 4, s)
  | .store c o =>
    match s.readStores (src, 2) c o 1 with
    | (some [v], s) => (.inr v, s)
    | (_, s) => (.inl 4, s)
  | .loc g a =>
    match s.readPort (src, 2) g a 1 with
    | (some [v], s) => (.inr v, s)
    | (_, s) => (.inl 4, s)

/-- A word written for the host: 0 done, 1 into a poisoned line, else the status of the failure (R208, Tables 5.12, 10.7). -/
def State.hostWriteWord (s : State) (src : Nat) (p : HostWord) (v : Word) : Nat × State :=
  match p with
  | .status n => (n, s)
  | .hbm w =>
    match s.writeHbm w [v] src 2 with
    | (.done, s) => (0, s)
    | (.poisoned, s) => (1, s)
    | (.bus, s) => (4, s)
  | .store c o => if s.retiredBank c (o % 16) then (4, s) else (0, s.writeStore c o v)
  | .loc g a => if s.retiredPage g a then (4, s) else (0, s.writeLocal g a 15 v)

/-! ### Several words -/

/-- A line of HBM that has been read: its number, and what each of its words answers. -/
abbrev OpenLine := Option (Nat × (Nat → ReadOut))

/-- A word read for the host, from the open line when it lies in that one: a line is read once however many of its words are taken
(R201). Answered with the line that is open afterwards. -/
def State.hostReadOpen (s : State) (src : Nat) (line : OpenLine) (p : HostWord) : Sum Nat Word × OpenLine × State :=
  match p with
  | .hbm w =>
    let (r, s) := match line.filter (fun x => x.1 == w / 6) with
      | some (_, r) => (r, s)
      | none => s.readHbmLine (w / 6) src
    match r (w % 6) with
    | .ok v => (.inr v, some (w / 6, r), s)
    | .bad d i u => (.inl 4, none, s.reportRead (src, 2) (w / 6) (srcId 20 (stackOf (w / 6))) d i u)
  | _ =>
    let (r, s) := s.hostReadWord src p
    (r, none, s)

/-- Words k, k+1, … (n of them) read where p puts them: the status of the first failure, and the words before it. -/
def State.readRun (s : State) (src : Nat) (p : State → Nat → HostWord) (line : OpenLine) : Nat → Nat → Option Nat × List Word × State
  | _, 0 => (none, [], s)
  | k, n + 1 =>
    match s.hostReadOpen src line (p s k) with
    | (.inl e, _, s) => (some e, [], s)
    | (.inr v, line, s) =>
      let (e, l, s) := State.readRun s src p line (k + 1) n
      (e, v :: l, s)

/-! ### Transactions of the host interface -/

/-- Router of the unit that holds a word; none where there is no word. -/
def hostTarget (p : HostWord) : Option Nat :=
  match p with
  | .hbm w => some (32 + stackOf (w / 6))
  | .store c _ => some c
  | .loc g _ => some (clusterOf g)
  | .status _ => none

/-- A transaction of the host interface with the unit that holds a word, its request of `flits` flits (R219, R223, R339; assumption 62): 0, or
TMO when its pool at that unit has no credits left for as long as it may wait, or when the header of its response fails its check. -/
def State.hostTransaction (s : State) (src : Nat) (p : HostWord) (flits : Nat) : Nat × State :=
  match hostTarget p with
  | none => (0, s)
  | some t =>
    let n := s.noc
    let key := 64 * t + 44
    if 28 < tget 0 n.poolUsed key + flits then (2, s.wantSync t 44 3 0x3FFF)
    else
      let s := { s with noc := { n with
        poolSent := tput 0 key ((tget 0 n.poolSent key + 1) % 65536) n.poolSent, poolRecv := tput 0 key ((tget 0 n.poolRecv key + 1) % 65536) n.poolRecv } }
      let (c, s) := s.checkCode src 0 0
      if c.bad then
        let (k, s) := s.fresh
        (2, ((s.discard src).raiseFull src 0x23 1 (sourceField (mkCtl 0 s.noc.gen vcRsp 0 { device := s.devId, engine := 3, node := 0x3FFF, seq := 0 }))
          (Config.freeCount k % 4096) c.injected c.during).wantSync t 44 3 0x3FFF)
      else (0, s)

/-- The lengths of the transactions that move n words, 64 at most each (R344). -/
def transactions (n : Nat) : List Nat := List.replicate (n / 64) 64 ++ (if n % 64 = 0 then [] else [n % 64])

/-- Words from k on read in transactions of the lengths given: the status of the first failure, and the words before it. -/
def State.readTransactions (s : State) (src : Nat) (p : State → Nat → HostWord) : Nat → List Nat → Option Nat × List Word × State
  | _, [] => (none, [], s)
  | k, m :: l =>
    let (e, s) := s.hostTransaction src (p s k) 1
    if e ≠ 0 then (some e, [], s)
    else
      match s.readRun src p none k m with
      | (some e, w, s) => (some e, w, s)
      | (none, w, s) =>
        let (e, v, s) := State.readTransactions s src p (k + m) l
        (e, w ++ v, s)

/-- How many of n words from k on p puts into HBM from word w on, without a gap. -/
def lineRun (p : Nat → HostWord) : Nat → Nat → Nat → Nat
  | _, _, 0 => 0
  | w, k, n + 1 => if p k = .hbm w then lineRun p (w + 1) (k + 1) n + 1 else 0

/-- Words from k on, n at most, written where p puts them: those that lie in one line of HBM together (R202, R344), another word alone.
Answered with the status of `hostWriteWord` and the number of words taken. -/
def State.hostWriteRun (s : State) (src : Nat) (p : Nat → HostWord) (v : Nat → Word) (k n : Nat) : Nat × Nat × State :=
  match p k with
  | .hbm w =>
    let m := lineRun p w k (min n (6 - w % 6))
    match s.writeHbm w ((List.range m).map (fun i => v (k + i))) src 2 with
    | (.done, s) => (0, m, s)
    | (.poisoned, s) => (1, m, s)
    | (.bus, s) => (4, m, s)
  | q =>
    let (e, s) := s.hostWriteWord src q (v k)
    (e, 1, s)

/-! ### BAR2 -/

/-- The fault source of the endpoint (Table 15.1). -/
def endpoint : Nat := srcId 22 0

/-- Slots k, k+1, … (n of them) read: their words, or the first failing slot and its status. -/
def State.readSlots (s : State) (k n : Nat) : Sum (Nat × Nat) (List Word) × State :=
  match s.readTransactions endpoint (fun s i => s.slotWord i false) k (transactions n) with
  | (none, l, s) => (.inr l, s)
  | (some e, l, s) => (.inl (k + l.length, e), s)

/-- The slots that bytes from an offset touch. -/
def slotsOf (o n : Nat) : Nat := if n = 0 then 0 else (o + n - 1) / 8 + 1 - o / 8

/-- A host read fails: Completer Abort, event 0x40, and AER for an uncorrectable word (R339, Table 10.4). -/
def State.abortRead (s : State) (o e : Nat) : State :=
  let s := if e = 4 then { s with host := { s.host with aer := s.host.aer ||| 1 } } else s
  (s.put .completerAbort).hostError endpoint o e

/-- A host read of the window (R338, R339), or of the image RAM in boot mode (R352). -/
def State.barRead (s : State) (o n : Nat) : State :=
  if s.fw.bootMode then
    if o + n ≤ 2 ^ 23 then s.put (.completion ((List.range n).map (fun i => BitVec.ofNat 8 (tget 0 s.fw.ram (o + i)))))
    else s.abortRead o 6
  else if ¬ s.dictOpen then s
  else
    match s.readSlots (o / 8) (slotsOf o n) with
    | (.inl (k, e), s) => s.abortRead (8 * k) e
    | (.inr l, s) => s.put (.completion (((l.flatMap (fun w => natToBytes 8 w.toNat)).drop (o % 8)).take n))

/-- BAR2_READ (R335, R339). -/
def execBar2Read (offset : BitVec 36) (bytes : Nat) (s : State) : Host.Outcome State Fault Refusal :=
  .next (if s.hostServes then s.barRead offset.toNat bytes else s.put .unsupported)

/-- The 8 bytes of slot k in a write from offset o: none where a byte or its enable is missing (R339). -/
def slotBytes (o k : Nat) (data : List (Option (BitVec 8))) : Option (List (BitVec 8)) :=
  (List.range 8).foldr (fun i l =>
    match l, (if o ≤ 8 * k + i then data[8 * k + i - o]? else none) with
    | some l, some (some b) => some (b :: l)
    | _, _ => none) (some [])

/-- Why slot k of a write fails: a status; bytes missing have none laid down, here 16. -/
def State.slotFault (s : State) (o k : Nat) (data : List (Option (BitVec 8))) : Nat :=
  match s.slotWord k true with
  | .status n => n
  | _ => if (slotBytes o k data).isNone then 16 else 0

/-- The word that a write from offset o puts into slot k (R338). -/
def slotValue (o k : Nat) (data : List (Option (BitVec 8))) : Word := BitVec.ofNat 36 (bytesToNat ((slotBytes o k data).getD []))

/-- Slots k, k+1, … (n of them) written in rising order, but for those that the write of their line has taken already (`skip` of them); a
slot that its target turns away is an event of its own. -/
def State.writeSlots (s : State) (o : Nat) (data : List (Option (BitVec 8))) : Nat → Nat → Nat → State
  | _, 0, _ => s
  | k, n + 1, skip + 1 => State.writeSlots s o data (k + 1) n skip
  | k, n + 1, 0 =>
    let (e, m, s) := s.hostWriteRun endpoint (fun i => s.slotWord i true) (fun i => slotValue o i data) k (n + 1)
    let s := if 2 ≤ e then s.hostError endpoint (8 * k) e else s
    State.writeSlots s o data (k + 1) n (m - 1)

/-- Event 0x40 with a status that is not laid down (assumption 5). -/
def State.hostErrorFree (s : State) (o : Nat) : State :=
  let (n, s) := s.fresh
  s.hostError endpoint o (Config.freeCount n)

/-- A host write to the image RAM in boot mode (R352). -/
def State.writeRam (s : State) (o : Nat) (data : List (Option (BitVec 8))) : State :=
  let l := (List.range data.length).zip data
  { s with fw := { s.fw with ram := l.foldl (fun m x => match x.2 with | some b => tput 0 (o + x.1) b.toNat m | none => m) s.fw.ram } }

/-- A host write to the window: poisoned or with a failing slot it is discarded whole (R339). -/
def State.barWrite (s : State) (o : Nat) (data : List (Option (BitVec 8))) (poisoned : Bool) : State :=
  if poisoned then ({ s with host := { s.host with aer := s.host.aer ||| 4 } }).hostErrorFree o
  else if s.fw.bootMode then (if o + data.length ≤ 2 ^ 23 then s.writeRam o data else s.hostError endpoint o 6)
  else if ¬ s.dictOpen then s
  else
    let n := slotsOf o data.length
    match (List.range n).find? (fun i => s.slotFault o (o / 8 + i) data != 0) with
    | some i =>
      let e := s.slotFault o (o / 8 + i) data
      if e = 16 then s.hostErrorFree (8 * (o / 8 + i)) else s.hostError endpoint (8 * (o / 8 + i)) e
    | none =>
      let (e, s) := s.hostTransaction endpoint (s.slotWord (o / 8) true) (requestFlits 0x22 (min n 64))
      if e = 0 then s.writeSlots o data (o / 8) n 0 else s.hostError endpoint o e

/-- BAR2_WRITE (R335, R339). -/
def execBar2Write (offset : BitVec 36) (data : List (Option (BitVec 8))) (poisoned : Bool) (s : State) : Host.Outcome State Fault Refusal :=
  .next (if s.hostServes then s.barWrite offset.toNat data poisoned else s.unsupportedWrite)

/-! ### DMA registers -/

/-- A write to a register of channel c, which then settles (R341). -/
def State.dmaWrite (s : State) (c : Nat) (f : Dma → Dma) : State :=
  if s.hostServes then (s.setDma c (f (s.dma c))).settleDma c else s.unsupportedWrite

/-- DMA_DOORBELL: HEAD (R341). -/
def execDmaDoorbell (c : BitVec 3) (head : BitVec 16) (s : State) : Host.Outcome State Fault Refusal :=
  .next (s.dmaWrite c.toNat (fun x => { x with head := head }))

/-- DMA_ENABLE (R341). -/
def execDmaEnable (c : BitVec 3) (on : Bool) (s : State) : Host.Outcome State Fault Refusal :=
  .next (s.dmaWrite c.toNat (fun x => { x with enable := on }))

/-- DMA_PAUSE (R341). -/
def execDmaPause (c : BitVec 3) (on : Bool) (s : State) : Host.Outcome State Fault Refusal :=
  .next (s.dmaWrite c.toNat (fun x => { x with pause := on }))

/-- DMA_ERROR_CLEAR (R341). -/
def execDmaErrorClear (c : BitVec 3) (s : State) : Host.Outcome State Fault Refusal :=
  .next (s.dmaWrite c.toNat (fun x => { x with error := false }))

/-! ### Descriptors -/

/-- A descriptor's fields (Table 17.6). -/
structure Descriptor where
  host : BitVec 64
  offset : Nat
  space : Nat
  length : Nat
  toHost : Bool
  interrupt : Bool
  reserved : Bool

/-- A descriptor read from its 256 bits (Table 17.6). -/
def descriptorOf (d : BitVec 256) : Descriptor :=
  { host := d.extractLsb' 0 64, offset := (d.extractLsb' 64 36).toNat, space := (d.extractLsb' 100 4).toNat,
    length := (d.extractLsb' 128 24).toNat, toHost := d.getLsbD 160, interrupt := d.getLsbD 161,
    reserved := d.extractLsb' 0 3 != 0 || d.extractLsb' 104 24 != 0 || d.extractLsb' 152 8 != 0 || d.extractLsb' 163 29 != 0 ||
      d.extractLsb' 196 3 != 0 || d.extractLsb' 224 32 != 0 }

/-- An engine's local store is open to the host: its cluster belongs to no flight or to one that does not run (R343). -/
def State.hostEngine (s : State) (g : Nat) : Bool :=
  (s.domain (clusterOf g)).state == .live &&
  (match s.flightOf (clusterOf g) with
   | none => true
   | some f => let st := (s.flight f).state
     st == .idle || st == .loaded || st == .halted || st == .mired)

/-- Physical cluster of a descriptor in space 0x1. -/
def State.dmaCluster (s : State) (o : Nat) : Option Nat := s.physicalCluster (o / 2 ^ 19 % 32) s.noc.gen

/-- The rules of R343: 0, or the code ADDR or ACC with which the descriptor completes. -/
def State.descriptorFault (s : State) (x : Descriptor) : Nat :=
  let o := x.offset
  let dev := o / 2 ^ 24 % 1024
  if x.reserved ∨ x.length = 0 then 6
  else match x.space with
    | 1 =>
      if 2 ^ 34 ≤ o ∨ (dev ≠ 0 ∧ dev ≠ s.devId) ∨ 2 ^ 19 < o % 2 ^ 19 + x.length then 6
      else match s.dmaCluster o with
        | none => 6
        | some c => if (s.domain c).state ≠ .live then 5 else 0
    | 2 =>
      if 28991029248 < o + x.length then 6
      else match s.regionAt o with
        | none => 5
        | some r =>
          let y := s.region r
          let ok := y.host && (y.kind == 1 || y.kind == 2 || (x.toHost && (y.kind == 3 || y.kind == 5)))
          if ¬ ok ∨ y.base + y.length < o + x.length then 5 else 0
    | 8 =>
      if 2 ^ 26 ≤ o ∨ 2 ^ 17 < o % 2 ^ 17 + x.length then 6
      else if ¬ s.hostEngine (o / 2 ^ 17) then 5 else 0
    | _ => 6

/-- Word i of a descriptor. -/
def State.descriptorWord (s : State) (x : Descriptor) (i : Nat) : HostWord :=
  let o := x.offset + i
  match x.space with
  | 1 => match s.dmaCluster x.offset with | some c => s.hostStore c (o % 2 ^ 19) | none => .status 6
  | 2 => s.hostHbm o (!x.toHost)
  | _ =>
    let g := x.offset / 2 ^ 17
    if s.hostCluster (clusterOf g) ≠ 0 then .status (s.hostCluster (clusterOf g)) else .loc g (o % 2 ^ 17)

/-- How the words of a descriptor have moved: its status, words moved, words for the host. -/
structure Moved where
  code : Nat
  done : Nat
  words : List Word

/-- Words i, i+1, … (n of them) of a descriptor written, until the first failure, but for those that the write of their line has taken
already (`skip` of them) (R344). -/
def State.storeWords (s : State) (src : Nat) (x : Descriptor) (data : List Word) : Nat → Nat → Nat → Moved × State
  | _, 0, _ => ({ code := 0, done := 0, words := [] }, s)
  | i, n + 1, skip + 1 =>
    let (m, s) := State.storeWords s src x data (i + 1) n skip
    ({ m with done := m.done + 1 }, s)
  | i, n + 1, 0 =>
    let (e, k, s) := s.hostWriteRun src (s.descriptorWord x) (fun i => data.getD i 0) i (n + 1)
    if 2 ≤ e then ({ code := e, done := 0, words := [] }, s)
    else
      let (m, s) := State.storeWords s src x data (i + 1) n (k - 1)
      ({ m with done := m.done + 1, code := if m.code = 0 then e else m.code }, s)

/-- Words i, i+1, … of a descriptor written in transactions of the lengths given, until the first failure (R344). -/
def State.storeTransactions (s : State) (src : Nat) (x : Descriptor) (data : List Word) : Nat → List Nat → Moved × State
  | _, [] => ({ code := 0, done := 0, words := [] }, s)
  | i, n :: l =>
    let (e, s) := s.hostTransaction src (s.descriptorWord x i) (requestFlits 0x22 n)
    if e ≠ 0 then ({ code := e, done := 0, words := [] }, s)
    else
      let (a, s) := s.storeWords src x data i n 0
      if 2 ≤ a.code then (a, s)
      else
        let (b, s) := State.storeTransactions s src x data (i + n) l
        ({ b with done := a.done + b.done, code := if b.code = 0 then a.code else b.code }, s)

/-- The words of a descriptor moved in transactions of up to 64 words, until the first failure (R344). -/
def State.moveWords (s : State) (src : Nat) (x : Descriptor) (data : List Word) : Moved × State :=
  if x.toHost then
    let (e, l, s) := s.readTransactions src (fun s i => s.descriptorWord x i) 0 (transactions x.length)
    ({ code := e.getD 0, done := l.length, words := l }, s)
  else s.storeTransactions src x data 0 (transactions x.length)

/-- The descriptor at TAIL of channel c completed: status, the ring goes on, the interrupt; a failure stops the channel in error
(R344, Tables 17.4, 17.5, 17.6). -/
def State.completeDescriptor (s : State) (c : Nat) (x : Descriptor) (m : Moved) : State :=
  let s := if x.toHost ∧ m.words ≠ [] then s.put (.hostWrite x.host.toNat m.words) else s
  let s := s.put (.descriptorStatus c (BitVec.ofNat 4 m.code) m.done)
  if m.code ≤ 1 then
    let s := s.setDma c (s.dma c).advance
    let s := if x.interrupt then s.vector (4 + c) else s
    s.settleDma c
  else
    let adr : BitVec 40 := BitVec.ofNat 4 x.space ++ BitVec.ofNat 36 (x.offset + m.done)
    let s := s.setDma c { (s.dma c).advance with error := true, code := BitVec.ofNat 4 m.code, addr := adr }
    ((s.hostError (srcId 22 (1 + c)) adr.toNat m.code).vector (4 + c)).settleDma c

/-- DMA_DESCRIPTOR_COMPLETE: the descriptor at TAIL of a running channel, moved whole (R342 to R344). -/
def execDmaDescriptorComplete (c : BitVec 3) (desc : BitVec 256) (data : List Word) (s : State) : Host.Outcome State Fault Refusal :=
  let n := c.toNat
  let x := descriptorOf desc
  .next (if (s.dma n).state ≠ 1 ∨ ¬ (s.dma n).hasWork ∨ ¬ s.hostServes then s
    else
      let e := s.descriptorFault x
      if e ≠ 0 then s.completeDescriptor n x { code := e, done := 0, words := [] }
      else
        let (m, s) := s.moveWords (srcId 22 (1 + n)) x data
        s.completeDescriptor n x m)

/-! ### Resets, link and power state -/

/-- PERST_N falls or rises: the host interface is reset, and its link trains once the pin is high again (R345, R346, R351). -/
def execPerstN (low : Bool) (s : State) : Host.Outcome State Fault Refusal :=
  let t := { s with host := { s.host with perst := low } }
  .next (if low then t.hostDown else t.trainHost)

/-- HOT_RESET (R346). -/
def execHotReset (s : State) : Host.Outcome State Fault Refusal := .next (if s.host.link = 0 then s else s.hostDown)

/-- LINK_DOWN (R346, R347). -/
def execLinkDown (s : State) : Host.Outcome State Fault Refusal := .next (if s.host.link = 0 then s else s.hostDown)

/-- FLR: as PERST_N without retraining, counted (R346, R347). -/
def execFlr (s : State) : Host.Outcome State Fault Refusal :=
  .next (if s.host.link = 0 then s else s.resetHost.bump 32 0x3500 3)

/-- A link of Table 17.1: 2.5 to 32 GT/s, as generations 1 to 5, with 1, 2, 4, 8 or 16 lanes (R335). -/
def linkSupported (generation lanes : Nat) : Bool :=
  decide (1 ≤ generation) && decide (generation ≤ 5) && (lanes == 1 || lanes == 2 || lanes == 4 || lanes == 8 || lanes == 16)

/-- PCIE_LINK_UP, at a rate and width that the endpoint supports (R335, R351, Table 16.11). -/
def execPcieLinkUp (generation : BitVec 8) (lanes : BitVec 8) (s : State) : Host.Outcome State Fault Refusal :=
  .next (if s.host.link = 1 ∧ s.hostMayTrain ∧ linkSupported generation.toNat lanes.toNat then { s with host := { s.host with link := 2, speed := lanes ++ generation } } else s)

/-- PCIE_POWER_STATE_CHANGE: in D3hot the channels stop at a descriptor boundary (R335). -/
def execPciePowerStateChange (d3hot : Bool) (s : State) : Host.Outcome State Fault Refusal :=
  .next (if s.host.link = 0 then s else
    (List.range 8).foldl (fun s c => s.settleDma c) { s with host := { s.host with d3hot := d3hot } })

end Sys2Proof.Machine
end

