-- ==== Sys2Proof/Machine/Can.lean ====
section
/-! DEFINITION. The CAN port: USDO, NMT, heartbeat (R315 to R317, R329). -/

namespace Sys2Proof.Machine

/-- The CAN port serves USDO: from CONFIG on, not stopped (R317, Table 17.9). -/
def State.canServes (s : State) : Bool := s.dictOpen && !s.can.stopped

/-- The bytes of a segmented download that has come so far (R315). -/
def Can.sofar (c : Can) (key : Nat) : List (BitVec 8) :=
  match c.transfers.find? (fun x => x.1 == key) with | some (_, l) => l | none => []

/-- The downloads that stand open, the one of an object closed (R315). -/
def Can.close (c : Can) (key : Nat) : Can := { c with transfers := c.transfers.filter (fun x => x.1 != key) }

/-- USDO_DOWNLOAD, expedited or by segments: one that more segments follow is collected, the last one writes the object (R312, R315). -/
def execUsdoDownload (index : BitVec 16) (sub : BitVec 8) (data : UsdoData) (s : State) : Host.Outcome State Fault Refusal :=
  let key := 256 * index.toNat + sub.toNat
  let sofar := s.can.sofar key
  let t := { s with can := s.can.close key }
  .next (if ¬ s.canServes then s
    else match data with
      | .segment l => { t with can := { t.can with transfers := t.can.transfers ++ [(key, sofar ++ l)] } }
      | .last l => t.access .can index.toNat sub.toNat (sofar ++ l))

/-- A read over CAN served (R313, R315). -/
def State.canRead (s : State) (ix sub : Nat) : State :=
  match s.readObject ix sub with
  | (.inl code, s) => s.report .can ix sub code []
  | (.inr bytes, s) => s.report .can ix sub 0 bytes

/-- USDO_UPLOAD, queued while a firmware switch runs (R315, R354). -/
def execUsdoUpload (index : BitVec 16) (sub : BitVec 8) (s : State) : Host.Outcome State Fault Refusal :=
  .next (if ¬ s.canServes then s
    else if s.fw.held then { s with fw := { s.fw with heldAccesses := s.fw.heldAccesses ++ [.canRead index.toNat sub.toNat] } }
    else s.canRead index.toNat sub.toNat)

/-- USDO_TIMEOUT: the oldest transfer that stands open ends with 0x0504_0000 (R315). -/
def execUsdoTimeout (s : State) : Host.Outcome State Fault Refusal :=
  .next (match s.can.transfers with
    | [] => s
    | (key, _) :: rest =>
      ({ s with can := { s.can with transfers := rest } }).report .can (key / 256) (key % 256) 0x05040000 [])

/-- The NMT stop ends (R317). -/
def State.unstopCan (s : State) : State := if s.dictOpen then { s with can := { s.can with stopped := false } } else s

/-- NMT_START (R317). -/
def execNmtStart (s : State) : Host.Outcome State Fault Refusal := .next s.unstopCan

/-- NMT_ENTER_PRE_OPERATIONAL (R317). -/
def execNmtEnterPreOperational (s : State) : Host.Outcome State Fault Refusal := .next s.unstopCan

/-- NMT_STOP: USDO ceases, so that transfers end (R317). -/
def execNmtStop (s : State) : Host.Outcome State Fault Refusal :=
  .next (if s.dictOpen then { s with can := { s.can with stopped := true, transfers := [] } } else s)

/-- An access is CAN's. -/
def Access.overCan (a : Access) : Bool :=
  match a with
  | .write p _ _ _ => p == .can
  | .canRead _ _ => true
  | _ => false

/-- The CAN controller re-initialised: 0x1014 and 0x1017 at their committed values, CAN's transaction rolled back, its queued accesses
lost, a boot-up message (R317, R329). -/
def State.resetCan (s : State) : State :=
  let s := { s with can := { Can.reset with rates := s.can.rates }, fw := { s.fw with heldAccesses := s.fw.heldAccesses.filter (fun a => !a.overCan) } }
  let s := (s.setObj 0x1014 0 unwritten).setObj 0x1017 0 (s.nvValue 0x1017 0)
  (s.pathLost .can).put (.bootUp s.nodeId)

/-- NMT_RESET_COMMUNICATION (R317). -/
def execNmtResetCommunication (s : State) : Host.Outcome State Fault Refusal := .next (if s.dictOpen then s.resetCan else s)

/-- NMT_RESET_NODE (R317). -/
def execNmtResetNode (s : State) : Host.Outcome State Fault Refusal := .next (if s.dictOpen then s.resetCan else s)

/-- NMT state as the heartbeat shows it (R317). -/
def State.nmtState (s : State) : Nat := if s.can.stopped then 0x04 else if s.dev = .config then 0x7F else 0x05

/-- HEARTBEAT: sent when the producer time is not zero (R317, Table 16.2). -/
def execHeartbeat (s : State) : Host.Outcome State Fault Refusal :=
  .next (if s.dictOpen ∧ s.obj 0x1017 0 ≠ 0 then s.put (.heartbeat s.nodeId s.nmtState) else s)

end Sys2Proof.Machine
end

