-- ==== Sys2Proof/Machine/Power.lean ====
section
/-! DEFINITION. Power sequences, the thermal and power policy, rail and reference-clock failures (R206, R279 to R288, R366, R368). -/

namespace Sys2Proof.Machine

/-! ### Leaving service -/

/-- Engine g holds up the end of its cluster's DRAIN: an activation runs, a far transaction is out, a response waits (Table 14.2, step 4). -/
def State.engineBusy (s : State) (g : Nat) : Bool :=
  let e := s.engine g
  e.core.act.isSome || e.core.seg.toList.any (·.outstanding) || !e.rspIn.isEmpty

/-- DRAIN of domain d may end (Tables 14.2, 14.3, R286). -/
def State.drained (s : State) (d : Nat) : Bool :=
  if d < 32 then
    s.noc.drain == 0 && ((s.domain d).contained || !anyTo 16 (fun i => s.engineBusy (16 * d + i))) &&
      (List.range 4).all (fun v => (tget [] s.noc.inject (4 * d + v)).isEmpty && (s.crossing d 0 v).entries.isEmpty && (s.crossing d 1 v).entries.isEmpty) &&
      (s.cluster d).reqQ.isEmpty
  else if d < 36 then (tget [] s.hbmQ (d - 32)).isEmpty
  else (domainPorts d).all (fun p => (s.port p).staging.isEmpty)

/-- ISOLATE, then OFF, or RESTORE for a reset (Table 14.2, R285). -/
def State.endDrain (s : State) (d : Nat) : State :=
  let reset := (s.domain d).resetting
  let s := s.isolate d
  if reset then s.enterRestore d else s.enterOff d

/-- DRAIN_END (R279, R285). -/
def execDrainEnd (d : BitVec 6) (s : State) : Host.Outcome State Fault Refusal :=
  let n := d.toNat
  .next (if n < 40 ∧ (s.domain n).state = .drain ∧ ¬ (s.domain n).cancelled ∧ s.drained n then s.endDrain n else s)

/-- DRAIN_TIMEOUT: ISOLATE is forced, with a drain fault that names the domain (R281). -/
def execDrainTimeout (d : BitVec 6) (s : State) : Host.Outcome State Fault Refusal :=
  let n := d.toNat
  .next (if n < 40 ∧ (s.domain n).state = .drain ∧ ¬ (s.domain n).cancelled ∧ ¬ s.drained n then
    (s.raise (srcId 25 0) 0x22 2 0 n).endDrain n else s)

/-! ### Returning to service -/

/-- POWER_UP: rails within tolerance, PLLs locked at the requested setting below the ceiling, RESTORE begun (Table 14.4, R263). -/
def State.powerUp (s : State) (d : Nat) : State :=
  let s := if d < 32 then
      let x := s.cluster d
      s.setCluster d { x with clock := min (s.obj (0x2210 + d) 2) x.ceiling }
    else s
  s.enterRestore d

/-- POWER_UP (R283). -/
def execPowerUp (d : BitVec 6) (s : State) : Host.Outcome State Fault Refusal :=
  .next (if d.toNat < 40 ∧ (s.domain d.toNat).state = .power then s.powerUp d.toNat else s)

/-- Fault source of a domain (Table 15.1): its cluster, HBM block, first port, endpoint, trace capture unit. -/
def domainSource (d : Nat) : Nat :=
  if d < 32 then srcId 16 d else if d < 36 then srcId 20 (d - 32) else if d < 38 then srcId 21 (4 * (d - 36))
  else if d = 38 then srcId 22 0 else srcId 24 0

/-- A checker of domain d fails its self-test: level 3; which checker and pattern failed is not commanded, so the details are free
values (R206, assumption 5). -/
def State.selfTestFault (s : State) (d : Nat) : State :=
  let (a, s) := s.fresh
  let (b, s) := s.fresh
  s.raise (domainSource d) 0x08 3 (Config.freeCount a) (Config.freeCount b)

/-- RESTORE ends: JOIN or LIVE, or the domain stays contained (Table 14.4, R206, R283, R285). -/
def State.endRestore (s : State) (d : Nat) (ok : Bool) : State :=
  if ok then
    if d < 32 then
      let s := s.bogJoin d
      let s := s.setDomain d { s.domain d with state := .join }
      { s with noc := { s.noc with flipWanted := true } }
    else (((s.domainLive d).countSequence d).leaveDegraded).startQueued d
  else
    let s := (s.setDomain d { s.domain d with contained := true, degrades := true }).selfTestFault d
    if s.dev = .live then s.enterDev .degraded else s

/-- RESTORE_COMPLETE (R283, R285): a domain that failed a check stays contained in RESTORE until it is deflated. -/
def execRestoreComplete (d : BitVec 6) (ok : Bool) (s : State) : Host.Outcome State Fault Refusal :=
  .next (if d.toNat < 40 ∧ (s.domain d.toNat).state = .restore ∧ ¬ (s.domain d.toNat).contained then s.endRestore d.toNat ok else s)

/-! ### The thermal and power policy -/

/-- Fault source of a temperature sensor: clusters, HBM blocks, peer-port halves (Table 15.1). -/
def sensorSource (i : Nat) : Nat := if i < 32 then srcId 27 i else srcId 28 (i - 32)

/-- A ceiling set; a clock above it is brought down (R262, R263, R287). -/
def State.setCeiling (s : State) (c v : Nat) : State :=
  let x := s.cluster c
  let s := s.setCluster c { x with ceiling := v }
  if v < x.clock ∨ (x.phase ≠ .idle ∧ v < x.target) then s.wantClock c v else s

/-- A ceiling lowered one step. -/
def State.lowerCeiling (s : State) (c : Nat) : State := s.setCeiling c (max 1000 ((s.cluster c).ceiling - 125))

/-- The lowest cluster whose value is best. -/
def bestOf (better : Nat → Nat → Bool) (l : List (Nat × Nat)) : Option Nat :=
  (l.foldl (fun (b : Option (Nat × Nat)) x =>
    match b with
    | none => some x
    | some y => if better x.2 y.2 then some x else some y) none).map (·.1)

/-- The first row of Table 14.6 that holds at a sample, below the trip (R287). -/
def State.thermalDecision (s : State) (cp : List Nat) : State :=
  let temp := fun i => s.temps.getD i 0
  let hot := (List.range 38).filter (fun i => decide (1000 ≤ temp i))
  let high : Int := 10 * s.obj 0x2380 2
  let low : Int := 10 * s.obj 0x2380 3
  let warm := (List.range 32).filter (fun c => decide (high ≤ temp c))
  let cap := s.obj 0x2380 1
  if hot ≠ [] then
    let s := (List.range 32).foldl (fun s c => s.setCeiling c 1000) s
    hot.foldl (fun s i => s.raise (sensorSource i) 0x3A 2 (temp i).toNat 0) s
  else if warm ≠ [] then warm.foldl (fun s c => s.lowerCeiling c) s
  else if cap < s.power then
    match bestOf (fun a b => decide (b < a)) ((List.range 32).map (fun c => (c, cp.getD c 0))) with
    | some c => s.lowerCeiling c
    | none => s
  else if (List.range 38).all (fun i => decide (temp i ≤ low)) ∧ s.power + s.obj 0x2380 4 ≤ cap then
    match bestOf (fun a b => decide (a < b)) ((List.range 32).map (fun c => (c, (s.cluster c).ceiling))) with
    | some c => if (s.cluster c).ceiling < 3000 then s.setCeiling c ((s.cluster c).ceiling + 125) else s
    | none => s
  else s

/-- The highest temperature of the last sample, 0.1 °C, not below 0. -/
def State.hottest (s : State) : Nat := s.temps.foldl (fun m t => max m t.toNat) 0

/-- The power-cap fault after 100 samples above the cap with every ceiling at 1,000 MHz (R288); its temperature is the highest of the
sample (Table 15.2, assumption 85). -/
def State.capWatch (s : State) : State :=
  if s.obj 0x2380 1 < s.power ∧ (List.range 32).all (fun c => (s.cluster c).ceiling == 1000) then
    let n := s.capSamples + 1
    let s := { s with capSamples := n }
    if n = 100 then s.raise (srcId 28 6) 0x3C 2 s.hottest 0 else s
  else { s with capSamples := 0 }

/-- HBM sensors: the refresh doubled from 95 °C until 90 °C or below, an event at 105 °C (R288). -/
def State.hbmWatch (s : State) : State :=
  (List.range 4).foldl (fun s n =>
    let t := s.temps.getD (32 + n) 0
    let s := if 950 ≤ t then { s with hbmHot := tput 0 n 1 s.hbmHot } else if t ≤ 900 then { s with hbmHot := tput 0 n 0 s.hbmHot } else s
    if 1050 ≤ t then s.raise (srcId 28 n) 0x3A 2 t.toNat 0 else s) s

/-- Whole seconds with a cluster sensor above 95 °C, written to the logbook once per hour (R368). -/
def State.hotWatch (s : State) : State :=
  let sec := s.now / 10 ^ 9
  let s := if (List.range 32).any (fun c => decide (950 < s.temps.getD c 0)) ∧ s.hotSecond ≠ sec + 1 then
      ({ s with hotSecond := sec + 1 }).bump 32 0x2380 6 else s
  if s.fw.hot.1 ≠ sec / 3600 then { s with fw := { s.fw with hot := (sec / 3600, s.obj 0x2380 6) } } else s

/-- A sample of the thermal policy taken (R287, R288, R368). -/
def State.policySample (s : State) (temps : List Int) (power : Nat) (clusterPower : List Nat) : State :=
  (((({ s with temps := temps, power := power }).thermalDecision clusterPower).capWatch).hbmWatch).hotWatch

/-- THERMAL_SAMPLE, deferred while a firmware switch runs (R287, R354). -/
def execThermalSample (temps : List Int) (power : Nat) (clusterPower : List Nat) (s : State) : Host.Outcome State Fault Refusal :=
  .next (if ¬ s.dictOpen then s
    else if s.fw.held then { s with fw := { s.fw with deferred := s.fw.deferred ++ [.sample temps power clusterPower] } }
    else s.policySample temps power clusterPower)

/-- The trip: D00 to D31 contained and opened without drain, ALERT_N, a level-3 fault on each cluster (Table 14.6, R288). -/
def State.tripClusters (s : State) (temp : Int) : State :=
  let s := (List.range 32).foldl (fun s c =>
    let s := s.isolateCluster c
    (s.setDomain c { s.domain c with
      state := .off, contained := true, degrades := true, imageLost := true, queued := 0, resetting := false, cancelled := false }).raise
        (srcId 16 c) 0x3B 3 temp.toNat 0) { s with tripped := true }
  if s.dev = .live then s.enterDev .degraded else s

/-- THERMAL_TRIP: a sensor at or above 110 °C, compared in hardware (R287). -/
def execThermalTrip (sensor : BitVec 6) (temp : Int) (s : State) : Host.Outcome State Fault Refusal :=
  .next (if 1100 ≤ temp ∧ sensor.toNat < 38 ∧ s.dev ≠ .off ∧ s.dev ≠ .reset then s.tripClusters temp else s)

/-! ### Supplies and the reference clock -/

/-- Domains that a rail takes out (Table 18.6). -/
def railDomains (r : Rail) : List Nat :=
  match r with
  | .aon => [] | .pll => [] | .io => [] | .log => []
  | .core => List.range 36 ++ [39]
  | .sram => List.range 36 ++ [39]
  | .vppHbm => [32, 33, 34, 35] | .hbm => [32, 33, 34, 35] | .vddqHbm => [32, 33, 34, 35]
  | .serdes => [36, 37, 38] | .vddhSerdes => [36, 37, 38]

/-- A rail out of tolerance in service: its domains contained with a level-3 fault each, stack contents lost, or a level-4 failure of
the always-on region (Table 18.6). The event codes are not laid down (assumption 5). -/
def State.failRail (s : State) (r : Rail) : State :=
  let l := railDomains r
  if l = [] then s.raiseFree (srcId 29 1) 4 else
  let s := l.foldl (fun s d => (s.containDomain d).raiseFree (domainSource d) 3) s
  if r = .vppHbm ∨ r = .hbm ∨ r = .vddqHbm then
    let (n, s) := s.fresh
    { s with hbm := [], hbmGone := some n }
  else s

/-- RAIL_FAILURE, in service from start-up step 4 on (R366). -/
def execRailFailure (rail : Rail) (s : State) : Host.Outcome State Fault Refusal :=
  .next (if s.dev ≠ .off ∧ s.dev ≠ .reset then s.failRail rail else s)

/-- REFCLK_FAILURE: the monitor is armed from step 3 on; the event's code, level and details are not laid down beyond its source
(R290, Table 17.9); an always-on failure is level 4 (R23; assumption 5). -/
def execRefclkFailure (s : State) : Host.Outcome State Fault Refusal :=
  .next (if s.dev ≠ .off then s.raiseFree (srcId 29 2) 4 else s)

end Sys2Proof.Machine
end

