-- ==== Sys2Proof/Machine/Boot.lean ====
section
/-! DEFINITION. Start-up, boot sources, live firmware update, the reset pin and writes to BAR0 (R206, R308, R322, R337, R341, R345 to R355, R359, R366, R371). -/

namespace Sys2Proof.Machine

/-! ### Start-up steps 7 and 8 -/

/-- Step 7, CONFIG, with the boot-up message; then step 8 trains the ports, unless the always-on region has failed (R349, R350). -/
def State.enterConfig (s : State) : State :=
  let s := (({ s with startStep := 7 }).enterDev .config).put (.bootUp s.nodeId)
  if s.aonFailed then s
  else
    let s := { s with startStep := 8 }
    ((List.range 8).foldl (fun s p => s.startPort p) s).checkPorts

/-! ### Boot sources -/

/-- PCIe boot mode (R352). -/
def State.enterBootMode (s : State) : State :=
  { s with fw := { s.fw with bootMode := true, ram := [] }, host := { s.host with bootStatus := 0 } }

/-- Boot from the logbook: the preferred slot, else the other with an event, else PCIe boot with a second one (R352). -/
def State.bootLogbook (s : State) : State :=
  if (s.slot s.preferredSlot).state = 1 then (s.runSlot s.preferredSlot).enterConfig
  else
    let s := s.raiseFree (srcId 25 4) 2
    if (s.slot s.inactiveSlot).state = 1 then (s.runSlot s.inactiveSlot).enterConfig
    else (s.raiseFree (srcId 25 4) 2).enterBootMode

/-- An image from outside is started: source code 2 host, 3 peer (0x2100:08, R352). -/
def State.startImageFrom (s : State) (source : Nat) (l : List (BitVec 8)) : State :=
  let fw := { s.fw with
    running := source, version := imageVersion l, bootMode := false, peerBoot := false, peerRead := none, peerTried := [],
    ram := tputAll 0 ((List.range l.length).zip (l.map (·.toNat))) [] }
  ({ s with fw := fw }).enterConfig

/-- Step 6 goes to the boot source that the straps name (R348, R352). -/
def State.boot (s : State) : State :=
  match s.straps.bootsrc.toNat with
  | 1 => s.enterBootMode
  | 2 =>
    let s := { s with fw := { s.fw with peerBoot := true } }
    (List.range 8).foldl (fun s p => s.startPort p) s
  | _ => s.bootLogbook

/-! ### Start-up steps 2 to 6 -/

/-- Events of the straps (R348, R352). -/
def State.strapEvents (s : State) : State :=
  let s := if s.straps.tmstr ∧ s.straps.tbkup then s.raiseFree (srcId 25 1) 1 else s
  if s.straps.bootsrc = 3 then s.raiseFree (srcId 25 0) 1 else s

/-- A BIST failure logged under the domain's source; which event it is the manual does not say (R206, assumptions 5 and 100). -/
def State.bistFault (s : State) (d : Nat) : State := s.raiseFree (domainSource d) 2

/-- Steps 4 and 5: the checkers of a domain are driven through their patterns (`nonetPatterns` for the nonet code); failing domains are
contained, a failure of the always-on region is a level-4 fault, BIST failures are logged (R206, R350). -/
def State.selfTest (s : State) (tests : SelfTest) : State :=
  let s := { s with startStep := 5 }.enterDev .selftest
  let s := (tests.failed.filter (fun d => decide (d.toNat < 40))).foldl (fun s d => (s.containDomain d.toNat).selfTestFault d.toNat) s
  let s := (tests.bist.filter (fun d => decide (d.toNat < 40))).foldl (fun s d => s.bistFault d.toNat) s
  if tests.alwaysOn then
    let (a, s) := s.fresh
    let (b, s) := s.fresh
    ({ s with aonFailed := true }).raise (srcId 29 3) 0x08 4 (Config.freeCount a) (Config.freeCount b)
  else s

/-- Step 6: the logbook scan, the non-volatile defaults, with an event when no copy of them passes, and what follows from them in the CAN
controller and in the engines' FSR, the seconds above 95 °C, the boot image (R98, R308, R321, R322, R352, R368). -/
def State.managementStart (s : State) : State :=
  let s := { s with startStep := 6, objs := s.nvValues }
  let s := { s with can := { s.can with rates := s.obj 0x2100 6 } }
  let s := (s.objs.filter (fun x => decide (256 * 0x2400 ≤ x.1) && decide (x.1 < 256 * 0x2600) && x.1 % 256 == 0x10)).foldl
    (fun s x => s.setCore (x.1 / 256 - 0x2400) { s.core (x.1 / 256 - 0x2400) with fsr := s.fsrDefault (x.1 / 256 - 0x2400) }) s
  let s := if s.nvInUse.isNone then s.raiseFree (srcId 25 4) 2 else s
  let s := s.setObj 0x2380 6 s.fw.hot.2
  s.scanLogbook.boot

/-- Start-up from step 2: straps sampled, RESET; a rail out of tolerance at step 3 holds the part there (R348, R349, R366). -/
def State.startUp (s : State) (straps : Straps) (tests : SelfTest) : State :=
  let s := ({ s with porst := false, straps := straps, startStep := 2 }).enterDev .reset
  let s := { s with startStep := 3 }.strapEvents
  if tests.railBad then s
  else
    let s := ({ s with startStep := 4 }).enterDev .selftest
    (s.trainHost.selfTest tests).managementStart

/-- The TAP after PORST_N rises: an instruction in control of the pins gives way to BYPASS (R371). -/
def Tap.release (t : Tap) : Tap :=
  match t.instr with
  | .extest | .pulse | .train | .clamp | .highz => { t with instr := .bypass }
  | _ => t

/-- PORST_N_RISE, and the start-up that follows a device reset (R346, R348 to R352, R371). -/
def execPorstNRise (straps : Straps) (tests : SelfTest) (s : State) : Host.Outcome State Fault Refusal :=
  .next (if s.dev = .off then ({ s with tap := s.tap.release }).startUp straps tests else s)

/-- PORST_N_FALL (R346). -/
def execPorstNFall (s : State) : Host.Outcome State Fault Refusal := .next (if s.porst then s else s.resetAll true)

/-! ### Images from the host and from a partner -/

/-- BOOT_CTRL written with go set, in boot mode: a valid image is started (R352, Table 17.2). -/
def State.bootCtrl (s : State) (length : BitVec 24) : State :=
  let l := (List.range (min length.toNat (2 ^ 23))).map (fun i => BitVec.ofNat 8 (tget 0 s.fw.ram i))
  if ¬ s.fw.bootMode then s
  else if length.toNat ≤ 2 ^ 23 ∧ imageValid l then ({ s with host := { s.host with bootStatus := 2 } }).startImageFrom 2 l
  else { s with host := { s.host with bootStatus := 3 } }

/-- BOOT_GO (R352). -/
def execBootGo (length : BitVec 24) (s : State) : Host.Outcome State Fault Refusal :=
  .next (if s.hostServes then s.bootCtrl length else s.unsupportedWrite)

/-! ### BAR0 -/

/-- A 4-byte write to a register of DMA channel c (Table 17.5): ring base, ring size from 1 to 16, HEAD, enable and pause, the error
bit; the rest is read-only. -/
def State.writeDmaReg (s : State) (c o : Nat) (v : BitVec 32) : State :=
  let x := s.dma c
  match o with
  | 0 => s.setDma c { x with base := setHalf x.base false (v &&& 0xFFFFFFE0#32) }
  | 4 => s.setDma c { x with base := setHalf x.base true v }
  | 8 => let n := v.extractLsb' 0 5
    if 1 ≤ n.toNat ∧ n.toNat ≤ 16 then s.setDma c { x with size := n } else s
  | 0xC => s.dmaWrite c (fun x => { x with head := v.truncate 16 })
  | 0x14 => s.dmaWrite c (fun x => { x with enable := v.getLsbD 0, pause := v.getLsbD 1 })
  | 0x18 => if v.getLsbD 2 then s.dmaWrite c (fun x => { x with error := false }) else s
  | _ => s

/-- A 4-byte write to BAR0; read-only and reserved offsets ignore it (R337, Table 17.2). -/
def State.writeReg (s : State) (o : Nat) (v : BitVec 32) : State :=
  if o = 8 then (if v.getLsbD 31 then s.bootCtrl (v.extractLsb' 0 24) else s)
  else if 0x40 ≤ o ∧ o < 0xB8 then s.writeAperture ((o - 0x40) / 8) (o % 8 == 4) v
  else if o = 0x100 then s.mbCommand v
  else if 0x100 < o ∧ o < 0x2000 then s.writeMbReg o v
  else if 0x2000 ≤ o ∧ o < 0x2400 then s.writeDmaReg ((o - 0x2000) / 0x80) ((o - 0x2000) % 0x80) v
  else s

/-- 4 bytes of a DMA channel's registers read (Table 17.5). -/
def State.readDmaReg (s : State) (c o : Nat) : BitVec 32 :=
  let x := s.dma c
  match o with
  | 0 => x.base.truncate 32
  | 4 => x.base.extractLsb' 32 32
  | 8 => x.size.zeroExtend 32
  | 0xC => x.head.zeroExtend 32
  | 0x10 => x.tail.zeroExtend 32
  | 0x14 => 0#30 ++ BitVec.ofBool x.pause ++ BitVec.ofBool x.enable
  | 0x18 => 0#29 ++ BitVec.ofBool x.error ++ BitVec.ofNat 2 x.state
  | 0x1C => x.code.zeroExtend 32
  | 0x20 => x.addr.truncate 32
  | 0x24 => (x.addr.extractLsb' 32 8).zeroExtend 32
  | 0x28 => BitVec.ofNat 32 x.completed
  | _ => 0

/-- 4 bytes of BAR0 read: write-only registers and reserved offsets read zero (R8, R337, Table 17.2). -/
def State.readReg (s : State) (o : Nat) : BitVec 32 :=
  if o = 0 then BitVec.ofNat 32 (if s.fw.bootMode then 7 else devCode s.dev)
  else if o = 0xC then BitVec.ofNat 32 s.host.bootStatus
  else if 0x40 ≤ o ∧ o < 0xB8 then
    (((s.host.aperture.toList.getD ((o - 0x40) / 8) 0).zeroExtend 64).extractLsb' (if o % 8 = 4 then 32 else 0) 32)
  else if 0x100 ≤ o ∧ o < 0x2000 then s.readMbReg o
  else if 0x2000 ≤ o ∧ o < 0x2400 then s.readDmaReg ((o - 0x2000) / 0x80) ((o - 0x2000) % 0x80)
  else 0

/-- A read of BAR0 by an aligned 4-byte or 8-byte request; none: it completes with Unsupported Request (R335, R337). -/
def State.readBar0 (s : State) (o size : Nat) : Option (BitVec 64) :=
  if ¬ s.hostServes then none
  else if size = 4 ∧ o % 4 = 0 then some ((s.readReg o).zeroExtend 64)
  else if size = 8 ∧ o % 8 = 0 then some (s.readReg (o + 4) ++ s.readReg o)
  else none

/-! ### BAR4 and configuration space -/

/-- 4 bytes of the MSI-X table written: a vector's address, data, or mask; one unmasked with its pending bit set is sent (R336, R340; the
entry's layout is PCI Express's, assumption 6). -/
def State.writeMsix (s : State) (o : Nat) (v : BitVec 32) : State :=
  let k := o / 16
  if 64 ≤ k then s
  else if o % 16 ≠ 12 then { s with host := { s.host with msix := tput 0 (4 * k + o % 16 / 4) v.toNat s.host.msix } }
  else if v.getLsbD 0 then { s with host := { s.host with unmasked := s.host.unmasked &&& ~~~(1#64 <<< k) } }
  else
    let t := { s with host := { s.host with
      unmasked := s.host.unmasked ||| (1#64 <<< k), pendingBits := s.host.pendingBits &&& ~~~(1#64 <<< k) } }
    if s.host.pendingBits.getLsbD k then t.vector k else t

/-- 4 bytes of BAR4 read: the MSI-X table at 0, the pending bits at 0x1000 (R336). -/
def State.readMsix (s : State) (o : Nat) : BitVec 32 :=
  if o < 0x400 then
    (if o % 16 = 12 then BitVec.ofNat 32 (!s.host.unmasked.getLsbD (o / 16)).toNat
     else BitVec.ofNat 32 (tget 0 s.host.msix (4 * (o / 16) + o % 16 / 4)))
  else if o = 0x1000 then s.host.pendingBits.truncate 32
  else if o = 0x1004 then s.host.pendingBits.extractLsb' 32 32
  else 0

/-- Address bits that the sizes of BAR0, BAR2 and BAR4 leave to software: 64 KiB, 64 GiB, 8 KiB (R336). -/
def barMask (k : Nat) : BitVec 64 := ~~~(BitVec.ofNat 64 (2 ^ (match k with | 0 => 16 | 1 => 36 | _ => 13) - 1))

/-- What the low bits of a BAR read as: 64-bit memory, BAR2 prefetchable (R336; PCI Express's code, assumption 6). -/
def barKind (k : Nat) : BitVec 64 := if k = 1 then 0xC else 0x4

/-- 4 bytes of configuration space written: the base address registers (R336; PCI Express's offsets, assumption 6). -/
def State.writeConfig (s : State) (o : Nat) (v : BitVec 32) : State :=
  if 0x10 ≤ o ∧ o < 0x28 then
    let k := (o - 0x10) / 8
    { s with host := { s.host with bars := s.host.bars.setIfInBounds k (setHalf (s.host.bars.toList.getD k 0) (o % 8 == 4) v &&& barMask k) } }
  else s

/-- Identity of the function: Vendor and Device ID, Revision ID and class code (Table 17.1). -/
def vendorId : BitVec 16 := 0x1F3C
def deviceIdPci : BitVec 16 := 0x5120
def revisionId : BitVec 8 := 0xB0
def classCode : BitVec 24 := 0x120000

/-- Capabilities advertised, in PCI Express's numbers: power management, PCI Express, MSI-X; and AER of the extended ones (Table 17.1;
assumption 6). -/
def capabilities : List Nat := [0x01, 0x10, 0x11]
def extendedCapabilities : List Nat := [0x0001]

/-- Largest payload and read request, and MSI-X vectors (Table 17.1). -/
def maxPayload : Nat := 512
def maxReadRequest : Nat := 4096
def msixVectors : Nat := 64

/-- 4 bytes of configuration space read: identity, BARs, subsystem IDs (R335, R336; PCI Express's offsets, assumption 6). -/
def State.readConfig (s : State) (o : Nat) : BitVec 32 :=
  if o = 0 then deviceIdPci ++ vendorId
  else if o = 8 then classCode ++ revisionId
  else if 0x10 ≤ o ∧ o < 0x28 then
    let k := (o - 0x10) / 8
    (s.host.bars.toList.getD k 0 ||| barKind k).extractLsb' (if o % 8 = 4 then 32 else 0) 32
  else if o = 0x2C then BitVec.ofNat 32 (s.objValue 0x3500 6)
  else 0

/-- The function answers configuration requests, in D0 or D3hot: from step 7 on, or from step 6 in PCIe boot mode; before, with Configuration
Request Retry Status (R335, R351). -/
def State.configServes (s : State) : Bool :=
  s.host.link == 2 && (s.domain 38).state == .live && !(s.domain 38).contained && (decide (7 ≤ s.startStep) || s.fw.bootMode)

/-! ### REGISTER_WRITE -/

/-- A write of 4 or 8 aligned bytes carried out 4 bytes at a time, the lower half first; none: another size (R337). -/
def writeHalves (write : State → Nat → BitVec 32 → State) (o size : Nat) (value : BitVec 64) (s : State) : Option State :=
  if size = 4 ∧ o % 4 = 0 then some (write s o (value.truncate 32))
  else if size = 8 ∧ o % 8 = 0 then some (write (write s o (value.truncate 32)) (o + 4) (value.extractLsb' 32 32))
  else none

/-- REGISTER_WRITE: aligned 4-byte or 8-byte writes of BAR0 or BAR4, any other is discarded and signalled through AER; 4-byte writes of
configuration space (R335 to R337). -/
def execRegisterWrite (offset : HostOffset) (size : Nat) (value : BitVec 64) (s : State) : Host.Outcome State Fault Refusal :=
  .next (match offset with
    | .config o => if s.configServes ∧ size = 4 ∧ o.toNat % 4 = 0 then s.writeConfig o.toNat (value.truncate 32) else s
    | .bar0 o => if s.hostServes then (writeHalves State.writeReg o.toNat size value s).getD s.unsupportedWrite else s.unsupportedWrite
    | .bar4 o => if s.hostServes then (writeHalves State.writeMsix o.toNat size value s).getD s.unsupportedWrite else s.unsupportedWrite)

/-- The bytes that words of a boot image carry (R352). -/
def imageBytes (l : List Word) : List (BitVec 8) := l.flatMap (fun w => (List.range 4).map (fun i => w.extractLsb' (8 * i) 8))

/-- The partner on port p has not delivered a valid image, and the next is tried (R352). -/
def State.failPeer (s : State) (p : Nat) : State := ({ s with fw := { s.fw with peerTried := p :: s.fw.peerTried } }).nextPeer

/-- The words of the image so far, with the last response's (R352). -/
def State.peerWords (s : State) (p : Nat) (l : List Word) : State :=
  let bytes := imageBytes l
  let n := imageField bytes 8
  if imageField bytes 0 ≠ 0x5A465731 ∨ n < 64 ∨ 2 ^ 23 < n then s.failPeer p
  else if bytes.length < n then ({ s with fw := { s.fw with peerRead := some (p, l) } }).readPeer p l.length
  else if imageValid bytes then s.startImageFrom 3 (bytes.take n)
  else s.failPeer p

/-- A READ response at the management controller while a boot image is being read (R352). -/
def State.bootResponse (s : State) : State :=
  match s.responses .service, s.fw.peerRead with
  | h :: _, some (p, l) =>
    if hdOp h.head ≠ 0x21 then s
    else
      let good := headSyndrome h.head == 0 && h.data.all (fun f => dataSyndrome f == 0) && hdStatus h.head == 0
      let mine := headSyndrome h.head == 0 && hdTag h.head == BitVec.ofNat 12 (l.length / 64)
      let s := s.takeResponse .service 0x21
      if ¬ mine then s.discard (requesterUnit .service)
      else if good then s.peerWords p (l ++ flitWords h.data 64)
      else s.failPeer p
  | _, _ => s.takeResponse .service 0x21

/-- READ_RSP (R117, R215, R352). -/
def execReadRsp (d : RspDst) (s : State) : Host.Outcome State Fault Refusal :=
  .next (if d = .service then s.bootResponse else s.takeResponse d 0x21)

/-- The READ of a boot image that times out is one that its partner has not answered (R223, R352); its tag is the number of reads before it. -/
def State.bootTimeout (s : State) (tag : BitVec 12) : Option State :=
  match s.fw.peerRead with
  | some (p, l) => if s.fw.peerBoot ∧ tag = BitVec.ofNat 12 (l.length / 64) then some (s.failPeer p) else none
  | none => none

/-- INITIATOR_TIMEOUT (R223). -/
def execInitiatorTimeout (d : RspDst) (tag : BitVec 12) (s : State) : Host.Outcome State Fault Refusal :=
  .next (match d, s.bootTimeout tag with
    | .service, some t => t
    | _, _ => s.initiatorTimeoutStep d tag)

/-- PEER_BOOT_TIMEOUT (R352). -/
def execPeerBootTimeout (s : State) : Host.Outcome State Fault Refusal :=
  .next (if s.fw.peerBoot then ({ s with fw := { s.fw with peerBoot := false, peerRead := none, peerTried := [] } }).bootLogbook else s)

/-! ### Live firmware update -/

/-- No power sequence of a domain is in progress (Table 17.11, step 2). -/
def State.noSequence (s : State) : Bool :=
  (List.range 40).all (fun d => let x := s.domain d
    x.state == .live || x.state == .off || (x.state == .restore && x.contained))

/-- The quiet point (Table 17.11, step 2). -/
def State.quiet (s : State) : Bool :=
  !(s.txn.status == 1 || s.txn.status == 2 || s.txn.status == 3) && s.noSequence && s.noc.drain == 0 && !s.host.mb.busy

/-- QUIET_POINT: status 4, accesses held from here on (R354). -/
def execQuietPoint (s : State) : Host.Outcome State Fault Refusal :=
  .next (if s.dictOpen ∧ ¬ s.fw.held ∧ s.fw.update = 3 ∧ s.quiet then
    let s := s.enterUpdate 4
    { s with fw := { s.fw with held := true, reloading := false } }
  else s)

/-- QUIET_POINT_TIMEOUT (Table 17.11, step 2). -/
def execQuietPointTimeout (s : State) : Host.Outcome State Fault Refusal :=
  .next (if s.dictOpen ∧ s.fw.update = 3 ∧ ¬ s.quiet then s.enterUpdate 6 else s)

/-- A deferred action carried out (R354). -/
def State.runDeferred (s : State) (d : Deferred) : State :=
  match d with
  | .halt f => s.requestHalt f
  | .emcy code src event => s.emcyNow code src event
  | .stop f reason => s.sendStop f reason
  | .sample temps power clusterPower => s.policySample temps power clusterPower

/-- A held access served (Table 17.11, step 6), not over a CAN port that has been stopped meanwhile (R317); a device reset among them leaves
nothing to serve. -/
def State.serveHeld (s : State) (a : Access) : State :=
  if ¬ s.dictOpen ∨ (a.overCan ∧ s.can.stopped) then s else
  match a with
  | .write path ix sub bytes => s.serveAccess path ix sub bytes
  | .silent ix sub bytes =>
    let (code, t) := s.dictWrite .pcie ix sub bytes
    if t.dev = .off then t else t.abortEvent .pcie ix sub code
  | .canRead ix sub => s.canRead ix sub
  | .mailbox cmd => s.mbServe cmd

/-- The management core runs again: what was deferred is done, what was held is served (Table 17.11, steps 5 and 6). -/
def State.endSwitch (s : State) : State :=
  let d := s.fw.deferred
  let h := s.fw.heldAccesses
  let s := { s with fw := { s.fw with held := false, reloading := false, deferred := [], heldAccesses := [] } }
  h.foldl (fun s a => s.serveHeld a) (d.foldl (fun s x => s.runDeferred x) s)

/-- FIRMWARE_READY: the new image becomes preferred; the old or preferred image after a failure or a watchdog restart changes nothing
(Table 17.11, step 6, R355). -/
def execFirmwareReady (s : State) : Host.Outcome State Fault Refusal :=
  .next (if ¬ s.fw.held then s
    else if s.fw.reloading then (s.runSlot s.preferredSlot).endSwitch
    else if (s.slot s.inactiveSlot).state = 1 then
      let k := s.inactiveSlot
      let s := { s with fw := { s.fw with preferred := k == 1 } }
      ((s.runSlot k).enterUpdate 5).endSwitch
    else s)

/-- READY_TIMEOUT: the old slot is loaded again (R355). -/
def execReadyTimeout (s : State) : Host.Outcome State Fault Refusal :=
  .next (if s.fw.held ∧ ¬ s.fw.reloading then
    let s := (s.enterUpdate 6).raiseFree (srcId 25 0) 2
    { s with fw := { s.fw with reloading := true } }
  else s)

/-- WATCHDOG_EXPIRY: the core restarts from the preferred slot; the third within 10 s is a level-4 failure (R346, R355). -/
def execWatchdogExpiry (s : State) : Host.Outcome State Fault Refusal :=
  .next (if ¬ s.dictOpen then s else
    let s := if s.fw.update = 4 then s.enterUpdate 6 else s
    let s := if s.txn.status = 1 then s.endTxn 5 else s
    let times := s.now :: s.fw.expiries.filter (fun t => decide (s.now < t + 10 ^ 10))
    let s := { s with fw := { s.fw with held := true, reloading := true, expiries := times.take 3 } }
    let s := s.raiseFree (srcId 25 0) 2
    if 3 ≤ times.length then s.raiseFree (srcId 29 3) 4 else s)

end Sys2Proof.Machine
end

