-- ==== Sys2Proof/Machine/Control.lean ====
section
/-! DEFINITION. Control transfer, loops, string instructions, system instructions and the illegal-instruction trap
(R106 to R110, R113, R131 to R134, R140). -/

namespace Sys2Proof.Machine

/-- A jump's target (R131). -/
def jumpTarget (c : Core) (w : Word) : BitVec 15 :=
  if modeOf w = 7 then (c.reg (codeOf w)).truncate 15 else w.extractLsb' 0 15

/-- A jump taken when the flags say so. -/
def jumpBody (cond : BitVec 5 → Bool) (g : Nat) (w : Word) (s : State) : Eff :=
  let c := s.core g
  if cond c.f then .done s (.jump (jumpTarget c w)) [] else .next s

/-- The flags C, Z, N, O, D. -/
def fC (f : BitVec 5) : Bool := f.getLsbD 0
/-- Z. -/
def fZ (f : BitVec 5) : Bool := f.getLsbD 1
/-- N. -/
def fN (f : BitVec 5) : Bool := f.getLsbD 2
/-- O. -/
def fO (f : BitVec 5) : Bool := f.getLsbD 3
/-- D. -/
def fD (f : BitVec 5) : Bool := f.getLsbD 4

/-- CALL: l := pc + 1; illegal at 0x7FFF. -/
def bodyCall (g : Nat) (w : Word) (s : State) : Eff :=
  let c := s.core g
  if c.pc = 0x7FFF then illegalEff s g
  else .done (s.setCore g { c with l := c.pc + 1 }) (.jump (jumpTarget c w)) []

/-- RET: pc := l. -/
def bodyRet (g : Nat) (_w : Word) (s : State) : Eff := .done s (.jump (s.core g).l) []

/-- Control to the instruction after address e, past 0x7FFF included (R101). -/
def goAfter (g : Nat) (c : Core) (e : BitVec 15) (s : State) : Eff :=
  if e = 0x7FFF then .done (s.setCore g { c with pc := 0x7FFF, past := true }) .ended [] else .done (s.setCore g c) (.jump (e + 1)) []

/-- LPS (R108, R132). -/
def bodyLps (g : Nat) (w : Word) (s : State) : Eff :=
  let c := s.core g
  let n := (w.extractLsb' 22 2).toNat
  let cnt : BitVec 24 := if modeOf w = 7 then c.a.truncate 24 else (w.extractLsb' 12 10).zeroExtend 24
  let lst := c.loops.lst.toNat
  let last := c.pc.toNat + 1 + (addrOf w).toNat
  if c.handler ∨ lst = 3 ∨ n ≠ lst ∨ 0x7FFF < last ∨ anyTo lst (fun i => c.loops.le.toList.getD i 0 == c.pc) then illegalEff s g
  else if cnt = 0 then goAfter g c (BitVec.ofNat 15 last) s
  else if h : lst < 3 then
    let l := { ls := c.loops.ls.set lst (c.pc + 1) h, le := c.loops.le.set lst (BitVec.ofNat 15 last) h, lc := c.loops.lc.set lst cnt h,
               lst := BitVec.ofNat 2 (lst + 1) }
    -- the LPS itself makes no end check: it does not stand at the end of an active level
    .done (s.setCore g { c with loops := l }) (.jump (c.pc + 1)) []
  else illegalEff s g

/-- BRKL (R110). -/
def bodyBrkl (g : Nat) (_w : Word) (s : State) : Eff :=
  let c := s.core g
  let lst := c.loops.lst.toNat
  if c.handler ∨ lst = 0 then illegalEff s g
  else goAfter g { c with loops := { c.loops with lst := BitVec.ofNat 2 (lst - 1) } } (c.loops.le.toList.getD (lst - 1) 0) s

/-- X, Y, C of engine g set as an element of a string instruction leaves them. -/
def setString (s : State) (g : Nat) (x y : Word) (n : Nat) : State :=
  s.setCore g { s.core g with x := x, y := y, c := BitVec.ofNat 24 n }

/-- A string store's trap, before the element (R107). -/
def stringStore (g : Nat) (x y : Word) (n : Nat) (v : Word) (s : State) : Sum Eff State :=
  let adr := y.toNat % 0x20000
  match storeTrap s g adr with
  | some cause => .inl (refuseStore (setString s g x y n) g cause adr)
  | none => .inr (s.writeLocal g adr 15 v)

/-- MOVS, n elements left (Table 6.8); the code-write cause precedes the data error. -/
def movsGo (g : Nat) (st : Word) : Nat → Word → Word → State → Eff
  | 0, x, y, s => .next (setString s g x y 0)
  | n + 1, x, y, s =>
    match storeTrap s g (y.toNat % 0x20000) with
    | some cause => refuseStore (setString s g x y (n + 1)) g cause (y.toNat % 0x20000)
    | none =>
      match s.engineRead g (x.toNat % 0x20000) 31 with
      | (none, s) => addressEff (setString s g x y (n + 1)) g 3 (x.toNat % 0x20000)
      | (some v, s) => movsGo g st n (x + st) (y + st) (s.writeLocal g (y.toNat % 0x20000) 15 v)

/-- FILLS. -/
def fillsGo (g : Nat) (st a x : Word) : Nat → Word → State → Eff
  | 0, y, s => .next (setString s g x y 0)
  | n + 1, y, s =>
    match stringStore g x y (n + 1) a s with
    | .inl e => e
    | .inr s => fillsGo g st a x n (y + st) s

/-- Z and C as CMPS leaves them, O N D kept. -/
def setZC (f : BitVec 5) (z c : Bool) : BitVec 5 := setCZNO f c z (fN f) (fO f)

/-- CMPS. -/
def cmpsGo (g : Nat) (st : Word) : Nat → Word → Word → State → Eff
  | 0, x, y, s =>
    let s := setString s g x y 0
    regEff s g { s.core g with f := setZC (s.core g).f true false }
  | n + 1, x, y, s =>
    match s.engineRead g (x.toNat % 0x20000) 31 with
    | (none, s) => addressEff (setString s g x y (n + 1)) g 3 (x.toNat % 0x20000)
    | (some v, s) =>
      match s.engineRead g (y.toNat % 0x20000) 31 with
      | (none, s) => addressEff (setString s g x y (n + 1)) g 3 (y.toNat % 0x20000)
      | (some u, s) =>
        if v = u then cmpsGo g st n (x + st) (y + st) s
        else
          let s := setString s g x y (n + 1)
          regEff s g { s.core g with f := setZC (s.core g).f false (decide (v.toNat < u.toNat)) }

/-- SCANS: stops at an element equal to A, or with sense set at one that differs. -/
def scansGo (g : Nat) (st a y : Word) (sense : Bool) : Nat → Word → State → Eff
  | 0, x, s =>
    let s := setString s g x y 0
    regEff s g { s.core g with f := setCZNO (s.core g).f (fC (s.core g).f) false (fN (s.core g).f) (fO (s.core g).f) }
  | n + 1, x, s =>
    match s.engineRead g (x.toNat % 0x20000) 31 with
    | (none, s) => addressEff (setString s g x y (n + 1)) g 3 (x.toNat % 0x20000)
    | (some v, s) =>
      if (v == a) != sense then
        let s := setString s g x y (n + 1)
        regEff s g { s.core g with f := setCZNO (s.core g).f (fC (s.core g).f) true (fN (s.core g).f) (fO (s.core g).f) }
      else scansGo g st a y sense n (x + st) s

/-- The step s of format SR. -/
def stringStep (w : Word) : Word := sext12 (addrOf w)

/-- MOVS from the registers. -/
def bodyMovs (g : Nat) (w : Word) (s : State) : Eff := let c := s.core g; movsGo g (stringStep w) c.c.toNat c.x c.y s
/-- FILLS from the registers. -/
def bodyFills (g : Nat) (w : Word) (s : State) : Eff := let c := s.core g; fillsGo g (stringStep w) c.a c.x c.c.toNat c.y s
/-- CMPS from the registers. -/
def bodyCmps (g : Nat) (w : Word) (s : State) : Eff := let c := s.core g; cmpsGo g (stringStep w) c.c.toNat c.x c.y s
/-- SCANS from the registers. -/
def bodyScans (g : Nat) (w : Word) (s : State) : Eff :=
  let c := s.core g; scansGo g (stringStep w) c.a c.y (w.getLsbD 12) c.c.toNat c.x s

/-! ### Special registers -/

/-- MBS: nonet k for segment k (Table 5.12). -/
def Segment.nonet (x : Segment) : BitVec 9 := 0#3 ++ BitVec.ofBool x.reported ++ BitVec.ofBool x.outstanding ++ x.code

/-- The four nonets of MBS. -/
def Core.mbs (c : Core) : Word := c.seg[3].nonet ++ c.seg[2].nonet ++ c.seg[1].nonet ++ c.seg[0].nonet

/-- FSR as it reads: the queue count in [17:15] (Table 5.3). -/
def Core.fsrWord (c : Core) : Word := (setField c.fsr 15 3 (BitVec.ofNat 3 c.fpq.length)).zeroExtend 36

/-- A special register as MFS reads it (Table 5.4); none for an unlisted number. -/
def readSpecial (s : State) (g : Nat) (n : Nat) : Option Word :=
  let c := s.core g
  match n with
  | 0x00 => some (c.ep.truncate 36)
  | 0x01 => some ((c.ep >>> 36).truncate 36)
  | 0x02 => some (c.fl.zeroExtend 36)
  | 0x03 => some (c.win.zeroExtend 36)
  | 0x04 => some c.fsrWord
  | 0x05 => some (c.tcause.zeroExtend 36)
  | 0x06 => some (c.tpc.zeroExtend 36)
  | 0x07 => some c.tinfo
  | 0x08 => some (c.tf.zeroExtend 36)
  | 0x09 => some (c.loops.lst.zeroExtend 36)
  | 0x0A => some (c.loops.ls[0].zeroExtend 36)
  | 0x0B => some (c.loops.ls[1].zeroExtend 36)
  | 0x0C => some (c.loops.ls[2].zeroExtend 36)
  | 0x0D => some (c.loops.le[0].zeroExtend 36)
  | 0x0E => some (c.loops.le[1].zeroExtend 36)
  | 0x0F => some (c.loops.le[2].zeroExtend 36)
  | 0x10 => some (c.loops.lc[0].zeroExtend 36)
  | 0x11 => some (c.loops.lc[1].zeroExtend 36)
  | 0x12 => some (c.loops.lc[2].zeroExtend 36)
  | 0x13 => some c.mbs
  | 0x14 => some (BitVec.ofNat 36 (s.logical g s.noc.gen))
  | 0x15 => some (BitVec.ofNat 36 (s.devId % 1024))
  | k => if h : 0x20 ≤ k ∧ k < 0x60 then some (c.mb[k - 0x20]'(by omega)) else none

/-- MFS: a word of an outstanding segment stalls (Table 5.8, case 12). -/
def bodyMfs (g : Nat) (w : Word) (s : State) : Eff :=
  let c := s.core g
  let n := (w.extractLsb' 0 7).toNat
  if 0x20 ≤ n ∧ n < 0x60 ∧ (c.seg.toList.getD ((n - 0x20) / 16) Segment.reset).outstanding then .stall else
  match readSpecial s g n with
  | some v => regEff s g { c with a := v }
  | none => illegalEff s g

/-- FSR written: flags, controls and record lost; a reserved rounding code is refused (R98). -/
def writeFsr (old : BitVec 19) (w : Word) : Option (BitVec 19) :=
  if 5 ≤ (w.extractLsb' 10 3).toNat then none
  else some (setField (setField old 0 15 (w.extractLsb' 0 15)) 18 1 (w.extractLsb' 18 1))

/-- A special register written by MTS; none where it is not writable (R99). An MTS to a loop register that stands at a loop's end decides its
own end check on the values before its write, as the two instructions after it do (DESIGN CHOICE, assumption 20). -/
def writeSpecial (c : Core) (n : Nat) (w : Word) : Option Core :=
  let note := fun (b : Word) (c : Core) => { c with loopWrites := c.loopWrites ++ [{ special := BitVec.ofNat 7 n, left := 3, before := b }] }
  let l := c.loops
  match n with
  | 0x04 => (writeFsr c.fsr w).map (fun f => { c with fsr := f })
  | 0x06 => some { c with tpc := w.truncate 15 }
  | 0x08 => some { c with tf := w.truncate 5 }
  | 0x09 => some (note (l.lst.zeroExtend 36) { c with loops := { l with lst := w.truncate 2 } })
  | 0x0A => some (note (l.ls[0].zeroExtend 36) { c with loops := { l with ls := l.ls.set 0 (w.truncate 15) } })
  | 0x0B => some (note (l.ls[1].zeroExtend 36) { c with loops := { l with ls := l.ls.set 1 (w.truncate 15) } })
  | 0x0C => some (note (l.ls[2].zeroExtend 36) { c with loops := { l with ls := l.ls.set 2 (w.truncate 15) } })
  | 0x0D => some (note (l.le[0].zeroExtend 36) { c with loops := { l with le := l.le.set 0 (w.truncate 15) } })
  | 0x0E => some (note (l.le[1].zeroExtend 36) { c with loops := { l with le := l.le.set 1 (w.truncate 15) } })
  | 0x0F => some (note (l.le[2].zeroExtend 36) { c with loops := { l with le := l.le.set 2 (w.truncate 15) } })
  | 0x10 => some (note (l.lc[0].zeroExtend 36) { c with loops := { l with lc := l.lc.set 0 (w.truncate 24) } })
  | 0x11 => some (note (l.lc[1].zeroExtend 36) { c with loops := { l with lc := l.lc.set 1 (w.truncate 24) } })
  | 0x12 => some (note (l.lc[2].zeroExtend 36) { c with loops := { l with lc := l.lc.set 2 (w.truncate 24) } })
  | _ => none

/-- MTS. -/
def bodyMts (g : Nat) (w : Word) (s : State) : Eff :=
  let c := s.core g
  match writeSpecial c (w.extractLsb' 0 7).toNat c.a with
  | some c => regEff s g c
  | none => illegalEff s g

/-- TRAP: cause 32 + n, TPC the next instruction; it has completed, so the loads it is a slot of and the loop writes are aged (R104). -/
def bodyTrap (g : Nat) (w : Word) (s : State) : Eff :=
  let c := s.core g
  .trap (0x20#6 ||| (w.extractLsb' 0 5).zeroExtend 6) (c.pc + 1) 0 (if c.handler then s else s.setCore g c.ageLoads.ageLoops)

/-- RETT (R113): a load of the handler that has RETT in its slot is written last (Table 5.8, case 5). -/
def bodyRett (g : Nat) (_w : Word) (s : State) : Eff :=
  let c := s.core g
  if c.handler then
    let (c, loads) := c.returnTrap
    .done (s.setCore g c.ageLoads) .returned loads
  else illegalEff s g

/-- NOP. -/
def bodyNop (_g : Nat) (_w : Word) (s : State) : Eff := .next s

/-- The illegal-instruction step: flow past 0x7FFF, or a word R120 refuses, at engine g's PC. -/
def illegalStep (g : Nat) (s : State) : State :=
  if s.issuing g then
    if (s.core g).past then applyEff s g (.trap 0 0x7FFF 0x8000 s)
    else withFetch g s fun w t => if legal w then s else applyEff t g (illegalEff t g)
  else s

/-- JMP (R131). -/
def execJmp (g : BitVec 9) (s : State) : Host.Outcome State Fault Refusal := .next (issue g.toNat 0x080 (jumpBody (fun _ => true) g.toNat) s)
/-- JZ (R131). -/
def execJz (g : BitVec 9) (s : State) : Host.Outcome State Fault Refusal := .next (issue g.toNat 0x081 (jumpBody fZ g.toNat) s)
/-- JNZ (R131). -/
def execJnz (g : BitVec 9) (s : State) : Host.Outcome State Fault Refusal := .next (issue g.toNat 0x082 (jumpBody (fun f => !fZ f) g.toNat) s)
/-- JC (R131). -/
def execJc (g : BitVec 9) (s : State) : Host.Outcome State Fault Refusal := .next (issue g.toNat 0x083 (jumpBody fC g.toNat) s)
/-- JNC (R131). -/
def execJnc (g : BitVec 9) (s : State) : Host.Outcome State Fault Refusal := .next (issue g.toNat 0x084 (jumpBody (fun f => !fC f) g.toNat) s)
/-- JN (R131). -/
def execJn (g : BitVec 9) (s : State) : Host.Outcome State Fault Refusal := .next (issue g.toNat 0x085 (jumpBody fN g.toNat) s)
/-- JNN (R131). -/
def execJnn (g : BitVec 9) (s : State) : Host.Outcome State Fault Refusal := .next (issue g.toNat 0x086 (jumpBody (fun f => !fN f) g.toNat) s)
/-- JO (R131). -/
def execJo (g : BitVec 9) (s : State) : Host.Outcome State Fault Refusal := .next (issue g.toNat 0x087 (jumpBody fO g.toNat) s)
/-- JNO (R131). -/
def execJno (g : BitVec 9) (s : State) : Host.Outcome State Fault Refusal := .next (issue g.toNat 0x088 (jumpBody (fun f => !fO f) g.toNat) s)
/-- JLT (R131). -/
def execJlt (g : BitVec 9) (s : State) : Host.Outcome State Fault Refusal := .next (issue g.toNat 0x089 (jumpBody (fun f => fN f != fO f) g.toNat) s)
/-- JGE (R131). -/
def execJge (g : BitVec 9) (s : State) : Host.Outcome State Fault Refusal := .next (issue g.toNat 0x08A (jumpBody (fun f => fN f == fO f) g.toNat) s)
/-- JLE (R131). -/
def execJle (g : BitVec 9) (s : State) : Host.Outcome State Fault Refusal :=
  .next (issue g.toNat 0x08B (jumpBody (fun f => fZ f || (fN f != fO f)) g.toNat) s)
/-- JGT (R131). -/
def execJgt (g : BitVec 9) (s : State) : Host.Outcome State Fault Refusal :=
  .next (issue g.toNat 0x08C (jumpBody (fun f => !fZ f && (fN f == fO f)) g.toNat) s)
/-- JULE (R131). -/
def execJule (g : BitVec 9) (s : State) : Host.Outcome State Fault Refusal := .next (issue g.toNat 0x08D (jumpBody (fun f => fC f || fZ f) g.toNat) s)
/-- JUGT (R131). -/
def execJugt (g : BitVec 9) (s : State) : Host.Outcome State Fault Refusal := .next (issue g.toNat 0x08E (jumpBody (fun f => !fC f && !fZ f) g.toNat) s)
/-- JD (R131). -/
def execJd (g : BitVec 9) (s : State) : Host.Outcome State Fault Refusal := .next (issue g.toNat 0x08F (jumpBody fD g.toNat) s)
/-- CALL (R106, R131). -/
def execCall (g : BitVec 9) (s : State) : Host.Outcome State Fault Refusal := .next (issue g.toNat 0x090 (bodyCall g.toNat) s)
/-- RET (R106, R131). -/
def execRet (g : BitVec 9) (s : State) : Host.Outcome State Fault Refusal := .next (issue g.toNat 0x091 (bodyRet g.toNat) s)
/-- LPS (R108, R132). -/
def execLps (g : BitVec 9) (s : State) : Host.Outcome State Fault Refusal := .next (issue g.toNat 0x094 (bodyLps g.toNat) s)
/-- BRKL (R110, R132). -/
def execBrkl (g : BitVec 9) (s : State) : Host.Outcome State Fault Refusal := .next (issue g.toNat 0x095 (bodyBrkl g.toNat) s)
/-- MOVS (R133). -/
def execMovs (g : BitVec 9) (s : State) : Host.Outcome State Fault Refusal := .next (issue g.toNat 0x098 (bodyMovs g.toNat) s)
/-- FILLS (R133). -/
def execFills (g : BitVec 9) (s : State) : Host.Outcome State Fault Refusal := .next (issue g.toNat 0x099 (bodyFills g.toNat) s)
/-- CMPS (R133). -/
def execCmps (g : BitVec 9) (s : State) : Host.Outcome State Fault Refusal := .next (issue g.toNat 0x09A (bodyCmps g.toNat) s)
/-- SCANS (R133). -/
def execScans (g : BitVec 9) (s : State) : Host.Outcome State Fault Refusal := .next (issue g.toNat 0x09B (bodyScans g.toNat) s)
/-- NOP (R140). -/
def execNop (g : BitVec 9) (s : State) : Host.Outcome State Fault Refusal := .next (issue g.toNat 0x1C0 (bodyNop g.toNat) s)
/-- MFS (R99, R140). -/
def execMfs (g : BitVec 9) (s : State) : Host.Outcome State Fault Refusal := .next (issue g.toNat 0x1C1 (bodyMfs g.toNat) s)
/-- MTS (R99, R140). -/
def execMts (g : BitVec 9) (s : State) : Host.Outcome State Fault Refusal := .next (issue g.toNat 0x1C2 (bodyMts g.toNat) s)
/-- TRAP (R140). -/
def execTrap (g : BitVec 9) (s : State) : Host.Outcome State Fault Refusal := .next (issue g.toNat 0x1C3 (bodyTrap g.toNat) s)
/-- RETT (R113, R140). -/
def execRett (g : BitVec 9) (s : State) : Host.Outcome State Fault Refusal := .next (issue g.toNat 0x1C4 (bodyRett g.toNat) s)
/-- The illegal-instruction trap (R101, R120, R144). -/
def execIllegalInstruction (g : BitVec 9) (s : State) : Host.Outcome State Fault Refusal := .next (illegalStep g.toNat s)

end Sys2Proof.Machine
end

