-- ==== Sys2Proof/Machine/Dredge.lean ====
section
/-! DEFINITION. The dredge on chip and in HBM, its laps, and the write-back of corrected words (R196, R203 to R205). -/

namespace Sys2Proof.Machine

/-- The storage of cluster c is dredged: past its self-test, in a domain that is LIVE (R204, R206). -/
def State.storageRuns (s : State) (c : Nat) : Bool :=
  (s.domain c).state == .live && s.dev != .off && s.dev != .reset && s.dev != .selftest

/-- First address of a local bank, and its words (R175). -/
def bankBase (b : Nat) : Nat := if b < 4 then 0x8000 * b else 0x1F800
def bankWords (b : Nat) : Nat := if b < 3 then 0x8000 else if b = 3 then 0x7800 else 0x800

/-- A pointer advanced by one in n places. -/
def nextPointer (n p : Nat) : Nat := if n ≤ p + 1 then 0 else p + 1

/-- An uncorrectable word found by the dredge, logged at level 2 with its location (R203, R204). -/
def State.dredgeFault (s : State) (src adr region : Nat) (injected during : Bool) : State := s.raiseFull src 0x04 2 adr region injected during

/-- The pointer of a bank on chip has gone on to `after`: a lap begins with its entry and ends when it wraps (R203, R205). -/
def State.chipLap (s : State) (bank after : Nat) : State :=
  let (t, n, last) := tget (0, 0, 0) s.chipLaps bank
  let t := if t = 0 then s.now + 1 else t
  { s with chipLaps := tput (0, 0, 0) bank (if after = 0 then (0, n + 1, s.now + 1 - t) else (t, n, last)) s.chipLaps }

/-- One dredge access to a local bank of engine g; a retired page is skipped (R203). -/
def State.dredgeLocal (s : State) (g b : Nat) : State :=
  let p := tget 0 (s.engine g).dredge b
  let adr := bankBase b + p
  let s := (s.setEngine g { s.engine g with dredge := tput 0 b (nextPointer (bankWords b) p) (s.engine g).dredge }).chipLap (6 * g + b)
    (nextPointer (bankWords b) p)
  if s.retiredPage g adr then s else
  match s.readLocal g adr 31 with
  | (.ok _, s) => s
  | (.bad _ i u, s) => s.dredgeFault g adr 64 i u

/-- One dredge access to the matching store of engine g (R203). -/
def State.dredgeMatching (s : State) (g : Nat) : State :=
  let ix := tget 0 (s.engine g).dredge 5
  let s := (s.setEngine g { s.engine g with dredge := tput 0 5 (nextPointer 16384 ix) (s.engine g).dredge }).chipLap (6 * g + 5)
    (nextPointer 16384 ix)
  let (o, s) := s.checkCell g 5 (6 * g + 5) ix 31 ((s.engine g).entry ix) 5
  let e := s.engine g
  let s := if o.fixed ∧ e.matchCorr.isNone then s.setEngine g { e with matchCorr := some (ix, o.cell) } else s
  if o.bad then s.dredgeFault g ix 64 o.injected o.during else s

/-- One dredge access to a bank of the store of cluster c; a retired bank is skipped (R203). -/
def State.dredgeStore (s : State) (c b : Nat) : State :=
  let row := tget 0 (s.cluster c).dredge b
  let adr := 16 * row + b
  let s := (s.setCluster c { s.cluster c with dredge := tput 0 b (nextPointer 0x8000 row) (s.cluster c).dredge }).chipLap (3072 + 16 * c + b)
    (nextPointer 0x8000 row)
  if s.retiredBank c b then s else
  match s.readStore c adr with
  | (.ok _, s) => s
  | (.bad _ i u, s) => s.dredgeFault (srcId 16 c) adr 64 i u

/-- The dredge on chip may read in engine g (R203, R208). -/
def State.dredgeEngine (s : State) (g : Nat) : Bool := s.obj 0x2E00 1 == 1 && s.storageRuns (clusterOf g) && !s.retiredEngine g

/-- DREDGE_READ (R203). -/
def execDredgeRead (m : OnChip) (s : State) : Host.Outcome State Fault Refusal :=
  match m with
  | .localBank g b =>
    .next (if b.toNat < 5 ∧ s.dredgeEngine g.toNat then s.dredgeLocal g.toNat b.toNat else s)
  | .matching g => .next (if s.dredgeEngine g.toNat then s.dredgeMatching g.toNat else s)
  | .storeBank c b => .next (if s.obj 0x2E00 1 = 1 ∧ s.storageRuns c.toNat then s.dredgeStore c.toNat b.toNat else s)

/-! ### HBM -/

/-- Line number of the i-th line of stack n, and the lines of a stack (R184). -/
def stackLine (n i : Nat) : Nat := i / 8 * 32 + n * 8 + i % 8
def stackLines : Nat := 1207959552

/-- Region of line l, 64 where none holds it (R205). -/
def State.lineRegion (s : State) (l : Nat) : Nat := match s.regionAt (6 * l) with | some r => r | none => 64

/-- The pointer of stack n has read a line of region r with some poisoned words, and goes on to another region when `leaves` holds: the
lap ends when every stack has left the region (R205). -/
def State.lapStep (s : State) (n r poisoned : Nat) (leaves : Bool) : State :=
  let none0 : Nat × BitVec 4 × Nat := (0, 0, 0)
  let (t, gone, k) := tget none0 s.hbmLaps r
  let t := if t = 0 then s.now + 1 else t
  let k := if gone.getLsbD n then k else k + poisoned
  let gone := if leaves then gone ||| (1#4 <<< n) else gone
  if gone = 15 then
    let s := { s with hbmLaps := tput none0 r none0 s.hbmLaps }
    let s := s.setObj (0x2E40 + r) 1 ((s.obj (0x2E40 + r) 1 + 1) % 2 ^ 32)
    (s.setObj (0x2E40 + r) 2 (min ((s.now + 1 - t) / 1000) (2 ^ 32 - 1))).setObj (0x2E40 + r) 3 k
  else { s with hbmLaps := tput none0 r (t, gone, k) s.hbmLaps }

/-- One dredge access of stack n (R204, R205): the line checked and, if correctable, written back; a retired row is skipped. -/
def State.dredgeHbm (s : State) (n : Nat) : State :=
  let i := tget 0 s.hbmDredge n
  let j := nextPointer stackLines i
  let l := stackLine n i
  let s := { s with hbmDredge := tput 0 n j s.hbmDredge }
  let r := s.lineRegion l
  let leaves := j == 0 || s.lineRegion (stackLine n j) != r
  if s.retiredRow l then s.lapStep n r 0 leaves else
  let (a, x, s) := s.readLine l (srcId 20 n) true
  let s := if a.worst = .uncorrectable ∨ a.worst = .addressFault then s.dredgeFault (srcId 20 n) l r a.injected a.during else s
  let k := ((List.range 6).filter (fun i => wordPoisoned x i)).length
  s.lapStep n r k leaves

/-- HBM_DREDGE_READ (R204). -/
def execHbmDredgeRead (n : BitVec 2) (s : State) : Host.Outcome State Fault Refusal :=
  let up := s.dev != .off && s.dev != .reset && s.dev != .selftest
  .next (if s.obj 0x2E00 2 = 1 ∧ s.hbmServes n.toNat ∧ up then s.dredgeHbm n.toNat else s)

/-! ### The correction buffers -/

/-- The word in the correction buffer of bank b of engine g written back (R196). -/
def State.writeBackLocal (s : State) (g b : Nat) : State :=
  let e := s.engine g
  match e.corr.find? (fun x => x.1 == b) with
  | none => s
  | some (_, adr, w) => s.setEngine g { e with mem := tput (encodeWord adr 0) adr w e.mem, corr := terase b e.corr }

/-- The entry in the correction buffer of the matching store of engine g written back (R196). -/
def State.writeBackMatching (s : State) (g : Nat) : State :=
  let e := s.engine g
  match e.matchCorr with
  | none => s
  | some (ix, w) => s.setEngine g { e with tu := { e.tu with store := tput (encodeEntry ix 0 false false) ix w e.tu.store }, matchCorr := none }

/-- The word in the correction buffer of bank b of the store of cluster c written back (R196). -/
def State.writeBackStore (s : State) (c b : Nat) : State :=
  let x := s.cluster c
  match x.corr.find? (fun y => y.1 == b) with
  | none => s
  | some (_, adr, w) => s.setCluster c { x with store := tput (encodeWord adr 0) adr w x.store, corr := terase b x.corr }

/-- CORRECTION_WRITE_BACK (R196). -/
def execCorrectionWriteBack (m : OnChip) (s : State) : Host.Outcome State Fault Refusal :=
  match m with
  | .localBank g b => .next (if b.toNat < 5 then s.writeBackLocal g.toNat b.toNat else s)
  | .matching g => .next (s.writeBackMatching g.toNat)
  | .storeBank c b => .next (s.writeBackStore c.toNat b.toNat)

end Sys2Proof.Machine
end

