-- ==== Sys2Proof/Machine/Vector.lean ====
section
/-! DEFINITION. The Boolean vector unit (R141 to R157, Tables 7.1 to 7.7). Four-state planes are kept in place: the value
plane at the even bits, the unknown plane at the odd bits. -/

namespace Sys2Proof.Machine

/-- The even bits of a vector. -/
def evenBits : Vec := BitVec.ofNat 288 ((2 ^ 288 - 1) / 3)

/-- Value plane (R141). -/
def planeV (x : Vec) : Vec := x &&& evenBits
/-- Unknown plane (R141). -/
def planeU (x : Vec) : Vec := (x >>> 1) &&& evenBits
/-- Two planes joined (R141). -/
def joinPlanes (rv ru : Vec) : Vec := rv ||| (ru <<< 1)
/-- Nets that are 0. -/
def isZero (x : Vec) : Vec := ~~~planeU x &&& ~~~planeV x &&& evenBits
/-- Nets that are 1. -/
def isOne (x : Vec) : Vec := ~~~planeU x &&& planeV x
/-- Nets that are Z. -/
def isZ (x : Vec) : Vec := planeU x &&& planeV x

/-- AND (Table 7.2). -/
def vecAnd (a b : Vec) : Vec :=
  let rv := isOne a &&& isOne b
  joinPlanes rv (evenBits &&& ~~~(isZero a ||| isZero b ||| rv))
/-- OR (Table 7.2). -/
def vecOr (a b : Vec) : Vec :=
  let rv := isOne a ||| isOne b
  joinPlanes rv (evenBits &&& ~~~(rv ||| (isZero a &&& isZero b)))
/-- XOR (Table 7.2). -/
def vecXor (a b : Vec) : Vec :=
  let ru := planeU a ||| planeU b
  joinPlanes (evenBits &&& ~~~ru &&& (planeV a ^^^ planeV b)) ru
/-- BUF (Table 7.3). -/
def vecBuf (d : Vec) : Vec := joinPlanes (isOne d) (planeU d)
/-- INV (Table 7.3). -/
def vecInv (d : Vec) : Vec := joinPlanes (isZero d) (planeU d)
/-- RES (Table 7.2). -/
def vecRes (a b : Vec) : Vec :=
  let za := isZ a
  let zb := isZ b
  let onlyB := zb &&& ~~~za
  let both := evenBits &&& ~~~za &&& ~~~zb
  let ones := isOne a &&& isOne b
  joinPlanes ((za &&& planeV b) ||| (onlyB &&& planeV a) ||| ones)
    ((za &&& planeU b) ||| (onlyB &&& planeU a) ||| (both &&& ~~~ones &&& ~~~(isZero a &&& isZero b)))
/-- TBUF: enable e, data d (Table 7.3). -/
def vecTbuf (e d : Vec) : Vec :=
  joinPlanes (isZero e ||| (isOne e &&& isOne d)) (isZero e ||| (isOne e &&& planeU d) ||| planeU e)
/-- MUX: select s, inputs a and b (R147). -/
def vecMux (s a b : Vec) : Vec :=
  let u := planeU s
  let ones := u &&& isOne a &&& isOne b
  let same := ones ||| (u &&& isZero a &&& isZero b)
  joinPlanes ((isZero s &&& planeV a) ||| (isOne s &&& planeV b) ||| ones)
    ((isZero s &&& planeU a) ||| (isOne s &&& planeU b) ||| (u &&& ~~~same))
/-- The Table 7.2 operations with an inverted result. -/
def vecNand (a b : Vec) : Vec := vecInv (vecAnd a b)
/-- NOR. -/
def vecNor (a b : Vec) : Vec := vecInv (vecOr a b)
/-- XNOR. -/
def vecXnor (a b : Vec) : Vec := vecInv (vecXor a b)

/-- The result bits whose inputs are those of row k of a truth table. -/
def lutTerm (v p q : Vec) (k : Nat) : Vec :=
  (if k / 4 % 2 = 1 then v else ~~~v) &&& (if k / 2 % 2 = 1 then p else ~~~p) &&& (if k % 2 = 1 then q else ~~~q)

/-- LUT of a truth table tt (R149). -/
def vecLut (tt : BitVec 8) (v p q : Vec) : Vec :=
  (List.range 8).foldl (fun r k => if tt.getLsbD k then r ||| lutTerm v p q k else r) 0

/-! ### Operand forms -/

/-- Address of the first operand of VD, VT, VG and VP: the mode's index + sext(addr) (Table 7.1). -/
def Core.firstAdr (c : Core) (w : Word) : Nat :=
  ((if modeOf w = 2 then c.x else c.y) + sext12 (addrOf w)).toNat % 0x20000
/-- The other index register + d. -/
def Core.otherAdr (c : Core) (w : Word) (d : Word) : Nat :=
  ((if modeOf w = 2 then c.y else c.x) + d).toNat % 0x20000

/-- P of format VM: the vector at ea, or V in mode 111. -/
def withVm (g : Nat) (w : Word) (implied : Core → Vec) (s : State) (k : Vec → State → Eff) : Eff :=
  let c := s.core g
  if modeOf w = 7 then k (implied c) s else withVector g (c.ea (modeOf w) (addrOf w)) s k

/-- Two vectors, both addresses checked before either is read. -/
def withTwo (g a b : Nat) (s : State) (k : Vec → Vec → State → Eff) : Eff :=
  if a % 8 ≠ 0 then addressEff s g 2 a
  else if b % 8 ≠ 0 then addressEff s g 2 b
  else withBoth g a 8 b 8 s fun p q s => k (vecOfList p) (vecOfList q) s

/-- V := f V P for the VM primitives. -/
def vmBody (f : Vec → Vec → Vec) (g : Nat) (w : Word) (s : State) : Eff :=
  withVm g w Core.v s fun p s => let c := stepped s g w; regEff s g { c with v := f c.v p }

/-- V := f V P Q for the VD primitives. -/
def vdBody (f : Vec → Vec → Vec → Vec) (g : Nat) (w : Word) (s : State) : Eff :=
  let c := s.core g
  withTwo g (c.firstAdr w) (c.otherAdr w (sext12 (highOf w))) s fun p q s =>
    let c := s.core g
    regEff s g { c with v := f c.v p q }

/-- VLUT. -/
def bodyVlut (g : Nat) (w : Word) (s : State) : Eff :=
  let c := s.core g
  withTwo g (c.firstAdr w) (c.otherAdr w ((w.extractLsb' 12 4).signExtend 36 <<< 3)) s fun p q s =>
    let c := s.core g
    regEff s g { c with v := vecLut (w.extractLsb' 16 8) c.v p q }

/-- VLD: a vector load with two delay slots (R157). -/
def bodyVld (g : Nat) (w : Word) (s : State) : Eff :=
  withVector g ((s.core g).ea (modeOf w) (addrOf w)) s fun p s =>
    .done (s.setCore g (stepped s g w)) .seq [{ reg := 8, slots := 2, value := p }]

/-- VST. -/
def bodyVst (g : Nat) (w : Word) (s : State) : Eff :=
  let c := s.core g
  let adr := c.ea (modeOf w) (addrOf w)
  if adr % 8 ≠ 0 then addressEff s g 2 adr else
  storeWords g adr 15 (listOfVec c.v) s fun s => regEff s g (stepped s g w)

/-- VSPL. -/
def bodyVspl (g : Nat) (_w : Word) (s : State) : Eff :=
  let c := s.core g
  regEff s g { c with v := vecOf (fun _ => c.a) }

/-! ### Gather, scatter, permute -/

/-- Words as one number, the first lowest. -/
def wordsToNat : List Word → Nat
  | [] => 0
  | w :: l => w.toNat + 2 ^ 36 * wordsToNat l

/-- The n words of a number. -/
def natToWords : Nat → Nat → List Word
  | 0, _ => []
  | n + 1, v => BitVec.ofNat 36 v :: natToWords n (v / 2 ^ 36)

/-- The n indices of an index table held as a number (Table 7.6). -/
def tableIndices : Nat → Nat → List Nat
  | 0, _ => []
  | n + 1, v => v % 4096 :: tableIndices n (v / 4096)

/-- Element e of e bits width b. -/
def element (b v e : Nat) : Nat := v / 2 ^ (b * e) % 2 ^ b

/-- The gathered vector and whether an index was out of range (R151): `count` elements in the source, width b. -/
def gatherGo (b count src : Nat) : Nat → List Nat → Nat × Bool
  | _, [] => (0, false)
  | k, ix :: l =>
    let (v, o) := gatherGo b count src (k + 1) l
    let e := if ix = 0xFFF then 0 else if ix < count then element b src ix else if b = 2 then 2 else 0
    (e * 2 ^ (b * k) + v, o || (ix != 0xFFF && decide (count ≤ ix)))

/-- Element ix of a number replaced. -/
def putElement (b ix e v : Nat) : Nat := v - element b v ix * 2 ^ (b * ix) + e * 2 ^ (b * ix)

/-- The scattered region and whether an index was out of range (R151). -/
def scatterGo (b count vec : Nat) : Nat → List Nat → Nat → Nat × Bool
  | _, [], r => (r, false)
  | k, ix :: l, r =>
    if ix = 0xFFF then scatterGo b count vec (k + 1) l r
    else if ix < count then scatterGo b count vec (k + 1) l (putElement b ix (element b vec k) r)
    else ((scatterGo b count vec (k + 1) l r).1, true)

/-- Element width of a granularity bit. -/
def granWidth (w : Word) : Nat := if w.getLsbD 20 then 1 else 2
/-- Index-table length in vectors, n of Table 7.4. -/
def tableVecs (w : Word) : Nat := if w.getLsbD 20 then 12 else 6
/-- Elements of V. -/
def vElems (w : Word) : Nat := if w.getLsbD 20 then 288 else 144
/-- Region length in vectors, r of Table 7.4. -/
def regionVecs (w : Word) : Nat := (w.extractLsb' 21 3).toNat + 1

/-- The BVU index counter raised when an index was out of range (R151). -/
def noteRange (s : State) (g : Nat) (o : Bool) : State := if o then s.tick1 g 0x0A else s

/-- VGATH. -/
def bodyVgath (g : Nat) (w : Word) (s : State) : Eff :=
  let c := s.core g
  let ra := c.firstAdr w
  let ta := c.otherAdr w ((w.extractLsb' 12 8).signExtend 36 <<< 3)
  if ra % 8 ≠ 0 then addressEff s g 2 ra else if ta % 8 ≠ 0 then addressEff s g 2 ta else
  withBoth g ta (8 * tableVecs w) ra (8 * regionVecs w) s fun t r s =>
    let b := granWidth w
    let (v, o) := gatherGo b (regionVecs w * vElems w) (wordsToNat r) 0 (tableIndices (vElems w) (wordsToNat t))
    let s := noteRange s g o
    regEff s g { s.core g with v := BitVec.ofNat 288 v }

/-- VPERM. -/
def bodyVperm (g : Nat) (w : Word) (s : State) : Eff :=
  let ta := (s.core g).firstAdr w
  if ta % 8 ≠ 0 then addressEff s g 2 ta else
  withWords g ta (8 * tableVecs w) s fun t s =>
    let (v, o) := gatherGo (granWidth w) (vElems w) (s.core g).v.toNat 0 (tableIndices (vElems w) (wordsToNat t))
    let s := noteRange s g o
    regEff s g { s.core g with v := BitVec.ofNat 288 v }

/-- VSCAT: alignment, then the code-write check on the region, then table and region read, then the region written (R152). -/
def bodyVscat (g : Nat) (w : Word) (s : State) : Eff :=
  let c := s.core g
  let ra := c.firstAdr w
  let ta := c.otherAdr w ((w.extractLsb' 12 8).signExtend 36 <<< 3)
  let n := 8 * regionVecs w
  if ra % 8 ≠ 0 then addressEff s g 2 ra else if ta % 8 ≠ 0 then addressEff s g 2 ta else
  match firstFrom n 0 (fun i => decide ((ra + i) % 0x20000 < 0x8000)) with
  | some i => addressEff s g 1 ((ra + i) % 0x20000)
  | none =>
    withBoth g ta (8 * tableVecs w) ra n s fun t r s =>
      let (v, o) := scatterGo (granWidth w) (regionVecs w * vElems w) (s.core g).v.toNat 0 (tableIndices (vElems w) (wordsToNat t)) (wordsToNat r)
      .next ((noteRange s g o).writeLocals g ra (natToWords n v))

/-! ### Change detection and count -/

/-- VCMP: A[i] := word i differs (R153). -/
def bodyVcmp (g : Nat) (w : Word) (s : State) : Eff :=
  withVector g ((s.core g).ea (modeOf w) (addrOf w)) s fun p s =>
    let c := stepped s g w
    let a : Word := bitsOf 36 (fun i => decide (i < 8) && vecWord c.v i != vecWord p i)
    regEff s g { c with a := a, f := setZN c.f (a == 0) false }

/-- Number of set bits of a vector. -/
def popCount (x : Vec) : Nat := countTo 288 (fun i => x.getLsbD i)

/-- The count of Table 7.7. -/
def vecCount (kind : Nat) (v p : Vec) : Nat :=
  let d := v ^^^ p
  match kind with
  | 0 => popCount d
  | 1 => popCount (planeV d ||| planeU d)
  | 2 => popCount (planeV d &&& ~~~planeU v &&& ~~~planeU p)
  | _ => popCount (planeU v)

/-- VCNT (R154). -/
def bodyVcnt (g : Nat) (w : Word) (s : State) : Eff :=
  withVm g w (fun _ => 0) s fun p s =>
    let c := stepped s g w
    let a := c.a + BitVec.ofNat 36 (vecCount (w.extractLsb' 12 2).toNat c.v p)
    regEff s g { c with a := a, f := setZN c.f (a == 0) a.msb }

/-- VLD (R148). -/
def execVld (g : BitVec 9) (s : State) : Host.Outcome State Fault Refusal := .next (issue g.toNat 0x100 (bodyVld g.toNat) s)
/-- VST (R148). -/
def execVst (g : BitVec 9) (s : State) : Host.Outcome State Fault Refusal := .next (issue g.toNat 0x101 (bodyVst g.toNat) s)
/-- VSPL (R148). -/
def execVspl (g : BitVec 9) (s : State) : Host.Outcome State Fault Refusal := .next (issue g.toNat 0x102 (bodyVspl g.toNat) s)
/-- VBUF (R146). -/
def execVbuf (g : BitVec 9) (s : State) : Host.Outcome State Fault Refusal := .next (issue g.toNat 0x104 (vmBody (fun _ p => vecBuf p) g.toNat) s)
/-- VINV (R146). -/
def execVinv (g : BitVec 9) (s : State) : Host.Outcome State Fault Refusal := .next (issue g.toNat 0x105 (vmBody (fun _ p => vecInv p) g.toNat) s)
/-- VTBUF (R146): enable P, data V. -/
def execVtbuf (g : BitVec 9) (s : State) : Host.Outcome State Fault Refusal := .next (issue g.toNat 0x106 (vmBody (fun v p => vecTbuf p v) g.toNat) s)
/-- VRES (R145). -/
def execVres (g : BitVec 9) (s : State) : Host.Outcome State Fault Refusal := .next (issue g.toNat 0x107 (vmBody vecRes g.toNat) s)
/-- VAND (R145). -/
def execVand (g : BitVec 9) (s : State) : Host.Outcome State Fault Refusal := .next (issue g.toNat 0x108 (vmBody vecAnd g.toNat) s)
/-- VOR (R145). -/
def execVor (g : BitVec 9) (s : State) : Host.Outcome State Fault Refusal := .next (issue g.toNat 0x109 (vmBody vecOr g.toNat) s)
/-- VXOR (R145). -/
def execVxor (g : BitVec 9) (s : State) : Host.Outcome State Fault Refusal := .next (issue g.toNat 0x10A (vmBody vecXor g.toNat) s)
/-- VNAND (R145). -/
def execVnand (g : BitVec 9) (s : State) : Host.Outcome State Fault Refusal := .next (issue g.toNat 0x10B (vmBody vecNand g.toNat) s)
/-- VNOR (R145). -/
def execVnor (g : BitVec 9) (s : State) : Host.Outcome State Fault Refusal := .next (issue g.toNat 0x10C (vmBody vecNor g.toNat) s)
/-- VXNOR (R145). -/
def execVxnor (g : BitVec 9) (s : State) : Host.Outcome State Fault Refusal := .next (issue g.toNat 0x10D (vmBody vecXnor g.toNat) s)
/-- VANDQ (R145). -/
def execVandq (g : BitVec 9) (s : State) : Host.Outcome State Fault Refusal := .next (issue g.toNat 0x110 (vdBody (fun _ p q => vecAnd p q) g.toNat) s)
/-- VORQ (R145). -/
def execVorq (g : BitVec 9) (s : State) : Host.Outcome State Fault Refusal := .next (issue g.toNat 0x111 (vdBody (fun _ p q => vecOr p q) g.toNat) s)
/-- VXORQ (R145). -/
def execVxorq (g : BitVec 9) (s : State) : Host.Outcome State Fault Refusal := .next (issue g.toNat 0x112 (vdBody (fun _ p q => vecXor p q) g.toNat) s)
/-- VNANDQ (R145). -/
def execVnandq (g : BitVec 9) (s : State) : Host.Outcome State Fault Refusal := .next (issue g.toNat 0x113 (vdBody (fun _ p q => vecNand p q) g.toNat) s)
/-- VNORQ (R145). -/
def execVnorq (g : BitVec 9) (s : State) : Host.Outcome State Fault Refusal := .next (issue g.toNat 0x114 (vdBody (fun _ p q => vecNor p q) g.toNat) s)
/-- VXNORQ (R145). -/
def execVxnorq (g : BitVec 9) (s : State) : Host.Outcome State Fault Refusal := .next (issue g.toNat 0x115 (vdBody (fun _ p q => vecXnor p q) g.toNat) s)
/-- VMUX (R147). -/
def execVmux (g : BitVec 9) (s : State) : Host.Outcome State Fault Refusal := .next (issue g.toNat 0x116 (vdBody vecMux g.toNat) s)
/-- VLUT (R149). -/
def execVlut (g : BitVec 9) (s : State) : Host.Outcome State Fault Refusal := .next (issue g.toNat 0x118 (bodyVlut g.toNat) s)
/-- VGATH (R151). -/
def execVgath (g : BitVec 9) (s : State) : Host.Outcome State Fault Refusal := .next (issue g.toNat 0x120 (bodyVgath g.toNat) s)
/-- VSCAT (R151). -/
def execVscat (g : BitVec 9) (s : State) : Host.Outcome State Fault Refusal := .next (issue g.toNat 0x121 (bodyVscat g.toNat) s)
/-- VPERM (R151). -/
def execVperm (g : BitVec 9) (s : State) : Host.Outcome State Fault Refusal := .next (issue g.toNat 0x122 (bodyVperm g.toNat) s)
/-- VCMP (R153). -/
def execVcmp (g : BitVec 9) (s : State) : Host.Outcome State Fault Refusal := .next (issue g.toNat 0x128 (bodyVcmp g.toNat) s)
/-- VCNT (R154). -/
def execVcnt (g : BitVec 9) (s : State) : Host.Outcome State Fault Refusal := .next (issue g.toNat 0x129 (bodyVcnt g.toNat) s)

end Sys2Proof.Machine
end

