-- ==== Sys2Proof/Machine/Float.lean ====
section
/-! DEFINITION. Floating point (R158 to R174): numbers, rounding, the operations, issue, completion and the trap queue. -/

namespace Sys2Proof.Machine

/-- A binary format: precision, exponent bits (bias 2^(e-1) − 1). -/
structure FpFmt where
  prec : Nat
  ebits : Nat
  deriving DecidableEq, Repr

/-- binary32. -/
def fmtS : FpFmt := { prec := 24, ebits := 8 }
/-- binary64. -/
def fmtD : FpFmt := { prec := 53, ebits := 11 }

/-- Bias and largest exponent. -/
def FpFmt.bias (f : FpFmt) : Int := 2 ^ (f.ebits - 1) - 1
/-- Smallest normal exponent. -/
def FpFmt.emin (f : FpFmt) : Int := 1 - f.bias
/-- Fraction bits. -/
def FpFmt.frac (f : FpFmt) : Nat := f.prec - 1
/-- Width of the format. -/
def FpFmt.width (f : FpFmt) : Nat := f.frac + f.ebits + 1
/-- Sign bit's weight. -/
def FpFmt.signBit (f : FpFmt) : Nat := 2 ^ (f.width - 1)
/-- Infinity. -/
def FpFmt.inf (f : FpFmt) (neg : Bool) : Nat := (2 ^ f.ebits - 1) * 2 ^ f.frac + (if neg then f.signBit else 0)
/-- Largest finite number. -/
def FpFmt.max (f : FpFmt) (neg : Bool) : Nat := (2 ^ f.ebits - 1) * 2 ^ f.frac - 1 + (if neg then f.signBit else 0)
/-- Zero. -/
def FpFmt.zero (f : FpFmt) (neg : Bool) : Nat := if neg then f.signBit else 0
/-- The default NaN (R167). -/
def FpFmt.qnan (f : FpFmt) : Nat := (2 ^ f.ebits - 1) * 2 ^ f.frac + 2 ^ (f.frac - 1)

/-- An operand: a NaN (its bits, signalling), an infinity, or sign × m × 2^e (m = 0 a zero). -/
inductive FpVal where
  | nan (bits : Nat) (signalling : Bool)
  | inf (neg : Bool)
  | fin (neg : Bool) (m : Nat) (e : Int)
  deriving DecidableEq, Repr

/-- The sign of a number. -/
def FpVal.neg : FpVal → Bool
  | .nan _ _ => false
  | .inf n => n
  | .fin n _ _ => n

/-- The operand a bit pattern denotes, subnormals read as zero under DAZ (R165). -/
def FpFmt.decode (f : FpFmt) (daz : Bool) (x : Nat) : FpVal :=
  let neg := decide (f.signBit ≤ x % (2 * f.signBit))
  let ex := x / 2 ^ f.frac % 2 ^ f.ebits
  let fr := x % 2 ^ f.frac
  if ex = 2 ^ f.ebits - 1 then
    if fr = 0 then .inf neg else .nan (x % 2 ^ f.width) (decide (fr < 2 ^ (f.frac - 1)))
  else if ex = 0 then
    if daz then .fin neg 0 0 else .fin neg fr (f.emin - f.frac)
  else .fin neg (fr + 2 ^ f.frac) (ex - f.bias - f.frac)

/-- Control fields of FSR: rounding code, FTZ, DAZ (Table 5.3). -/
structure FpCtl where
  rm : Nat
  ftz : Bool
  daz : Bool

/-- Control fields in force. -/
def Core.fpCtl (c : Core) : FpCtl := { rm := (c.fsr.extractLsb' 10 3).toNat, ftz := c.fsr.getLsbD 13, daz := c.fsr.getLsbD 14 }

/-- Flags in the order of FSR[4:0]. -/
def flI : BitVec 5 := 1
/-- Divide-by-zero. -/
def flZ : BitVec 5 := 2
/-- Overflow. -/
def flO : BitVec 5 := 4
/-- Underflow. -/
def flU : BitVec 5 := 8
/-- Inexact. -/
def flX : BitVec 5 := 16

/-- A magnitude k with remainder rem of 2^d rounded up? (R98) -/
def roundUp (rm : Nat) (neg : Bool) (k rem d : Nat) : Bool :=
  if rem = 0 then false else
  match rm with
  | 0 => decide (2 ^ d < 2 * rem) || (2 * rem == 2 ^ d && k % 2 == 1)
  | 1 => false
  | 2 => !neg
  | 3 => neg
  | 4 => decide (2 ^ d ≤ 2 * rem)
  | r => Config.reservedRoundUp r k rem

/-- m × 2^e as an integer multiple of 2^q, rounded; and whether that is exact. -/
def quantize (rm : Nat) (neg : Bool) (m : Nat) (e q : Int) : Nat × Bool :=
  if q ≤ e then (m * 2 ^ (e - q).toNat, true) else
    let d := (q - e).toNat
    let k := m / 2 ^ d
    let rem := m % 2 ^ d
    (if roundUp rm neg k rem d then k + 1 else k, rem == 0)

/-- A finite non-zero exact value rounded once and delivered with its flags (R163, R164). -/
def FpFmt.round (f : FpFmt) (ctl : FpCtl) (neg : Bool) (m : Nat) (e : Int) : Nat × BitVec 5 :=
  let q := e + m.log2 + 1 - f.prec
  let (k, exact) := quantize ctl.rm neg m e q
  let (k, q) := if k = 2 ^ f.prec then (k / 2, q + 1) else (k, q)
  let ex := q + f.prec - 1
  let sg := f.zero neg
  if ex < f.emin then
    if ctl.ftz then (sg, flU ||| flX) else
      let (k, exact) := quantize ctl.rm neg m e (f.emin - f.frac)
      (sg + k, if exact then 0 else flU ||| flX)
  else if f.bias < ex then
    let toInf := match ctl.rm with
      | 0 => true | 4 => true | 1 => false | 2 => !neg | 3 => neg | r => Config.reservedOverflow r neg
    (if toInf then f.inf neg else f.max neg, flO ||| flX)
  else (sg + (ex + f.bias).toNat * 2 ^ f.frac + (k - 2 ^ f.frac), if exact then 0 else flX)

/-- A NaN quieted, sign and payload kept (R167). -/
def FpFmt.quiet (f : FpFmt) (x : Nat) : Nat := x ||| 2 ^ (f.frac - 1)

/-- Invalid, where some operand is a signalling NaN. -/
def sigFlag (l : List FpVal) : BitVec 5 :=
  if l.any (fun v => match v with | .nan _ true => true | _ => false) then flI else 0

/-- The first NaN of the operands, quieted. -/
def FpFmt.firstNan (f : FpFmt) : List FpVal → Option Nat
  | [] => none
  | .nan x _ :: _ => some (f.quiet x)
  | _ :: l => FpFmt.firstNan f l

/-- An exact sum of two finite values: sign, magnitude, exponent; none for zero. -/
def exactSum (n1 : Bool) (m1 : Nat) (e1 : Int) (n2 : Bool) (m2 : Nat) (e2 : Int) : Option (Bool × Nat × Int) :=
  let e := min e1 e2
  let i1 : Int := (m1 * 2 ^ (e1 - e).toNat : Nat)
  let i2 : Int := (m2 * 2 ^ (e2 - e).toNat : Nat)
  let r := (if n1 then -i1 else i1) + (if n2 then -i2 else i2)
  if r = 0 then none else some (decide (r < 0), r.natAbs, e)

/-- The sign of an exact zero sum: that of operands of one sign, except in a fused form; else + and − under rounding toward −∞ (R166). -/
def zeroSign (rm : Nat) (fused n1 n2 : Bool) : Bool := if n1 = n2 ∧ ¬ fused then n1 else rm == 3

/-- The sum of two values that are no NaN, with the invalid case; in a fused form the first is a product. -/
def FpFmt.addVals (f : FpFmt) (ctl : FpCtl) (fused : Bool) (x y : FpVal) : Nat × BitVec 5 :=
  match x, y with
  | .inf a, .inf b => if a = b then (f.inf a, 0) else (f.qnan, flI)
  | .inf a, _ => (f.inf a, 0)
  | _, .inf b => (f.inf b, 0)
  | .fin n1 m1 e1, .fin n2 m2 e2 =>
    match exactSum n1 m1 e1 n2 m2 e2 with
    | none => (f.zero (zeroSign ctl.rm fused n1 n2), 0)
    | some (n, m, e) => f.round ctl n m e
  | _, _ => (f.qnan, 0)

/-- The negation of a value; a NaN keeps its sign. -/
def FpVal.negate : FpVal → FpVal
  | .nan x s => .nan x s
  | .inf n => .inf (!n)
  | .fin n m e => .fin (!n) m e

/-- An operation on operands of which some may be NaNs: the first NaN quieted, else `r`. -/
def FpFmt.withNan (f : FpFmt) (l : List FpVal) (r : Nat × BitVec 5) : Nat × BitVec 5 :=
  match f.firstNan l with
  | some x => (x, sigFlag l)
  | none => r

/-- FADD. -/
def FpFmt.add (f : FpFmt) (ctl : FpCtl) (x y : FpVal) : Nat × BitVec 5 := f.withNan [x, y] (f.addVals ctl false x y)
/-- FSUB. -/
def FpFmt.sub (f : FpFmt) (ctl : FpCtl) (x y : FpVal) : Nat × BitVec 5 := f.withNan [x, y] (f.addVals ctl false x y.negate)
/-- FMUL. -/
def FpFmt.mul (f : FpFmt) (ctl : FpCtl) (x y : FpVal) : Nat × BitVec 5 :=
  f.withNan [x, y] <|
    let n := x.neg != y.neg
    match x, y with
    | .inf _, .fin _ 0 _ => (f.qnan, flI)
    | .fin _ 0 _, .inf _ => (f.qnan, flI)
    | .inf _, _ => (f.inf n, 0)
    | _, .inf _ => (f.inf n, 0)
    | .fin _ m1 e1, .fin _ m2 e2 => if m1 * m2 = 0 then (f.zero n, 0) else f.round ctl n (m1 * m2) (e1 + e2)
    | _, _ => (f.qnan, 0)
/-- FDIV: the quotient to 130 extra bits with a sticky bit, which rounds as the exact one does. -/
def FpFmt.div (f : FpFmt) (ctl : FpCtl) (x y : FpVal) : Nat × BitVec 5 :=
  f.withNan [x, y] <|
    let n := x.neg != y.neg
    match x, y with
    | .inf _, .inf _ => (f.qnan, flI)
    | .inf _, _ => (f.inf n, 0)
    | _, .inf _ => (f.zero n, 0)
    | .fin _ m1 e1, .fin _ m2 e2 =>
      if m2 = 0 then (if m1 = 0 then (f.qnan, flI) else (f.inf n, flZ))
      else if m1 = 0 then (f.zero n, 0)
      else
        let q := m1 * 2 ^ 130 / m2
        let r := m1 * 2 ^ 130 % m2
        f.round ctl n (2 * q + (if r = 0 then 0 else 1)) (e1 - e2 - 131)
    | _, _ => (f.qnan, 0)

/-- Integer square root by bits, i more bits to decide. -/
def isqrt (n : Nat) : Nat → Nat → Nat
  | 0, r => r
  | i + 1, r => let c := r + 2 ^ i; isqrt n i (if c * c ≤ n then c else r)

/-- FSQRT: the root to 64 extra bits with a sticky bit. -/
def FpFmt.sqrt (f : FpFmt) (ctl : FpCtl) (x : FpVal) : Nat × BitVec 5 :=
  f.withNan [x] <|
    match x with
    | .inf false => (f.inf false, 0)
    | .fin n 0 _ => (f.zero n, 0)
    | .fin false m e =>
      let (m, e) := if e % 2 = 0 then (m, e) else (2 * m, e - 1)
      let n := m * 2 ^ 128
      let r := isqrt n 96 0
      f.round ctl false (2 * r + (if r * r = n then 0 else 1)) (e / 2 - 65)
    | _ => (f.qnan, flI)

/-- −1 below, 0 equal, 1 above; none unordered. −0 equals +0. -/
def fpOrder (x y : FpVal) : Option Int :=
  match x, y with
  | .nan _ _, _ => none
  | _, .nan _ _ => none
  | .inf a, .inf b => some (if a = b then 0 else if a then -1 else 1)
  | .inf a, _ => some (if a then -1 else 1)
  | _, .inf b => some (if b then 1 else -1)
  | .fin n1 m1 e1, .fin n2 m2 e2 =>
    match exactSum n1 m1 e1 (!n2) m2 e2 with
    | none => some 0
    | some (n, _, _) => some (if n then -1 else 1)

/-- A number's bits again, after DAZ. -/
def FpFmt.asRead (f : FpFmt) (daz : Bool) (x : Nat) : Nat :=
  match f.decode daz x with
  | .fin n 0 _ => f.zero n
  | _ => x % 2 ^ f.width

/-- minimumNumber (most = false) or maximumNumber (R169). -/
def FpFmt.minMax (f : FpFmt) (ctl : FpCtl) (most : Bool) (a b : Nat) : Nat × BitVec 5 :=
  let x := f.decode ctl.daz a
  let y := f.decode ctl.daz b
  let fl := sigFlag [x, y]
  let ra := f.asRead ctl.daz a
  let rb := f.asRead ctl.daz b
  match x, y with
  | .nan n _, .nan _ _ => (f.quiet n, fl)
  | .nan _ _, _ => (rb, fl)
  | _, .nan _ _ => (ra, fl)
  | _, _ =>
    let below := match fpOrder x y with
      | some 0 => x.neg && !y.neg
      | some o => decide (o < 0)
      | none => false
    (if below != most then ra else rb, fl)

/-- A fused form: negP negates the product, negA the addend, before the single rounding (R160, R166). -/
def FpFmt.fma (f : FpFmt) (ctl : FpCtl) (negP negA : Bool) (p q a : FpVal) : Nat × BitVec 5 :=
  let bad := match p, q with
    | .inf _, .fin _ 0 _ => true
    | .fin _ 0 _, .inf _ => true
    | _, _ => false
  let fl := sigFlag [p, q, a] ||| (if bad then flI else 0)
  match f.firstNan [p, q, a] with
  | some x => (x, fl)
  | none =>
    if bad then (f.qnan, flI) else
    let n := (p.neg != q.neg) != negP
    let prod := match p, q with
      | .fin _ m1 e1, .fin _ m2 e2 => FpVal.fin n (m1 * m2) (e1 + e2)
      | _, _ => .inf n
    f.addVals ctl true prod (if negA then a.negate else a)

/-- Conversion to an integer from lo to hi with the results of Table 8.5 (R170). -/
def toInteger (ctl : FpCtl) (lo hi : Int) (x : FpVal) : Word × BitVec 5 :=
  let top := BitVec.ofInt 36 hi
  let bot := BitVec.ofInt 36 lo
  match x with
  | .nan _ _ => (top, flI)
  | .inf n => (if n then bot else top, flI)
  | .fin n m e =>
    let (k, exact) := quantize ctl.rm n m e 0
    let v : Int := if n then -(k : Int) else k
    if hi < v then (top, flI) else if v < lo then (bot, flI) else (BitVec.ofInt 36 v, if exact then 0 else flX)

/-- An integer as a number (R170). -/
def FpFmt.ofInteger (f : FpFmt) (ctl : FpCtl) (v : Int) : Nat × BitVec 5 :=
  if v = 0 then (0, 0) else f.round { ctl with ftz := false } (decide (v < 0)) v.natAbs 0

/-- FCVT.S.D (R163, R167). -/
def cvtSD (ctl : FpCtl) (x : Nat) : Nat × BitVec 5 :=
  match fmtD.decode ctl.daz x with
  | .nan b s => ((b / 2 ^ 63 % 2) * 2 ^ 31 + 0xFF * 2 ^ 23 + (b / 2 ^ 29 % 2 ^ 22 ||| 2 ^ 22), if s then flI else 0)
  | .inf n => (fmtS.inf n, 0)
  | .fin n 0 _ => (fmtS.zero n, 0)
  | .fin n m e => fmtS.round ctl n m e

/-- FCVT.D.S (R163, R167): always exact. -/
def cvtDS (ctl : FpCtl) (x : Nat) : Nat × BitVec 5 :=
  match fmtS.decode ctl.daz x with
  | .nan b s => ((b / 2 ^ 31 % 2) * 2 ^ 63 + 0x7FF * 2 ^ 52 + (b % 2 ^ 22 * 2 ^ 29 ||| 2 ^ 51), if s then flI else 0)
  | .inf n => (fmtD.inf n, 0)
  | .fin n 0 _ => (fmtD.zero n, 0)
  | .fin n m e => fmtD.round { rm := 0, ftz := false, daz := false } n m e

/-! ### Words and pairs (R158) -/

/-- The binary32 number of a word: bits [31:0]. -/
def single (x : BitVec 72) : Nat := (x.extractLsb' 0 32).toNat
/-- The binary64 number of a pair. -/
def double (x : BitVec 72) : Nat := (x.extractLsb' 36 32 ++ x.extractLsb' 0 32).toNat
/-- A binary32 result word, [35:32] zero. -/
def singleWord (v : Nat) : Word := (BitVec.ofNat 32 v).zeroExtend 36
/-- A binary64 result pair. -/
def doublePair (v : Nat) : Word × Word := ((BitVec.ofNat 32 v).zeroExtend 36, (BitVec.ofNat 32 (v / 2 ^ 32)).zeroExtend 36)

/-- What an FP instruction delivers: A, H, F and flags. -/
structure FpResult where
  a : Option Word
  h : Option Word
  f : Option (BitVec 5 → BitVec 5)
  flags : BitVec 5

/-- A binary32 result. -/
def outS (r : Nat × BitVec 5) : FpResult := { a := some (singleWord r.1), h := none, f := none, flags := r.2 }
/-- A binary64 result. -/
def outD (r : Nat × BitVec 5) : FpResult := let p := doublePair r.1; { a := some p.1, h := some p.2, f := none, flags := r.2 }
/-- An integer result. -/
def outI (r : Word × BitVec 5) : FpResult := { a := some r.1, h := none, f := none, flags := r.2 }
/-- A comparison (R168). -/
def outF (signalling : Bool) (x y : FpVal) : FpResult :=
  let o := fpOrder x y
  { a := none, h := none, f := some (fun f => flagsCompare f (o == some (-1)) (o == some 0) o.isNone),
    flags := if signalling && o.isNone then flI else sigFlag [x, y] }

/-- The result of an outstanding instruction by the control fields in force (Table 8.2). -/
def FpOp.result (o : FpOp) (ctl : FpCtl) : FpResult :=
  let op := o.opcode.toNat
  let fm := if op % 2 = 0 then fmtS else fmtD
  let num := fun x => if op % 2 = 0 then single x else double x
  let v := fun x => fm.decode ctl.daz (num x)
  let out := fun r => if op % 2 = 0 then outS r else outD r
  let a := v o.a
  let p := v o.p
  let q := v o.q
  match op / 2 with
  | 0xC0 => out (fm.add ctl a p)
  | 0xC1 => out (fm.sub ctl a p)
  | 0xC2 => out (fm.mul ctl a p)
  | 0xC3 => out (fm.div ctl a p)
  | 0xC4 => out (fm.sqrt ctl a)
  | 0xC5 => out (fm.minMax ctl false (num o.a) (num o.p))
  | 0xC6 => out (fm.minMax ctl true (num o.a) (num o.p))
  | 0xC7 => outF false a p
  | 0xC8 => outF true a p
  | 0xCA => out (fm.fma ctl false false p q a)
  | 0xCB => out (fm.fma ctl false true p q a)
  | 0xCC => out (fm.fma ctl true false p q a)
  | 0xCD => out (fm.fma ctl true true p q a)
  | 0xD0 => if op = 0x1A0 then outS (cvtSD ctl (double o.a)) else outD (cvtDS ctl (single o.a))
  | 0xD1 => outI (toInteger ctl (-(2 ^ 35)) (2 ^ 35 - 1) a)
  | 0xD2 => outI (toInteger ctl 0 (2 ^ 36 - 1) a)
  | 0xD3 => out (fm.ofInteger ctl (o.a.extractLsb' 0 36).toInt)
  | 0xD4 => out (fm.ofInteger ctl ((o.a.extractLsb' 0 36).toNat : Int))
  | _ => { a := none, h := none, f := none, flags := 0 }

/-! ### Issue -/

/-- An FP instruction issued with its operands (R161); in the slot of a load of a register that it writes its result, the whole of A:H in a
.D form, is discarded (R162). -/
def fpIssue (g op : Nat) (w : Word) (p q : BitVec 72) (s : State) : Eff :=
  let c := stepped s g w
  regEff s g { c with fpu := some { opcode := BitVec.ofNat 9 op, pc := c.pc, a := c.pair, p := p, q := q, drop := (s.core g).delay.any (fun x => fpWrites op x.reg) } }

/-- Format FM: a word for .S, a pair for .D. -/
def fmBody (op g : Nat) (w : Word) (s : State) : Eff :=
  if op % 2 = 0 then withOperand g w s fun m s => fpIssue g op w (m.zeroExtend 72) 0 s
  else withPair g w s fun lo hi s => fpIssue g op w (hi ++ lo) 0 s

/-- Format FI: operands implied. -/
def fiBody (op g : Nat) (w : Word) (s : State) : Eff := fpIssue g op w 0 0 s

/-- Format FD: p and q, alignment of both checked before either is read. -/
def fdBody (op g : Nat) (w : Word) (s : State) : Eff :=
  let c := s.core g
  let pa := c.firstAdr w
  let qa := c.otherAdr w (sext12 (highOf w))
  let n := if op % 2 = 0 then 1 else 2
  if pa % n ≠ 0 then addressEff s g 2 pa else if qa % n ≠ 0 then addressEff s g 2 qa else
  withBoth g pa n qa n s fun p q s => fpIssue g op w (BitVec.ofNat 72 (wordsToNat p)) (BitVec.ofNat 72 (wordsToNat q)) s

/-- FSYNC: after its wait, a trap while records are queued (R173). Loads whose last slot it fills are written first, and while a load
still has a slot to come no trap is taken (R105, assumption 19). -/
def bodyFsync (g : Nat) (_w : Word) (s : State) : Eff :=
  let c := s.core g
  let d := c.ageLoads
  if c.handler ∨ c.fpq = [] ∨ d.delay ≠ [] then .next s else .halt (s.setCore g (d.takeFpTrap c.pc))

/-! ### Completion -/

/-- An outstanding instruction completes: result, flags, record (R161, R162, R172, R174). -/
def Core.fpComplete (c : Core) (o : FpOp) : Core :=
  let r := o.result c.fpCtl
  let c := if o.drop then c else
    { c with a := r.a.getD c.a, h := r.h.getD c.h, f := match r.f with | some f => f c.f | none => c.f }
  let on := r.flags &&& c.fsr.extractLsb' 5 5
  let c := { c with fpu := none, fsr := c.fsr ||| r.flags.zeroExtend 19 }
  if on = 0 then c
  else if c.fpq.length < 4 then { c with fpq := c.fpq ++ [{ pc := o.pc, set := on }] }
  else { c with fsr := c.fsr ||| (1#19 <<< 18) }

/-- FP_COMPLETION at engine g; a trap that four records make due is taken before a fifth can arrive (R173). -/
def fpCompletionStep (g : Nat) (s : State) : State :=
  match (s.core g).fpu with
  | none => s
  | some o => s.setCore g ((s.core g).boundary.fpComplete o)

/-- FADD_S (Table 8.2). -/
def execFaddS (g : BitVec 9) (s : State) : Host.Outcome State Fault Refusal := .next (issue g.toNat 0x180 (fmBody 0x180 g.toNat) s)
/-- FADD_D (Table 8.2). -/
def execFaddD (g : BitVec 9) (s : State) : Host.Outcome State Fault Refusal := .next (issue g.toNat 0x181 (fmBody 0x181 g.toNat) s)
/-- FSUB_S (Table 8.2). -/
def execFsubS (g : BitVec 9) (s : State) : Host.Outcome State Fault Refusal := .next (issue g.toNat 0x182 (fmBody 0x182 g.toNat) s)
/-- FSUB_D (Table 8.2). -/
def execFsubD (g : BitVec 9) (s : State) : Host.Outcome State Fault Refusal := .next (issue g.toNat 0x183 (fmBody 0x183 g.toNat) s)
/-- FMUL_S (Table 8.2). -/
def execFmulS (g : BitVec 9) (s : State) : Host.Outcome State Fault Refusal := .next (issue g.toNat 0x184 (fmBody 0x184 g.toNat) s)
/-- FMUL_D (Table 8.2). -/
def execFmulD (g : BitVec 9) (s : State) : Host.Outcome State Fault Refusal := .next (issue g.toNat 0x185 (fmBody 0x185 g.toNat) s)
/-- FDIV_S (Table 8.2). -/
def execFdivS (g : BitVec 9) (s : State) : Host.Outcome State Fault Refusal := .next (issue g.toNat 0x186 (fmBody 0x186 g.toNat) s)
/-- FDIV_D (Table 8.2). -/
def execFdivD (g : BitVec 9) (s : State) : Host.Outcome State Fault Refusal := .next (issue g.toNat 0x187 (fmBody 0x187 g.toNat) s)
/-- FSQRT_S (Table 8.2). -/
def execFsqrtS (g : BitVec 9) (s : State) : Host.Outcome State Fault Refusal := .next (issue g.toNat 0x188 (fiBody 0x188 g.toNat) s)
/-- FSQRT_D (Table 8.2). -/
def execFsqrtD (g : BitVec 9) (s : State) : Host.Outcome State Fault Refusal := .next (issue g.toNat 0x189 (fiBody 0x189 g.toNat) s)
/-- FCVT_S_D (Table 8.2). -/
def execFcvtSD (g : BitVec 9) (s : State) : Host.Outcome State Fault Refusal := .next (issue g.toNat 0x1A0 (fiBody 0x1A0 g.toNat) s)
/-- FCVT_D_S (Table 8.2). -/
def execFcvtDS (g : BitVec 9) (s : State) : Host.Outcome State Fault Refusal := .next (issue g.toNat 0x1A1 (fiBody 0x1A1 g.toNat) s)
/-- FCVTI_S (Table 8.2). -/
def execFcvtiS (g : BitVec 9) (s : State) : Host.Outcome State Fault Refusal := .next (issue g.toNat 0x1A2 (fiBody 0x1A2 g.toNat) s)
/-- FCVTI_D (Table 8.2). -/
def execFcvtiD (g : BitVec 9) (s : State) : Host.Outcome State Fault Refusal := .next (issue g.toNat 0x1A3 (fiBody 0x1A3 g.toNat) s)
/-- FCVTU_S (Table 8.2). -/
def execFcvtuS (g : BitVec 9) (s : State) : Host.Outcome State Fault Refusal := .next (issue g.toNat 0x1A4 (fiBody 0x1A4 g.toNat) s)
/-- FCVTU_D (Table 8.2). -/
def execFcvtuD (g : BitVec 9) (s : State) : Host.Outcome State Fault Refusal := .next (issue g.toNat 0x1A5 (fiBody 0x1A5 g.toNat) s)
/-- FITOF_S (Table 8.2). -/
def execFitofS (g : BitVec 9) (s : State) : Host.Outcome State Fault Refusal := .next (issue g.toNat 0x1A6 (fiBody 0x1A6 g.toNat) s)
/-- FITOF_D (Table 8.2). -/
def execFitofD (g : BitVec 9) (s : State) : Host.Outcome State Fault Refusal := .next (issue g.toNat 0x1A7 (fiBody 0x1A7 g.toNat) s)
/-- FUTOF_S (Table 8.2). -/
def execFutofS (g : BitVec 9) (s : State) : Host.Outcome State Fault Refusal := .next (issue g.toNat 0x1A8 (fiBody 0x1A8 g.toNat) s)
/-- FUTOF_D (Table 8.2). -/
def execFutofD (g : BitVec 9) (s : State) : Host.Outcome State Fault Refusal := .next (issue g.toNat 0x1A9 (fiBody 0x1A9 g.toNat) s)
/-- FMIN_S (Table 8.2). -/
def execFminS (g : BitVec 9) (s : State) : Host.Outcome State Fault Refusal := .next (issue g.toNat 0x18A (fmBody 0x18A g.toNat) s)
/-- FMIN_D (Table 8.2). -/
def execFminD (g : BitVec 9) (s : State) : Host.Outcome State Fault Refusal := .next (issue g.toNat 0x18B (fmBody 0x18B g.toNat) s)
/-- FMAX_S (Table 8.2). -/
def execFmaxS (g : BitVec 9) (s : State) : Host.Outcome State Fault Refusal := .next (issue g.toNat 0x18C (fmBody 0x18C g.toNat) s)
/-- FMAX_D (Table 8.2). -/
def execFmaxD (g : BitVec 9) (s : State) : Host.Outcome State Fault Refusal := .next (issue g.toNat 0x18D (fmBody 0x18D g.toNat) s)
/-- FCMP_S (Table 8.2). -/
def execFcmpS (g : BitVec 9) (s : State) : Host.Outcome State Fault Refusal := .next (issue g.toNat 0x18E (fmBody 0x18E g.toNat) s)
/-- FCMP_D (Table 8.2). -/
def execFcmpD (g : BitVec 9) (s : State) : Host.Outcome State Fault Refusal := .next (issue g.toNat 0x18F (fmBody 0x18F g.toNat) s)
/-- FCMPE_S (Table 8.2). -/
def execFcmpeS (g : BitVec 9) (s : State) : Host.Outcome State Fault Refusal := .next (issue g.toNat 0x190 (fmBody 0x190 g.toNat) s)
/-- FCMPE_D (Table 8.2). -/
def execFcmpeD (g : BitVec 9) (s : State) : Host.Outcome State Fault Refusal := .next (issue g.toNat 0x191 (fmBody 0x191 g.toNat) s)
/-- FMA_S (Table 8.2). -/
def execFmaS (g : BitVec 9) (s : State) : Host.Outcome State Fault Refusal := .next (issue g.toNat 0x194 (fdBody 0x194 g.toNat) s)
/-- FMA_D (Table 8.2). -/
def execFmaD (g : BitVec 9) (s : State) : Host.Outcome State Fault Refusal := .next (issue g.toNat 0x195 (fdBody 0x195 g.toNat) s)
/-- FMS_S (Table 8.2). -/
def execFmsS (g : BitVec 9) (s : State) : Host.Outcome State Fault Refusal := .next (issue g.toNat 0x196 (fdBody 0x196 g.toNat) s)
/-- FMS_D (Table 8.2). -/
def execFmsD (g : BitVec 9) (s : State) : Host.Outcome State Fault Refusal := .next (issue g.toNat 0x197 (fdBody 0x197 g.toNat) s)
/-- FNMA_S (Table 8.2). -/
def execFnmaS (g : BitVec 9) (s : State) : Host.Outcome State Fault Refusal := .next (issue g.toNat 0x198 (fdBody 0x198 g.toNat) s)
/-- FNMA_D (Table 8.2). -/
def execFnmaD (g : BitVec 9) (s : State) : Host.Outcome State Fault Refusal := .next (issue g.toNat 0x199 (fdBody 0x199 g.toNat) s)
/-- FNMS_S (Table 8.2). -/
def execFnmsS (g : BitVec 9) (s : State) : Host.Outcome State Fault Refusal := .next (issue g.toNat 0x19A (fdBody 0x19A g.toNat) s)
/-- FNMS_D (Table 8.2). -/
def execFnmsD (g : BitVec 9) (s : State) : Host.Outcome State Fault Refusal := .next (issue g.toNat 0x19B (fdBody 0x19B g.toNat) s)
/-- FSYNC (R160, R173). -/
def execFsync (g : BitVec 9) (s : State) : Host.Outcome State Fault Refusal := .next (issue g.toNat 0x1B0 (bodyFsync g.toNat) s)
/-- FP_COMPLETION (R161). -/
def execFpCompletion (g : BitVec 9) (s : State) : Host.Outcome State Fault Refusal := .next (fpCompletionStep g.toNat s)

end Sys2Proof.Machine
end

