-- ==== Sys2Proof/Machine/Jtag.lean ====
section
/-! DEFINITION. The TAP and boundary scan (R346, R369 to R371, Table 18.9). -/

namespace Sys2Proof.Machine

/-- The TAP replaced. -/
def State.setTap (s : State) (t : Tap) : State := { s with tap := t }

/-- An instruction that takes control of the pins: only while PORST_N is low, BYPASS otherwise (R371). -/
def State.loadControl (s : State) (i : TapInstr) (cells : List Bool) : State :=
  if s.porst then s.setTap { s.tap with instr := i, cells := cells } else s.setTap { s.tap with instr := .bypass }

/-- TAP_RESET: the TAP controller and its boundary-scan registers (R346, R369). -/
def execTapReset (s : State) : Host.Outcome State Fault Refusal := .next (s.setTap Tap.reset)

/-- EXTEST (R371). -/
def execExtest (cells : List Bool) (s : State) : Host.Outcome State Fault Refusal := .next (s.loadControl .extest cells)

/-- SAMPLE/PRELOAD: pins captured, the boundary register loaded, no pin driven (R369, R370). -/
def execSamplePreload (pins : List Bool) (cells : List Bool) (s : State) : Host.Outcome State Fault Refusal :=
  .next (s.setTap { instr := .sample, captured := pins, cells := cells })

/-- IDCODE: the register reads 0x2512_0A7B (Table 18.9). -/
def execIdcode (s : State) : Host.Outcome State Fault Refusal := .next ((s.setTap { s.tap with instr := .idcode }).put (.tdo 0x25120A7B))

/-- CLAMP: pins held from the boundary register, bypass selected (R371). -/
def execClamp (s : State) : Host.Outcome State Fault Refusal := .next (s.loadControl .clamp s.tap.cells)

/-- HIGHZ: outputs floated (R371). -/
def execHighz (s : State) : Host.Outcome State Fault Refusal := .next (s.loadControl .highz s.tap.cells)

/-- EXTEST_PULSE (R371). -/
def execExtestPulse (cells : List Bool) (s : State) : Host.Outcome State Fault Refusal := .next (s.loadControl .pulse cells)

/-- EXTEST_TRAIN (R371). -/
def execExtestTrain (cells : List Bool) (s : State) : Host.Outcome State Fault Refusal := .next (s.loadControl .train cells)

/-- BYPASS (R369). -/
def execBypass (s : State) : Host.Outcome State Fault Refusal := .next (s.setTap { s.tap with instr := .bypass })

end Sys2Proof.Machine
end

