-- ==== Sys2Proof/Machine/Dispatch.lean ====
section
/-! DEFINITION. What each command does: one arm per row of spec/opcode_table.json. -/

namespace Sys2Proof.Machine

/-- The effect of a command on the state. -/
def exec (i : Instr) (s : State) : Host.Outcome State Fault Refusal :=
  match i with
  | .tokenArrival g src => Sys2Proof.Machine.execTokenArrival g src s
  | .dispatch g => Sys2Proof.Machine.execDispatch g s
  | .engineRetire g => Sys2Proof.Machine.execEngineRetire g s
  | .retireReportRepeat f r => Sys2Proof.Machine.execRetireReportRepeat f r s
  | .retireReport n => Sys2Proof.Machine.execRetireReport n s
  | .waterlineDistribution n => Sys2Proof.Machine.execWaterlineDistribution n s
  | .acceptanceTimeout g node epoch => Sys2Proof.Machine.execAcceptanceTimeout g node epoch s
  | .recomputeRequest g => Sys2Proof.Machine.execRecomputeRequest g s
  | .accept g => Sys2Proof.Machine.execAccept g s
  | .debugProbe g src => Sys2Proof.Machine.execDebugProbe g src s
  | .probeRpt => Sys2Proof.Machine.execProbeRpt s
  | .probeTimeout tag => Sys2Proof.Machine.execProbeTimeout tag s
  | .tokenCreditReturn g k => Sys2Proof.Machine.execTokenCreditReturn g k s
  | .ld g => Sys2Proof.Machine.execLd g s
  | .ldr g => Sys2Proof.Machine.execLdr g s
  | .ldn g => Sys2Proof.Machine.execLdn g s
  | .ldhf g => Sys2Proof.Machine.execLdhf g s
  | .ldp g => Sys2Proof.Machine.execLdp g s
  | .st g => Sys2Proof.Machine.execSt g s
  | .str g => Sys2Proof.Machine.execStr g s
  | .stn g => Sys2Proof.Machine.execStn g s
  | .sthf g => Sys2Proof.Machine.execSthf g s
  | .stp g => Sys2Proof.Machine.execStp g s
  | .xadd g => Sys2Proof.Machine.execXadd g s
  | .swap g => Sys2Proof.Machine.execSwap g s
  | .add g => Sys2Proof.Machine.execAdd g s
  | .adc g => Sys2Proof.Machine.execAdc g s
  | .sub g => Sys2Proof.Machine.execSub g s
  | .sbb g => Sys2Proof.Machine.execSbb g s
  | .cmp g => Sys2Proof.Machine.execCmp g s
  | .neg g => Sys2Proof.Machine.execNeg g s
  | .adx g => Sys2Proof.Machine.execAdx g s
  | .ady g => Sys2Proof.Machine.execAdy g s
  | .andI g => Sys2Proof.Machine.execAnd g s
  | .orI g => Sys2Proof.Machine.execOr g s
  | .xorI g => Sys2Proof.Machine.execXor g s
  | .andn g => Sys2Proof.Machine.execAndn g s
  | .tst g => Sys2Proof.Machine.execTst g s
  | .notI g => Sys2Proof.Machine.execNot g s
  | .shl g => Sys2Proof.Machine.execShl g s
  | .shr g => Sys2Proof.Machine.execShr g s
  | .sar g => Sys2Proof.Machine.execSar g s
  | .rol g => Sys2Proof.Machine.execRol g s
  | .shlp g => Sys2Proof.Machine.execShlp g s
  | .shrp g => Sys2Proof.Machine.execShrp g s
  | .mul g => Sys2Proof.Machine.execMul g s
  | .mulu g => Sys2Proof.Machine.execMulu g s
  | .div g => Sys2Proof.Machine.execDiv g s
  | .divu g => Sys2Proof.Machine.execDivu g s
  | .divl g => Sys2Proof.Machine.execDivl g s
  | .divlu g => Sys2Proof.Machine.execDivlu g s
  | .jmp g => Sys2Proof.Machine.execJmp g s
  | .jz g => Sys2Proof.Machine.execJz g s
  | .jnz g => Sys2Proof.Machine.execJnz g s
  | .jc g => Sys2Proof.Machine.execJc g s
  | .jnc g => Sys2Proof.Machine.execJnc g s
  | .jn g => Sys2Proof.Machine.execJn g s
  | .jnn g => Sys2Proof.Machine.execJnn g s
  | .jo g => Sys2Proof.Machine.execJo g s
  | .jno g => Sys2Proof.Machine.execJno g s
  | .jlt g => Sys2Proof.Machine.execJlt g s
  | .jge g => Sys2Proof.Machine.execJge g s
  | .jle g => Sys2Proof.Machine.execJle g s
  | .jgt g => Sys2Proof.Machine.execJgt g s
  | .jule g => Sys2Proof.Machine.execJule g s
  | .jugt g => Sys2Proof.Machine.execJugt g s
  | .jd g => Sys2Proof.Machine.execJd g s
  | .call g => Sys2Proof.Machine.execCall g s
  | .ret g => Sys2Proof.Machine.execRet g s
  | .lps g => Sys2Proof.Machine.execLps g s
  | .brkl g => Sys2Proof.Machine.execBrkl g s
  | .movs g => Sys2Proof.Machine.execMovs g s
  | .fills g => Sys2Proof.Machine.execFills g s
  | .cmps g => Sys2Proof.Machine.execCmps g s
  | .scans g => Sys2Proof.Machine.execScans g s
  | .emit g => Sys2Proof.Machine.execEmit g s
  | .emitl g => Sys2Proof.Machine.execEmitl g s
  | .emitm g => Sys2Proof.Machine.execEmitm g s
  | .enda g => Sys2Proof.Machine.execEnda g s
  | .fld g => Sys2Proof.Machine.execFld g s
  | .fst g => Sys2Proof.Machine.execFst g s
  | .fxadd g => Sys2Proof.Machine.execFxadd g s
  | .fswap g => Sys2Proof.Machine.execFswap g s
  | .waitf g => Sys2Proof.Machine.execWaitf g s
  | .fence g => Sys2Proof.Machine.execFence g s
  | .nop g => Sys2Proof.Machine.execNop g s
  | .mfs g => Sys2Proof.Machine.execMfs g s
  | .mts g => Sys2Proof.Machine.execMts g s
  | .trap g => Sys2Proof.Machine.execTrap g s
  | .rett g => Sys2Proof.Machine.execRett g s
  | .vld g => Sys2Proof.Machine.execVld g s
  | .vst g => Sys2Proof.Machine.execVst g s
  | .vspl g => Sys2Proof.Machine.execVspl g s
  | .vbuf g => Sys2Proof.Machine.execVbuf g s
  | .vinv g => Sys2Proof.Machine.execVinv g s
  | .vtbuf g => Sys2Proof.Machine.execVtbuf g s
  | .vres g => Sys2Proof.Machine.execVres g s
  | .vand g => Sys2Proof.Machine.execVand g s
  | .vor g => Sys2Proof.Machine.execVor g s
  | .vxor g => Sys2Proof.Machine.execVxor g s
  | .vnand g => Sys2Proof.Machine.execVnand g s
  | .vnor g => Sys2Proof.Machine.execVnor g s
  | .vxnor g => Sys2Proof.Machine.execVxnor g s
  | .vandq g => Sys2Proof.Machine.execVandq g s
  | .vorq g => Sys2Proof.Machine.execVorq g s
  | .vxorq g => Sys2Proof.Machine.execVxorq g s
  | .vnandq g => Sys2Proof.Machine.execVnandq g s
  | .vnorq g => Sys2Proof.Machine.execVnorq g s
  | .vxnorq g => Sys2Proof.Machine.execVxnorq g s
  | .vmux g => Sys2Proof.Machine.execVmux g s
  | .vlut g => Sys2Proof.Machine.execVlut g s
  | .vgath g => Sys2Proof.Machine.execVgath g s
  | .vscat g => Sys2Proof.Machine.execVscat g s
  | .vperm g => Sys2Proof.Machine.execVperm g s
  | .vcmp g => Sys2Proof.Machine.execVcmp g s
  | .vcnt g => Sys2Proof.Machine.execVcnt g s
  | .faddS g => Sys2Proof.Machine.execFaddS g s
  | .faddD g => Sys2Proof.Machine.execFaddD g s
  | .fsubS g => Sys2Proof.Machine.execFsubS g s
  | .fsubD g => Sys2Proof.Machine.execFsubD g s
  | .fmulS g => Sys2Proof.Machine.execFmulS g s
  | .fmulD g => Sys2Proof.Machine.execFmulD g s
  | .fdivS g => Sys2Proof.Machine.execFdivS g s
  | .fdivD g => Sys2Proof.Machine.execFdivD g s
  | .fsqrtS g => Sys2Proof.Machine.execFsqrtS g s
  | .fsqrtD g => Sys2Proof.Machine.execFsqrtD g s
  | .fminS g => Sys2Proof.Machine.execFminS g s
  | .fminD g => Sys2Proof.Machine.execFminD g s
  | .fmaxS g => Sys2Proof.Machine.execFmaxS g s
  | .fmaxD g => Sys2Proof.Machine.execFmaxD g s
  | .fcmpS g => Sys2Proof.Machine.execFcmpS g s
  | .fcmpD g => Sys2Proof.Machine.execFcmpD g s
  | .fcmpeS g => Sys2Proof.Machine.execFcmpeS g s
  | .fcmpeD g => Sys2Proof.Machine.execFcmpeD g s
  | .fmaS g => Sys2Proof.Machine.execFmaS g s
  | .fmaD g => Sys2Proof.Machine.execFmaD g s
  | .fmsS g => Sys2Proof.Machine.execFmsS g s
  | .fmsD g => Sys2Proof.Machine.execFmsD g s
  | .fnmaS g => Sys2Proof.Machine.execFnmaS g s
  | .fnmaD g => Sys2Proof.Machine.execFnmaD g s
  | .fnmsS g => Sys2Proof.Machine.execFnmsS g s
  | .fnmsD g => Sys2Proof.Machine.execFnmsD g s
  | .fcvtSD g => Sys2Proof.Machine.execFcvtSD g s
  | .fcvtDS g => Sys2Proof.Machine.execFcvtDS g s
  | .fcvtiS g => Sys2Proof.Machine.execFcvtiS g s
  | .fcvtiD g => Sys2Proof.Machine.execFcvtiD g s
  | .fcvtuS g => Sys2Proof.Machine.execFcvtuS g s
  | .fcvtuD g => Sys2Proof.Machine.execFcvtuD g s
  | .fitofS g => Sys2Proof.Machine.execFitofS g s
  | .fitofD g => Sys2Proof.Machine.execFitofD g s
  | .futofS g => Sys2Proof.Machine.execFutofS g s
  | .futofD g => Sys2Proof.Machine.execFutofD g s
  | .fsync g => Sys2Proof.Machine.execFsync g s
  | .fpCompletion g => Sys2Proof.Machine.execFpCompletion g s
  | .routerHop k port vc upper => Sys2Proof.Machine.execRouterHop k port vc upper s
  | .urgencyIncrement k port vc upper => Sys2Proof.Machine.execUrgencyIncrement k port vc upper s
  | .linkCreditReturn k => Sys2Proof.Machine.execLinkCreditReturn k s
  | .niArrival c => Sys2Proof.Machine.execNiArrival c s
  | .readReq t => Sys2Proof.Machine.execReadReq t s
  | .writeReq t => Sys2Proof.Machine.execWriteReq t s
  | .xaddRequest t => Sys2Proof.Machine.execXaddRequest t s
  | .swapRequest t => Sys2Proof.Machine.execSwapRequest t s
  | .sync t => Sys2Proof.Machine.execSync t s
  | .readRsp d => Sys2Proof.Machine.execReadRsp d s
  | .writeRsp d => Sys2Proof.Machine.execWriteRsp d s
  | .xaddRsp d => Sys2Proof.Machine.execXaddRsp d s
  | .swapRsp d => Sys2Proof.Machine.execSwapRsp d s
  | .syncRsp d => Sys2Proof.Machine.execSyncRsp d s
  | .initiatorTimeout d tag => Sys2Proof.Machine.execInitiatorTimeout d tag s
  | .flipDrainComplete => Sys2Proof.Machine.execFlipDrainComplete s
  | .flipDrainTimeout => Sys2Proof.Machine.execFlipDrainTimeout s
  | .bogWrite => Sys2Proof.Machine.execBogWrite s
  | .bogDrawUp => Sys2Proof.Machine.execBogDrawUp s
  | .drawAccept => Sys2Proof.Machine.execDrawAccept s
  | .bogRecomputeRequest => Sys2Proof.Machine.execBogRecomputeRequest s
  | .drawTimeout tag n => Sys2Proof.Machine.execDrawTimeout tag n s
  | .bogRedrawTimer slot => Sys2Proof.Machine.execBogRedrawTimer slot s
  | .descriptorScan g => Sys2Proof.Machine.execDescriptorScan g s
  | .flightCommand p f root cmd arg => Sys2Proof.Machine.execFlightCommand p f root cmd arg s
  | .flightCompletion p f refused => Sys2Proof.Machine.execFlightCompletion p f refused s
  | .flightCommandTimeout f => Sys2Proof.Machine.execFlightCommandTimeout f s
  | .haltReply p f highest => Sys2Proof.Machine.execHaltReply p f highest s
  | .haltEpoch p f h => Sys2Proof.Machine.execHaltEpoch p f h s
  | .restartHoldoffEnd f => Sys2Proof.Machine.execRestartHoldoffEnd f s
  | .tetherSample f => Sys2Proof.Machine.execTetherSample f s
  | .becalmed f => Sys2Proof.Machine.execBecalmed f s
  | .mired f => Sys2Proof.Machine.execMired f s
  | .miredReport p f reason => Sys2Proof.Machine.execMiredReport p f reason s
  | .absenceReport p f => Sys2Proof.Machine.execAbsenceReport p f s
  | .epsPulse k => Sys2Proof.Machine.execEpsPulse k s
  | .beginTxn path => Sys2Proof.Machine.execBeginTxn path s
  | .commit path seq => Sys2Proof.Machine.execCommit path seq s
  | .rollback path seq => Sys2Proof.Machine.execRollback path seq s
  | .txWrite path index sub data => Sys2Proof.Machine.execTxWrite path index sub data s
  | .preparationDone => Sys2Proof.Machine.execPreparationDone s
  | .commitApplication => Sys2Proof.Machine.execCommitApplication s
  | .idleTimeout => Sys2Proof.Machine.execIdleTimeout s
  | .objectWrite path index sub data => Sys2Proof.Machine.execObjectWrite path index sub data s
  | .registerWrite offset size value => Sys2Proof.Machine.execRegisterWrite offset size value s
  | .save path => Sys2Proof.Machine.execSave path s
  | .factory path => Sys2Proof.Machine.execFactory path s
  | .deviceReset path value => Sys2Proof.Machine.execDeviceReset path value s
  | .deflate path d => Sys2Proof.Machine.execDeflate path d s
  | .inflate path d => Sys2Proof.Machine.execInflate path d s
  | .domainReset path d => Sys2Proof.Machine.execDomainReset path d s
  | .drainEnd d => Sys2Proof.Machine.execDrainEnd d s
  | .drainTimeout d => Sys2Proof.Machine.execDrainTimeout d s
  | .clockRequest c mhz => Sys2Proof.Machine.execClockRequest c mhz s
  | .standbyPllLock c => Sys2Proof.Machine.execStandbyPllLock c s
  | .clockSwitch c => Sys2Proof.Machine.execClockSwitch c s
  | .clockChangeAbandon c => Sys2Proof.Machine.execClockChangeAbandon c s
  | .thermalSample temps power clusterPower => Sys2Proof.Machine.execThermalSample temps power clusterPower s
  | .thermalTrip sensor temp => Sys2Proof.Machine.execThermalTrip sensor temp s
  | .railFailure rail => Sys2Proof.Machine.execRailFailure rail s
  | .faultEvent cls => Sys2Proof.Machine.execFaultEvent cls s
  | .stampClose stamp => Sys2Proof.Machine.execStampClose stamp s
  | .logbookEntryWrite ok => Sys2Proof.Machine.execLogbookEntryWrite ok s
  | .recordEmpty path value => Sys2Proof.Machine.execRecordEmpty path value s
  | .clearPinned path value => Sys2Proof.Machine.execClearPinned path value s
  | .sourceStatusClear path cls inst mask => Sys2Proof.Machine.execSourceStatusClear path cls inst mask s
  | .errorFieldClear path value => Sys2Proof.Machine.execErrorFieldClear path value s
  | .injectionArm path => Sys2Proof.Machine.execInjectionArm path s
  | .injectionDisarm path => Sys2Proof.Machine.execInjectionDisarm path s
  | .dredgeRead m => Sys2Proof.Machine.execDredgeRead m s
  | .hbmDredgeRead n => Sys2Proof.Machine.execHbmDredgeRead n s
  | .correctionWriteBack m => Sys2Proof.Machine.execCorrectionWriteBack m s
  | .linkBlock p block => Sys2Proof.Machine.execLinkBlock p block s
  | .statusFlit p => Sys2Proof.Machine.execStatusFlit p s
  | .statusFlitTimer p => Sys2Proof.Machine.execStatusFlitTimer p s
  | .replayTimeout p => Sys2Proof.Machine.execReplayTimeout p s
  | .fecCodeword p blocks count symbolErrors => Sys2Proof.Machine.execFecCodeword p blocks count symbolErrors s
  | .signalDetect p => Sys2Proof.Machine.execSignalDetect p s
  | .train p => Sys2Proof.Machine.execTrain p s
  | .align p => Sys2Proof.Machine.execAlign p s
  | .fecLock p => Sys2Proof.Machine.execFecLock p s
  | .identityOrderedSet p set => Sys2Proof.Machine.execIdentityOrderedSet p set s
  | .trainingTimeout p => Sys2Proof.Machine.execTrainingTimeout p s
  | .retrainTimeout p => Sys2Proof.Machine.execRetrainTimeout p s
  | .retrainLimit p => Sys2Proof.Machine.execRetrainLimit p s
  | .shutdownOrderedSet p => Sys2Proof.Machine.execShutdownOrderedSet p s
  | .lossOfSignal p => Sys2Proof.Machine.execLossOfSignal p s
  | .keepaliveWindow p => Sys2Proof.Machine.execKeepaliveWindow p s
  | .portEnable path p => Sys2Proof.Machine.execPortEnable path p s
  | .portDisable path p => Sys2Proof.Machine.execPortDisable path p s
  | .timeSyncRequest p => Sys2Proof.Machine.execTimeSyncRequest p s
  | .timeSyncResponse p => Sys2Proof.Machine.execTimeSyncResponse p s
  | .announce p => Sys2Proof.Machine.execAnnounce p s
  | .syncRequestTimer => Sys2Proof.Machine.execSyncRequestTimer s
  | .announceTimer => Sys2Proof.Machine.execAnnounceTimer s
  | .syncResponseTimeout => Sys2Proof.Machine.execSyncResponseTimeout s
  | .announceTimeout p => Sys2Proof.Machine.execAnnounceTimeout p s
  | .backupTakeover => Sys2Proof.Machine.execBackupTakeover s
  | .tb10mInEdge inTolerance => Sys2Proof.Machine.execTb10mInEdge inTolerance s
  | .tbPpsInEdge => Sys2Proof.Machine.execTbPpsInEdge s
  | .tb10mInLoss => Sys2Proof.Machine.execTb10mInLoss s
  | .tbPpsInLoss => Sys2Proof.Machine.execTbPpsInLoss s
  | .externalWaitTimeout => Sys2Proof.Machine.execExternalWaitTimeout s
  | .noSourceTimeout => Sys2Proof.Machine.execNoSourceTimeout s
  | .usdoDownload index sub data => Sys2Proof.Machine.execUsdoDownload index sub data s
  | .usdoUpload index sub => Sys2Proof.Machine.execUsdoUpload index sub s
  | .usdoTimeout => Sys2Proof.Machine.execUsdoTimeout s
  | .nmtStart => Sys2Proof.Machine.execNmtStart s
  | .nmtEnterPreOperational => Sys2Proof.Machine.execNmtEnterPreOperational s
  | .nmtStop => Sys2Proof.Machine.execNmtStop s
  | .nmtResetCommunication => Sys2Proof.Machine.execNmtResetCommunication s
  | .nmtResetNode => Sys2Proof.Machine.execNmtResetNode s
  | .heartbeat => Sys2Proof.Machine.execHeartbeat s
  | .mailboxRead cmd => Sys2Proof.Machine.execMailboxRead cmd s
  | .mailboxWrite cmd => Sys2Proof.Machine.execMailboxWrite cmd s
  | .bar2Read offset bytes => Sys2Proof.Machine.execBar2Read offset bytes s
  | .bar2Write offset data poisoned => Sys2Proof.Machine.execBar2Write offset data poisoned s
  | .dmaDoorbell c head => Sys2Proof.Machine.execDmaDoorbell c head s
  | .dmaEnable c on => Sys2Proof.Machine.execDmaEnable c on s
  | .dmaPause c on => Sys2Proof.Machine.execDmaPause c on s
  | .dmaErrorClear c => Sys2Proof.Machine.execDmaErrorClear c s
  | .dmaDescriptorComplete c desc data => Sys2Proof.Machine.execDmaDescriptorComplete c desc data s
  | .bootGo length => Sys2Proof.Machine.execBootGo length s
  | .imageWrite path image => Sys2Proof.Machine.execImageWrite path image s
  | .activate path value => Sys2Proof.Machine.execActivate path value s
  | .quietPoint => Sys2Proof.Machine.execQuietPoint s
  | .quietPointTimeout => Sys2Proof.Machine.execQuietPointTimeout s
  | .firmwareReady => Sys2Proof.Machine.execFirmwareReady s
  | .readyTimeout => Sys2Proof.Machine.execReadyTimeout s
  | .watchdogExpiry => Sys2Proof.Machine.execWatchdogExpiry s
  | .porstNFall => Sys2Proof.Machine.execPorstNFall s
  | .porstNRise straps tests => Sys2Proof.Machine.execPorstNRise straps tests s
  | .perstN low => Sys2Proof.Machine.execPerstN low s
  | .hotReset => Sys2Proof.Machine.execHotReset s
  | .linkDown => Sys2Proof.Machine.execLinkDown s
  | .flr => Sys2Proof.Machine.execFlr s
  | .captureEnable path => Sys2Proof.Machine.execCaptureEnable path s
  | .captureDisable path => Sys2Proof.Machine.execCaptureDisable path s
  | .postTriggerStop b => Sys2Proof.Machine.execPostTriggerStop b s
  | .tapReset => Sys2Proof.Machine.execTapReset s
  | .extest cells => Sys2Proof.Machine.execExtest cells s
  | .samplePreload pins cells => Sys2Proof.Machine.execSamplePreload pins cells s
  | .idcode => Sys2Proof.Machine.execIdcode s
  | .clamp => Sys2Proof.Machine.execClamp s
  | .highz => Sys2Proof.Machine.execHighz s
  | .extestPulse cells => Sys2Proof.Machine.execExtestPulse cells s
  | .extestTrain cells => Sys2Proof.Machine.execExtestTrain cells s
  | .bypass => Sys2Proof.Machine.execBypass s
  | .illegalInstruction g => Sys2Proof.Machine.execIllegalInstruction g s
  | .linkBlockTransmit p => Sys2Proof.Machine.execLinkBlockTransmit p s
  | .alignmentLoss p => Sys2Proof.Machine.execAlignmentLoss p s
  | .sequencerFlip => Sys2Proof.Machine.execSequencerFlip s
  | .powerUp d => Sys2Proof.Machine.execPowerUp d s
  | .restoreComplete d ok => Sys2Proof.Machine.execRestoreComplete d ok s
  | .haltRequest p f => Sys2Proof.Machine.execHaltRequest p f s
  | .portTrainingWaitTimeout => Sys2Proof.Machine.execPortTrainingWaitTimeout s
  | .peerBootTimeout => Sys2Proof.Machine.execPeerBootTimeout s
  | .refclkFailure => Sys2Proof.Machine.execRefclkFailure s
  | .pcieLinkUp generation lanes => Sys2Proof.Machine.execPcieLinkUp generation lanes s
  | .pciePowerStateChange d3hot => Sys2Proof.Machine.execPciePowerStateChange d3hot s

end Sys2Proof.Machine
end

