-- ==== Sys2Proof/Safety.lean ====
section
/-! DEFINITION. What counts as a safe run, and the words the statements about the pipeline use. -/

namespace Sys2Proof.Safety

open Sys2Proof.Machine

/-- The machine goes on: neither a fault nor a refusal. -/
def Completes (r : Host.Outcome State Fault Refusal) : Prop := ∃ t, r = .next t

/-- A run of `k` commands that meets no stop and ends in `t`. -/
def Reaches : Nat → State → State → Prop
  | 0, s, t => s = t
  | k + 1, s, t => ∃ u, step s = .next u ∧ Reaches k u t

/-! ### Instructions of the engine pipeline -/

/-- The instruction word w, of opcode op and a form R120 allows, stands at the PC of engine g and issues: an activation runs, the
engine has not stopped, the flow has not passed 0x7FFF, the fetch reads w and leaves t, no outstanding FP instruction holds it, and
no FP trap is due. -/
structure Stands (s : State) (g op : Nat) (w : Word) (t : State) : Prop where
  issuing : s.issuing g = true
  inFlow : (s.core g).past = false
  fetched : s.readLocal g (s.core g).pc.toNat 31 = (.ok w, t)
  opcode : opOf w = op
  form : legal w = true
  free : (t.core g).fpStall w = false
  noFpTrap : (t.core g).fpDue = false

/-- The operand m that Table 5.6 selects for a word of format M, and the state u its read leaves. -/
def Operand (t : State) (g : Nat) (w m : Word) (u : State) : Prop :=
  if modeOf w = 0 then m = (w.extractLsb' 0 24).signExtend 36 ∧ u = t
  else if modeOf w = 7 then m = (t.core g).reg (codeOf w) ∧ u = t
  else t.engineRead g ((t.core g).ea (modeOf w) (addrOf w)) 31 = (some m, u)

/-- v is u with the pipeline of engine g replaced by c: every other engine, the token unit and the local store of engine g, and
everything outside the engines are as in u. -/
def CoreBecomes (u : State) (g : Nat) (c : Core) (v : State) : Prop :=
  (∀ k, v.engine k = if k = g then { u.engine g with core := c } else u.engine k) ∧ { v with engines := u.engines } = u

/-- Command i completes at engine g: from u, its own effect on the pipeline is c, control goes on by `flow` and `loads` enter their
delay (R104, R109); straight after RETT an FP trap that is due is taken (R174). -/
def Done (i : Instr) (s : State) (g : Nat) (u : State) (c : Core) (flow : Flow) (loads : List PendLoad) : Prop :=
  ∃ v, exec i s = .next v ∧
    CoreBecomes u g
      (if flow = .returned then (c.complete (s.core g).pc flow loads).boundary else c.complete (s.core g).pc flow loads) v

/-- Command i takes a synchronous trap at engine g, outside handler mode: from u, TPC, TCAUSE [5:0] and TINFO are as given, TF
holds F, handler mode is entered and the PC is the cause (R113); loads in their delay reach their registers (R105). -/
def Traps (i : Instr) (s : State) (g : Nat) (u : State) (cause : BitVec 6) (tpc : BitVec 15) (info : Word) : Prop :=
  ∃ v c, exec i s = .next v ∧ CoreBecomes u g c v ∧ c.tpc = tpc ∧ c.tcause.extractLsb' 0 6 = cause ∧ c.tcause.getLsbD 7 = false ∧
    (c.tcause.getLsbD 6 = true ↔ (u.core g).delay ≠ []) ∧ c.tinfo = info ∧ c.tf = c.f ∧ c.handler = true ∧
    c.pc = cause.zeroExtend 15 ∧ c.past = false ∧
    ((u.core g).delay = [] → c.f = (u.core g).f ∧ c.a = (u.core g).a ∧ c.h = (u.core g).h ∧ c.x = (u.core g).x ∧ c.y = (u.core g).y ∧
      c.v = (u.core g).v ∧ c.loops = (u.core g).loops ∧ c.act = (u.core g).act)

/-- The five flags as F holds them: C [0], Z [1], N [2], O [3], D [4] (R97). -/
def flagWord (c z n o d : Bool) : BitVec 5 :=
  BitVec.ofNat 5 (c.toNat + 2 * z.toNat + 4 * n.toNat + 8 * o.toNat + 16 * d.toNat)

end Sys2Proof.Safety
end

