-- ==== Sys2Proof/Certificates/Slice0/Obligations.lean ====
section
/-! DEFINITION. The statements for the provers. -/

open Sys2Proof Sys2Proof.Machine Sys2Proof.Safety

namespace Sys2Proof.Claims

/-! ### Rows of format M -/

/-- A row whose operand is m: its command, its opcode, and what it makes of the pipeline. -/
structure Row where
  instr : BitVec 9 → Instr
  op : Nat
  out : Word → Core → Word → Core

/-- A row whose index step of modes 100 and 101 is made (R102). -/
def plain (f : Core → Word → Core) : Word → Core → Word → Core := fun w c m => f (c.step (modeOf w) (addrOf w)) m

/-- F after the addition x + y + k (R127). -/
def sumFlags (f : BitVec 5) (x y : Word) (k : Nat) : BitVec 5 :=
  let r : Word := BitVec.ofNat 36 (x.toNat + y.toNat + k)
  flagWord (decide (2 ^ 36 ≤ x.toNat + y.toNat + k)) (decide (r = 0)) (r.getLsbD 35)
    (decide (x.getLsbD 35 = y.getLsbD 35 ∧ r.getLsbD 35 ≠ x.getLsbD 35)) (f.getLsbD 4)

/-- F after the subtraction x − y − k (R127). -/
def differenceFlags (f : BitVec 5) (x y : Word) (k : Nat) : BitVec 5 :=
  let r : Word := x - y - BitVec.ofNat 36 k
  flagWord (decide (x.toNat < y.toNat + k)) (decide (r = 0)) (r.getLsbD 35)
    (decide (x.getLsbD 35 ≠ y.getLsbD 35 ∧ r.getLsbD 35 ≠ x.getLsbD 35)) (f.getLsbD 4)

/-- F with Z and N of a result, C, O and D kept (R127). -/
def resultFlags {n : Nat} (f : BitVec 5) (r : BitVec n) : BitVec 5 :=
  flagWord (f.getLsbD 0) (decide (r = 0)) (r.getLsbD (n - 1)) (f.getLsbD 3) (f.getLsbD 4)

/-- C as a number. -/
def carryIn (c : Core) : Nat := (c.f.getLsbD 0).toNat

/-- The rows of Table 6.4 down to opcode 0x01D. -/
def arithmeticRows : List Row := [
  ⟨.add, 0x010, plain fun c m => { c with a := c.a + m, f := sumFlags c.f c.a m 0 }⟩,
  ⟨.adc, 0x011, plain fun c m => { c with a := c.a + m + BitVec.ofNat 36 (carryIn c), f := sumFlags c.f c.a m (carryIn c) }⟩,
  ⟨.sub, 0x012, plain fun c m => { c with a := c.a - m, f := differenceFlags c.f c.a m 0 }⟩,
  ⟨.sbb, 0x013, plain fun c m => { c with a := c.a - m - BitVec.ofNat 36 (carryIn c), f := differenceFlags c.f c.a m (carryIn c) }⟩,
  ⟨.cmp, 0x014, plain fun c m => { c with f := differenceFlags c.f c.a m 0 }⟩,
  ⟨.neg, 0x015, plain fun c _ => { c with a := 0 - c.a, f := differenceFlags c.f 0 c.a 0 }⟩,
  ⟨.adx, 0x016, fun w c m =>
    if modeOf w = 4 then { c with x := c.x + m } else plain (fun c m => { c with x := c.x + m }) w c m⟩,
  ⟨.ady, 0x017, fun w c m =>
    if modeOf w = 5 then { c with y := c.y + m } else plain (fun c m => { c with y := c.y + m }) w c m⟩,
  ⟨.andI, 0x018, plain fun c m => { c with a := c.a &&& m, f := resultFlags c.f (c.a &&& m) }⟩,
  ⟨.orI, 0x019, plain fun c m => { c with a := c.a ||| m, f := resultFlags c.f (c.a ||| m) }⟩,
  ⟨.xorI, 0x01A, plain fun c m => { c with a := c.a ^^^ m, f := resultFlags c.f (c.a ^^^ m) }⟩,
  ⟨.andn, 0x01B, plain fun c m => { c with a := c.a &&& ~~~m, f := resultFlags c.f (c.a &&& ~~~m) }⟩,
  ⟨.tst, 0x01C, plain fun c m => { c with f := resultFlags c.f (c.a &&& m) }⟩,
  ⟨.notI, 0x01D, plain fun c _ => { c with a := ~~~c.a, f := resultFlags c.f (~~~c.a) }⟩]

/-- The carry of a shift by k of a value of n bits: bit i of the value, or 0 beyond its width; C as before when k is 0 (R127). -/
def shiftCarry {n : Nat} (f : BitVec 5) (v : BitVec n) (k i : Nat) : Bool :=
  if k = 0 then f.getLsbD 0 else if k ≤ n then v.getLsbD i else false

/-- F after a shift: C, Z and N of the result, O and D kept (R127). -/
def shiftFlags {n : Nat} (f : BitVec 5) (cy : Bool) (r : BitVec n) : BitVec 5 :=
  flagWord cy (decide (r = 0)) (r.getLsbD (n - 1)) (f.getLsbD 3) (f.getLsbD 4)

/-- The pair A:H as a number, A the low word (R3). -/
def pairNat (c : Core) : Nat := c.a.toNat + 2 ^ 36 * c.h.toNat

/-- A:H and F after a pair operation. -/
def pairOut (c : Core) (r : BitVec 72) (f : BitVec 5) : Core :=
  { c with a := BitVec.ofNat 36 r.toNat, h := BitVec.ofNat 36 (r.toNat / 2 ^ 36), f := f }

/-- The shifts of Table 6.4, with k the low bits of m. -/
def shiftRows : List Row := [
  ⟨.shl, 0x020, plain fun c m =>
    let k := m.toNat % 64
    let r : Word := BitVec.ofNat 36 (c.a.toNat * 2 ^ k)
    { c with a := r, f := shiftFlags c.f (shiftCarry c.f c.a k (36 - k)) r }⟩,
  ⟨.shr, 0x021, plain fun c m =>
    let k := m.toNat % 64
    let r : Word := BitVec.ofNat 36 (c.a.toNat / 2 ^ k)
    { c with a := r, f := shiftFlags c.f (shiftCarry c.f c.a k (k - 1)) r }⟩,
  ⟨.sar, 0x022, plain fun c m =>
    let k := m.toNat % 64
    let j := min k 36
    let r : Word := BitVec.ofInt 36 (c.a.toInt / 2 ^ j)
    { c with a := r, f := shiftFlags c.f (if k = 0 then c.f.getLsbD 0 else c.a.getLsbD (j - 1)) r }⟩,
  ⟨.rol, 0x023, plain fun c m =>
    let k := m.toNat % 64
    let j := k % 36
    let r : Word := BitVec.ofNat 36 (c.a.toNat * 2 ^ j) ||| BitVec.ofNat 36 (c.a.toNat / 2 ^ (36 - j))
    { c with a := r, f := shiftFlags c.f (if k = 0 then c.f.getLsbD 0 else r.getLsbD 0) r }⟩,
  ⟨.shlp, 0x024, plain fun c m =>
    let k := m.toNat % 128
    let v : BitVec 72 := BitVec.ofNat 72 (pairNat c)
    let r : BitVec 72 := BitVec.ofNat 72 (pairNat c * 2 ^ k)
    pairOut c r (shiftFlags c.f (shiftCarry c.f v k (72 - k)) r)⟩,
  ⟨.shrp, 0x025, plain fun c m =>
    let k := m.toNat % 128
    let v : BitVec 72 := BitVec.ofNat 72 (pairNat c)
    let r : BitVec 72 := BitVec.ofNat 72 (pairNat c / 2 ^ k)
    pairOut c r (shiftFlags c.f (shiftCarry c.f v k (k - 1)) r)⟩]

/-- The product p in A:H, C and O set when it does not fit one word (R128). -/
def productOut (c : Core) (p : BitVec 72) (big : Bool) : Core :=
  pairOut c p (flagWord big (decide (p = 0)) (p.getLsbD 71) big (c.f.getLsbD 4))

/-- A divide of dvd by dvs with quotients from lo to hi (R129). -/
def quotientOut (c : Core) (dvd dvs lo hi : Int) : Core :=
  let q := dvd.tdiv dvs
  let r := dvd - q * dvs
  let beyond := ¬ (lo ≤ q ∧ q ≤ hi)
  let a : Word := if dvs = 0 ∨ beyond then BitVec.ofNat 36 0xFFFFFFFFF else BitVec.ofInt 36 q
  { c with a := a,
           h := if dvs = 0 ∨ beyond then c.a else BitVec.ofInt 36 r,
           f := flagWord false (decide (a = 0)) (a.getLsbD 35) (decide (dvs ≠ 0 ∧ beyond)) (decide (dvs = 0)) }

/-- The rows of Table 6.5. -/
def multiplyDivideRows : List Row := [
  ⟨.mul, 0x028, plain fun c m =>
    let p := c.a.toInt * m.toInt
    productOut c (BitVec.ofInt 72 p) (decide ¬ (-(2 ^ 35) ≤ p ∧ p < 2 ^ 35))⟩,
  ⟨.mulu, 0x029, plain fun c m =>
    let p := c.a.toNat * m.toNat
    productOut c (BitVec.ofNat 72 p) (decide (2 ^ 36 ≤ p))⟩,
  ⟨.div, 0x02C, plain fun c m => quotientOut c c.a.toInt m.toInt (-(2 ^ 35)) (2 ^ 35 - 1)⟩,
  ⟨.divu, 0x02D, plain fun c m => quotientOut c c.a.toNat m.toNat 0 (2 ^ 36 - 1)⟩,
  ⟨.divl, 0x02E, plain fun c m =>
    quotientOut c (if pairNat c < 2 ^ 71 then (pairNat c : Int) else pairNat c - 2 ^ 72) m.toInt (-(2 ^ 35)) (2 ^ 35 - 1)⟩,
  ⟨.divlu, 0x02F, plain fun c m => quotientOut c (pairNat c) m.toNat 0 (2 ^ 36 - 1)⟩]

/-- Each row, when its instruction stands and its operand reads as m, completes in sequence with its result. -/
def RowsComplete (rows : List Row) : Prop :=
  ∀ r ∈ rows, ∀ (g : BitVec 9) (s t u : State) (w m : Word),
    Stands s g.toNat r.op w t → Operand t g.toNat w m u →
    Done (r.instr g) s g.toNat u (r.out w (u.core g.toNat) m) .seq []

/-! ### Loads, stores and atomics -/

/-- A load of value v into the register of a code, due after one delay slot (R104). -/
def delayed (code : Nat) (v : Word) : PendLoad := { reg := BitVec.ofNat 4 code, slots := 1, value := v.zeroExtend 288 }

/-- The pipeline of engine g after the index step of the word's mode (R102). -/
def indexed (u : State) (g : Nat) (w : Word) : Core := (u.core g).step (modeOf w) (addrOf w)

/-- The effective address of the word's mode (Table 5.6). -/
def effective (t : State) (g : Nat) (w : Word) : Nat := (t.core g).ea (modeOf w) (addrOf w)

/-- The pipeline of engine g may store at an address: outside bank 0 and on no retired page (Table 5.5, R208). -/
def MayStore (t : State) (g adr : Nat) : Prop := 0x8000 ≤ adr ∧ t.retiredPage g adr = false

/-- A store of one word: its command, its opcode, the nonets it covers and the value they take. -/
structure StoreRow where
  instr : BitVec 9 → Instr
  op : Nat
  cover : Word → BitVec 4
  value : Word → Core → Word

/-- ST in modes 001 to 110, STR, STN and STHF (Table 6.3). -/
def storeRows : List StoreRow := [
  ⟨.st, 0x008, fun _ => 15, fun _ c => c.a⟩,
  ⟨.str, 0x009, fun _ => 15, fun w c => c.reg (w.extractLsb' 12 3).toNat⟩,
  ⟨.stn, 0x00A, fun w => 1#4 <<< (w.extractLsb' 12 2).toNat,
    fun w c => (c.a.extractLsb' 0 9).zeroExtend 36 <<< (9 * (w.extractLsb' 12 2).toNat)⟩,
  ⟨.sthf, 0x00B, fun w => 3#4 <<< (2 * (w.extractLsb' 12 1).toNat),
    fun w c => (c.a.extractLsb' 0 18).zeroExtend 36 <<< (18 * (w.extractLsb' 12 1).toNat)⟩]

/-! ### Control transfer -/

/-- A jump: its command, its opcode, and the flags C, Z, N, O, D on which it transfers (Table 6.7). -/
structure JumpRow where
  instr : BitVec 9 → Instr
  op : Nat
  taken : Bool → Bool → Bool → Bool → Bool → Bool

/-- JMP to JD. -/
def jumpRows : List JumpRow := [
  ⟨.jmp, 0x080, fun _ _ _ _ _ => true⟩, ⟨.jz, 0x081, fun _ z _ _ _ => z⟩, ⟨.jnz, 0x082, fun _ z _ _ _ => !z⟩,
  ⟨.jc, 0x083, fun c _ _ _ _ => c⟩, ⟨.jnc, 0x084, fun c _ _ _ _ => !c⟩, ⟨.jn, 0x085, fun _ _ n _ _ => n⟩,
  ⟨.jnn, 0x086, fun _ _ n _ _ => !n⟩, ⟨.jo, 0x087, fun _ _ _ o _ => o⟩, ⟨.jno, 0x088, fun _ _ _ o _ => !o⟩,
  ⟨.jlt, 0x089, fun _ _ n o _ => n != o⟩, ⟨.jge, 0x08A, fun _ _ n o _ => n == o⟩, ⟨.jle, 0x08B, fun _ z n o _ => z || n != o⟩,
  ⟨.jgt, 0x08C, fun _ z n o _ => !z && n == o⟩, ⟨.jule, 0x08D, fun c z _ _ _ => c || z⟩, ⟨.jugt, 0x08E, fun c z _ _ _ => !c && !z⟩,
  ⟨.jd, 0x08F, fun _ _ _ _ d => d⟩]

/-- The target of format J (R131). -/
def target (c : Core) (w : Word) : BitVec 15 :=
  if modeOf w = 7 then (c.reg (codeOf w)).extractLsb' 0 15 else w.extractLsb' 0 15

/-! ### String instructions -/

/-- n elements of MOVS from x and y in state s leave t. -/
inductive Moves (g : Nat) (st : Word) : Nat → Word → Word → State → State → Prop
  | none (x y : Word) (s : State) : Moves g st 0 x y s s
  | one {n : Nat} {x y v : Word} {s u t : State} : MayStore s g (y.toNat % 0x20000) →
      s.engineRead g (x.toNat % 0x20000) 31 = (some v, u) →
      Moves g st n (x + st) (y + st) (u.writeLocal g (y.toNat % 0x20000) 15 v) t → Moves g st (n + 1) x y s t

/-- n elements of FILLS with value a from y in state s leave t. -/
inductive Fills (g : Nat) (st a : Word) : Nat → Word → State → State → Prop
  | none (y : Word) (s : State) : Fills g st a 0 y s s
  | one {n : Nat} {y : Word} {s t : State} : MayStore s g (y.toNat % 0x20000) →
      Fills g st a n (y + st) (s.writeLocal g (y.toNat % 0x20000) 15 a) t → Fills g st a (n + 1) y s t

/-- k equal elements of CMPS from x and y in state s leave t. -/
inductive Equals (g : Nat) (st : Word) : Nat → Word → Word → State → State → Prop
  | none (x y : Word) (s : State) : Equals g st 0 x y s s
  | one {k : Nat} {x y v : Word} {s u r t : State} : s.engineRead g (x.toNat % 0x20000) 31 = (some v, u) →
      u.engineRead g (y.toNat % 0x20000) 31 = (some v, r) → Equals g st k (x + st) (y + st) r t → Equals g st (k + 1) x y s t

/-- k elements of SCANS from x in state s, none of which stops it, leave t. -/
inductive Passes (g : Nat) (st a : Word) (sense : Bool) : Nat → Word → State → State → Prop
  | none (x : Word) (s : State) : Passes g st a sense 0 x s s
  | one {k : Nat} {x v : Word} {s u t : State} : s.engineRead g (x.toNat % 0x20000) 31 = (some v, u) →
      (v = a ↔ sense = true) → Passes g st a sense k (x + st) u t → Passes g st a sense (k + 1) x s t

/-- The step of format SR, sign-extended. -/
def stringBy (w : Word) : Word := (w.extractLsb' 0 12).signExtend 36

/-- X, Y and C after k elements of a string instruction with step st. -/
def strung (c : Core) (st : Word) (k : Nat) (stepsX stepsY : Bool) : Core :=
  { c with x := if stepsX then c.x + BitVec.ofNat 36 k * st else c.x,
           y := if stepsY then c.y + BitVec.ofNat 36 k * st else c.y,
           c := c.c - BitVec.ofNat 24 k }

/-- F with Z and C replaced. -/
def withZC (f : BitVec 5) (z c : Bool) : BitVec 5 := flagWord c z (f.getLsbD 2) (f.getLsbD 3) (f.getLsbD 4)

/-! ### Special registers -/

/-- The special registers as MFS reads them, but for ENG and the mailbox words (Table 5.4). -/
def specials : List (Nat × (State → Core → Word)) := [
  (0x00, fun _ c => c.ep.extractLsb' 0 36), (0x01, fun _ c => (c.ep.extractLsb' 36 12).zeroExtend 36),
  (0x02, fun _ c => c.fl.zeroExtend 36), (0x03, fun _ c => c.win.zeroExtend 36),
  (0x04, fun _ c => (c.fsr.extractLsb' 18 1 ++ BitVec.ofNat 3 c.fpq.length ++ c.fsr.extractLsb' 0 15).zeroExtend 36),
  (0x05, fun _ c => c.tcause.zeroExtend 36), (0x06, fun _ c => c.tpc.zeroExtend 36), (0x07, fun _ c => c.tinfo),
  (0x08, fun _ c => c.tf.zeroExtend 36), (0x09, fun _ c => c.loops.lst.zeroExtend 36),
  (0x0A, fun _ c => c.loops.ls[0].zeroExtend 36), (0x0B, fun _ c => c.loops.ls[1].zeroExtend 36), (0x0C, fun _ c => c.loops.ls[2].zeroExtend 36),
  (0x0D, fun _ c => c.loops.le[0].zeroExtend 36), (0x0E, fun _ c => c.loops.le[1].zeroExtend 36), (0x0F, fun _ c => c.loops.le[2].zeroExtend 36),
  (0x10, fun _ c => c.loops.lc[0].zeroExtend 36), (0x11, fun _ c => c.loops.lc[1].zeroExtend 36), (0x12, fun _ c => c.loops.lc[2].zeroExtend 36),
  (0x13, fun _ c => c.seg[3].nonet ++ c.seg[2].nonet ++ c.seg[1].nonet ++ c.seg[0].nonet),
  (0x15, fun s _ => BitVec.ofNat 36 (s.devId % 1024))]

/-- A loop register as MTS n leaves it: written, and noted so that the end check of the next two instructions still sees the value
before (Table 5.8, case 10); so does the end check of the MTS itself, which is log entry 20's choice. -/
def noted (c : Core) (n : Nat) (before : Word) : Core :=
  { c with loopWrites := c.loopWrites ++ [{ special := BitVec.ofNat 7 n, left := 3, before := before }] }

/-- The special registers MTS writes, but for FSR (Table 5.4). -/
def writables : List (Nat × (Core → Word → Core)) := [
  (0x06, fun c a => { c with tpc := a.extractLsb' 0 15 }), (0x08, fun c a => { c with tf := a.extractLsb' 0 5 }),
  (0x09, fun c a => noted { c with loops := { c.loops with lst := a.extractLsb' 0 2 } } 0x09 (c.loops.lst.zeroExtend 36)),
  (0x0A, fun c a => noted { c with loops := { c.loops with ls := c.loops.ls.set 0 (a.extractLsb' 0 15) } } 0x0A (c.loops.ls[0].zeroExtend 36)),
  (0x0B, fun c a => noted { c with loops := { c.loops with ls := c.loops.ls.set 1 (a.extractLsb' 0 15) } } 0x0B (c.loops.ls[1].zeroExtend 36)),
  (0x0C, fun c a => noted { c with loops := { c.loops with ls := c.loops.ls.set 2 (a.extractLsb' 0 15) } } 0x0C (c.loops.ls[2].zeroExtend 36)),
  (0x0D, fun c a => noted { c with loops := { c.loops with le := c.loops.le.set 0 (a.extractLsb' 0 15) } } 0x0D (c.loops.le[0].zeroExtend 36)),
  (0x0E, fun c a => noted { c with loops := { c.loops with le := c.loops.le.set 1 (a.extractLsb' 0 15) } } 0x0E (c.loops.le[1].zeroExtend 36)),
  (0x0F, fun c a => noted { c with loops := { c.loops with le := c.loops.le.set 2 (a.extractLsb' 0 15) } } 0x0F (c.loops.le[2].zeroExtend 36)),
  (0x10, fun c a => noted { c with loops := { c.loops with lc := c.loops.lc.set 0 (a.extractLsb' 0 24) } } 0x10 (c.loops.lc[0].zeroExtend 36)),
  (0x11, fun c a => noted { c with loops := { c.loops with lc := c.loops.lc.set 1 (a.extractLsb' 0 24) } } 0x11 (c.loops.lc[1].zeroExtend 36)),
  (0x12, fun c a => noted { c with loops := { c.loops with lc := c.loops.lc.set 2 (a.extractLsb' 0 24) } } 0x12 (c.loops.lc[2].zeroExtend 36))]

/-- Engine g runs codelet code, not a handler, and no FP instruction is outstanding: a synchronous trap is taken at once. -/
def TrapOpen (t : State) (g : Nat) : Prop := (t.core g).handler = false ∧ (t.core g).fpu = none

/-! ### The Boolean vector unit -/

/-- The vector p of 8 words read at an address, and the state u that its read leaves (R103, R5). -/
def VectorAt (t : State) (g adr : Nat) (p : Vec) (u : State) : Prop :=
  adr % 8 = 0 ∧ ∃ l, t.engineReads g adr 8 = (.inr l, u) ∧ ∀ i < 8, p.extractLsb' (36 * i) 36 = l.getD i 0

/-- P of format VM: the vector at ea, or in mode 111 the one given (Table 7.1). -/
def OperandP (t : State) (g : Nat) (w : Word) (implied p : Vec) (u : State) : Prop :=
  if modeOf w = 7 then p = implied ∧ u = t else VectorAt t g (effective t g w) p u

/-- The index register of the mode of formats VD, VT, VG, VP and FD, displaced (Table 7.1, R159). -/
def nearAddress (c : Core) (w d : Word) : Nat := ((if modeOf w = 2 then c.x else c.y) + d).toNat % 0x20000
/-- The other index register, displaced. -/
def farAddress (c : Core) (w d : Word) : Nat := ((if modeOf w = 2 then c.y else c.x) + d).toNat % 0x20000
/-- sext(addr). -/
def addrWord (w : Word) : Word := (w.extractLsb' 0 12).signExtend 36

/-- P and Q of a two-operand instruction with displacement d of Q. -/
def OperandsPQ (t : State) (g : Nat) (w d : Word) (p q : Vec) (u : State) : Prop :=
  ∃ r, VectorAt t g (nearAddress (t.core g) w (addrWord w)) p r ∧ VectorAt r g (farAddress (t.core g) w d) q u ∧
    farAddress (t.core g) w d % 8 = 0

/-- Net j of a vector: (u, v), so that 0 is 0, 1 is 1, 2 is X and 3 is Z (R4, R5). -/
def net (x : Vec) (j : Nat) : BitVec 2 := x.extractLsb' (2 * j) 2

/-- A two-input table read by rows: first input 0, 1, X, Z, in each the second input 0, 1, X, Z. -/
def gate (t : List (BitVec 2)) (a b : BitVec 2) : BitVec 2 := t.getD (4 * a.toNat + b.toNat) 0

def tableAnd : List (BitVec 2) := [0, 0, 0, 0, 0, 1, 2, 2, 0, 2, 2, 2, 0, 2, 2, 2]
def tableOr : List (BitVec 2) := [0, 1, 2, 2, 1, 1, 1, 1, 2, 1, 2, 2, 2, 1, 2, 2]
def tableXor : List (BitVec 2) := [0, 1, 2, 2, 1, 0, 2, 2, 2, 2, 2, 2, 2, 2, 2, 2]
def tableNand : List (BitVec 2) := [1, 1, 1, 1, 1, 0, 2, 2, 1, 2, 2, 2, 1, 2, 2, 2]
def tableNor : List (BitVec 2) := [1, 0, 2, 2, 0, 0, 0, 0, 2, 0, 2, 2, 2, 0, 2, 2]
def tableXnor : List (BitVec 2) := [1, 0, 2, 2, 0, 1, 2, 2, 2, 2, 2, 2, 2, 2, 2, 2]
def tableRes : List (BitVec 2) := [0, 2, 2, 0, 2, 1, 2, 1, 2, 2, 2, 2, 0, 1, 2, 3]
/-- TBUF, by enable, then data (Table 7.3). -/
def tableTbuf : List (BitVec 2) := [3, 3, 3, 3, 0, 1, 2, 2, 2, 2, 2, 2, 2, 2, 2, 2]
/-- BUF and INV (Table 7.3). -/
def tableBuf : List (BitVec 2) := [0, 1, 2, 2]
def tableInv : List (BitVec 2) := [1, 0, 2, 2]

/-- VMUX of one net (R147). -/
def muxNet (s a b : BitVec 2) : BitVec 2 :=
  if s = 0 then a else if s = 1 then b else if a = b ∧ (a = 0 ∨ a = 1) then a else 2

/-- A primitive: its command, its opcode, and the net it makes of a net of V and a net of P. -/
structure GateRow where
  instr : BitVec 9 → Instr
  op : Nat
  out : BitVec 2 → BitVec 2 → BitVec 2

/-- The accumulator forms, VBUF, VINV and VTBUF (Tables 7.2, 7.3). -/
def accumulatorRows : List GateRow := [
  ⟨.vbuf, 0x104, fun _ p => tableBuf.getD p.toNat 0⟩, ⟨.vinv, 0x105, fun _ p => tableInv.getD p.toNat 0⟩,
  ⟨.vtbuf, 0x106, fun v p => gate tableTbuf p v⟩, ⟨.vres, 0x107, gate tableRes⟩, ⟨.vand, 0x108, gate tableAnd⟩,
  ⟨.vor, 0x109, gate tableOr⟩, ⟨.vxor, 0x10A, gate tableXor⟩, ⟨.vnand, 0x10B, gate tableNand⟩, ⟨.vnor, 0x10C, gate tableNor⟩,
  ⟨.vxnor, 0x10D, gate tableXnor⟩]

/-- The Q forms (Table 7.2). -/
def pairRows : List GateRow := [
  ⟨.vandq, 0x110, gate tableAnd⟩, ⟨.vorq, 0x111, gate tableOr⟩, ⟨.vxorq, 0x112, gate tableXor⟩, ⟨.vnandq, 0x113, gate tableNand⟩,
  ⟨.vnorq, 0x114, gate tableNor⟩, ⟨.vxnorq, 0x115, gate tableXnor⟩]

/-- Element k of a list of words, in elements of b bits (b is 1 or 2, R151). -/
def elementOf (b : Nat) (l : List Word) (k : Nat) : Nat := (l.getD (k / (36 / b)) 0).toNat / 2 ^ (b * (k % (36 / b))) % 2 ^ b

/-- Index k of an index table (Table 7.6). -/
def indexOf (l : List Word) (k : Nat) : Nat := ((l.getD (k / 3) 0).extractLsb' (12 * (k % 3)) 12).toNat

/-- The element width of bit g of a word, and the elements of V. -/
def widthOf (w : Word) : Nat := if w.getLsbD 20 then 1 else 2
def elementsOf (w : Word) : Nat := 288 / widthOf w

/-- The vector gathered by an index table from a source of n elements (R151). -/
def Gathered (b n : Nat) (table src : List Word) (v : Vec) : Prop :=
  ∀ k < 288 / b, elementOf b (listOfVec v) k =
    if indexOf table k = 0xFFF then 0 else if indexOf table k < n then elementOf b src (indexOf table k) else if b = 2 then 2 else 0

/-- The region scattered: each element takes the last element of V whose index names it (R151). -/
def Scattered (b n : Nat) (table region v new : List Word) : Prop :=
  new.length = region.length ∧ ∀ e < n, elementOf b new e =
    match ((List.range (288 / b)).filter (fun k => indexOf table k == e)).getLast? with
    | some k => elementOf b v k
    | none => elementOf b region e

/-- The BVU index counter counts an instruction that met an index out of range (R151). -/
def rangeCounted (u : State) (g b n : Nat) (table : List Word) : State :=
  if ∃ k < 288 / b, indexOf table k ≠ 0xFFF ∧ n ≤ indexOf table k then u.tick1 g 0x0A else u

/-! ### Floating point -/

/-- An FP instruction: its command and its opcode. -/
abbrev FpRow := (BitVec 9 → Instr) × Nat

/-- Format FM on a word (Table 8.2). -/
def fpWordRows : List FpRow := [(.faddS, 0x180), (.fsubS, 0x182), (.fmulS, 0x184), (.fdivS, 0x186), (.fminS, 0x18A), (.fmaxS, 0x18C),
  (.fcmpS, 0x18E), (.fcmpeS, 0x190)]
/-- Format FM on a pair. -/
def fpPairRows : List FpRow := [(.faddD, 0x181), (.fsubD, 0x183), (.fmulD, 0x185), (.fdivD, 0x187), (.fminD, 0x18B), (.fmaxD, 0x18D),
  (.fcmpD, 0x18F), (.fcmpeD, 0x191)]
/-- Format FI. -/
def fpImpliedRows : List FpRow := [(.fsqrtS, 0x188), (.fsqrtD, 0x189), (.fcvtSD, 0x1A0), (.fcvtDS, 0x1A1), (.fcvtiS, 0x1A2), (.fcvtiD, 0x1A3),
  (.fcvtuS, 0x1A4), (.fcvtuD, 0x1A5), (.fitofS, 0x1A6), (.fitofD, 0x1A7), (.futofS, 0x1A8), (.futofD, 0x1A9)]
/-- Format FD on words. -/
def fpFusedWordRows : List FpRow := [(.fmaS, 0x194), (.fmsS, 0x196), (.fnmaS, 0x198), (.fnmsS, 0x19A)]
/-- Format FD on pairs. -/
def fpFusedPairRows : List FpRow := [(.fmaD, 0x195), (.fmsD, 0x197), (.fnmaD, 0x199), (.fnmsD, 0x19B)]

/-- The outstanding instruction of an opcode with operands A:H, p and q; a load in its delay of a register that it writes displaces its
result (R161, R162). -/
def outstanding (c : Core) (op : Nat) (p q : BitVec 72) : FpOp :=
  { opcode := BitVec.ofNat 9 op, pc := c.pc, a := c.h ++ c.a, p := p, q := q, drop := c.delay.any (fun x => fpWrites op x.reg) }

/-- A row of Table 8.7 as a check of one instruction on given operands: rounding code, A:H, p and q, then A, H where written, and the flags. -/
def Delivers (op rm : Nat) (ah p q : BitVec 72) (a : Word) (h : Option Word) (flags : BitVec 5) : Prop :=
  let r := ({ opcode := BitVec.ofNat 9 op, pc := 0, a := ah, p := p, q := q, drop := false } : FpOp).result
    { rm := rm, ftz := false, daz := false }
  r.a = some a ∧ r.h = h ∧ r.flags = flags

/-! ### Far access -/

/-- Space [23:20], segment [19:18], index [17] and length [16:13] of format FA (Table 6.1). -/
def spaceOf (w : Word) : Nat := (w.extractLsb' 20 4).toNat
def segmentOf (w : Word) : Nat := (w.extractLsb' 18 2).toNat
def offsetOf (c : Core) (w : Word) : Nat := if w.getLsbD 17 then c.x.toNat else c.y.toNat
def lengthOf (w : Word) : Nat := (w.extractLsb' 13 4).toNat + 1

/-- u is t with the far request issued: opcode op of Table 11.5, len words, the data given (R116, R117, R214). What the code of an
outstanding segment reads as is free (log entry 79). -/
def FarIssued (t : State) (g k space off op len : Nat) (data : List Word) (u : State) : Prop :=
  let c := t.core g
  let d := u.core g
  d.a = c.a ∧ d.h = c.h ∧ d.x = c.x ∧ d.y = c.y ∧ d.f = c.f ∧ d.v = c.v ∧ (u.engine g).mem = (t.engine g).mem ∧
  (∀ j < 4, j ≠ k → d.segment j = c.segment j) ∧
  match t.farRoute g space off with
  | .status n => (d.segment k).code = BitVec.ofNat 4 n ∧ (d.segment k).outstanding = false ∧ ∀ i, (h : i < 64) → i / 16 = k → d.mb[i] = 0
  | .crossbar => (d.segment k).outstanding = true ∧ d.mb = c.mb ∧
      ∃ p, (u.cluster (g / 16)).reqQ = (t.cluster (g / 16)).reqQ ++ [p] ∧ p.inj = none ∧ p.data = dataFlits 13 data ∧
        p.head = mkHead off space op len (d.segment k).tag 0 c.fl.toNat true
  | _ => (d.segment k).outstanding = true ∧ d.mb = c.mb ∧
      (u.cluster (g / 16)).reqQ = (t.cluster (g / 16)).reqQ

/-! ### Token instructions -/

/-- The index j of a token instruction (R135). -/
def sendIndex (c : Core) (w : Word) : Nat := if modeOf w = 0 then (w.extractLsb' 0 12).toNat else (c.reg (codeOf w)).toNat % 4096

/-- Entry j of the fan-out list of the running activation a reads as x (R63, Table 3.8), and its read leaves u. -/
def EntryAt (t : State) (g : Nat) (a : Activation) (j : Nat) (x : Fan) (u : State) : Prop :=
  ∃ p q, t.engineReads g ((a.fanlist.toNat + 2 * j) % 0x20000) 2 = (.inr [p, q], u) ∧ x = fanOf p q

/-- u is t with the token of value v for epoch e sent for entry x by activation a (R64, R67): one more token sent, an obligation open,
the token on its way: through the loopback to the engine itself, else into the network on a live route. -/
def TokenSent (t : State) (g : Nat) (a : Activation) (x : Fan) (v : Word) (e : Nat) (u : State) : Prop :=
  let tok := mkToken v x.device x.engine x.slot e (t.core g).fl.toNat (if x.moored then 1 else 0)
  let k := g / 16
  let entry := t.engineEntry k x.device x.engine
  u.core g = { t.core g with act := some { a with sent := a.sent + 1 } } ∧
  (u.engine g).mem = (t.engine g).mem ∧
  (∃ o ∈ (u.tu g).obligations, o.node = a.node ∧ o.epoch = a.epoch ∧ o.seq = BitVec.ofNat 6 a.sent ∧ o.tag = BitVec.ofNat 8 e) ∧
  (x.device = t.devId ∧ x.engine = t.logical g t.noc.gen →
    ∃ f, (u.tu g).loopback = (t.tu g).loopback ++ [f] ∧ f.token = tok ∧ (srcOf f.ctl).node = a.node.toNat ∧ ctlSeq f.ctl = BitVec.ofNat 6 a.sent) ∧
  (¬ (x.device = t.devId ∧ x.engine = t.logical g t.noc.gen) → entryState entry = 1 → t.absent x.device = false → entryRoute entry ≠ 0 →
    ∃ f, tget [] u.noc.inject (4 * k + vcToken) = queueFlits k vcToken (tget [] t.noc.inject (4 * k + vcToken)) [f] ∧
      f.bits.extractLsb' 0 96 = tok ∧ f.inj = k)

/-! ### The token unit -/

/-- A token queue the engine has: the loopback, or the partition of one of the 46 routers (R64, R220). -/
def QueueExists : QueueSrc → Prop
  | .loopback => True
  | .partition k => k.toNat < 46

/-- The head of queue q of engine g has left it, and a partition's credit is on its way back (R220). -/
def Popped (s : State) (g : Nat) (q : QueueSrc) (v : State) : Prop :=
  match q with
  | .loopback => (v.tu g).loopback = (s.tu g).loopback.drop 1
  | .partition k => tget [] (v.tu g).parts k.toNat = (tget [] (s.tu g).parts k.toNat).drop 1 ∧
      tget 0 v.noc.tokBack (64 * g + k.toNat) = tget 0 s.noc.tokBack (64 * g + k.toNat) + 1

/-- The last event of v is the one v has more than s: source, code, level (R292). -/
def LastEvent (s v : State) (src code level : Nat) : Prop :=
  ∃ e, v.col.detected = s.col.detected ++ [e] ∧ e.src = src ∧ e.code = code ∧ e.level = level ∧ e.stamp = s.now

/-- Token x stands at the head of queue q of engine g, whose cluster runs; it is no probe, its CRC-8 is good and nothing is injected. -/
structure AtHead (s : State) (g : Nat) (q : QueueSrc) (x : Flit) : Prop where
  queue : QueueExists q
  head : s.queueHead g q = some x
  runs : s.clusterRuns (g / 16) = true
  noProbe : tokClass x.token ≠ 6
  quiet : s.col.armed = false
  code : tokenSyndrome x.token = 0

/-- Checks 2 to 5 of R381 pass: version bits zero, class allowed for the source, this device, the flight of the cluster; and the class
is one that a node's input takes. -/
structure WellAddressed (s : State) (g : Nat) (x : Flit) : Prop where
  version : x.token.extractLsb' 85 3 = 0
  source : s.classFault x.ctl x.token = false
  device : tokDevice x.token = s.devId
  flight : s.flightOf (g / 16) = some (tokFlight x.token)
  input : tokClass x.token ≠ 2 ∧ tokClass x.token ≠ 3

/-- Checks 6 to 9 pass too, for a token not from the bog: the flight runs, the tag lies within the window of R33, slot and owner exist,
and the class fits the input; the descriptor's read leaves u. -/
structure Meant (s : State) (g : Nat) (q : QueueSrc) (x : Flit) (d n i : Nat) (u : State) : Prop where
  running : (s.flight (tokFlight x.token)).state = .running ∨ (s.flight (tokFlight x.token)).state = .halting
  distance : d = tagDistance (tokTag x.token).toNat (s.tu g).view
  near : d < 64 ∨ 192 ≤ d
  slot : tokSlot x.token < s.frameSize (tokFlight x.token)
  owner : s.slotOwner g (tokSlot x.token) = some (n, i)
  fresh : tokClass x.token ≠ 4
  desc : ∃ e, (s.popQueue g q).readDesc g n = (some e, u) ∧ (tokClass x.token = 0 → e.moored.getLsbD i = false) ∧
    (tokClass x.token = 1 → e.moored.getLsbD i = true)

/-- The matching store of engine g as its readers see it. -/
def SameStore (s v : State) (g : Nat) : Prop := ∀ ix, (v.engine g).entry ix = (s.engine g).entry ix

/-! ### The network -/

/-- A flit x that is a whole packet stands at port input p (1 to 5), channel v, class u of router k; its control parity is good, no word
of the router's store holds an error and nothing is injected. -/
structure AtInput (s : State) (k p v : Nat) (u : Bool) (x : NFlit) (l : List NFlit) : Prop where
  router : k < 46
  port : 1 ≤ p ∧ p ≤ 5
  channel : v < 4
  buffer : tget [] s.noc.bufs (bufKey k p v u) = x :: l
  whole : x.tag = 3
  parity : paritySyndrome x.ctl = 0
  sound : x.spoiled = false
  store : s.aon = []
  quiet : s.col.armed = false
  fresh : tget 0 s.noc.follow (bufKey k p v u) = 0

/-- The first route hop of a flit (R211). -/
def hopOf (x : NFlit) : Nat := (ctlRoute x.ctl).toNat % 8

/-- No input of router k that bids for the same output outranks urgency n at input (p, v, u): a bid of the same urgency stands no nearer
to the round-robin pointer of the output (R217). -/
def Unrivalled (s : State) (k code n p v : Nat) (u : Bool) : Prop :=
  ∀ i ∈ inputsOf k, ∀ b, s.bid k i.1 i.2.1 i.2.2 = some b → b.code = code →
    b.urgency < n ∨ b.urgency = n ∧ s.turnsTo k code (inTurn p v u) ≤ s.turnsTo k code (inTurn i.1 i.2.1 i.2.2)

/-! ### Far transactions -/

/-- Request p is the one that a running target serves next, and l the others; its header and data codes are good and nothing is injected. -/
structure AtTarget (s : State) (t : Target) (p : Pkt) (l : List Pkt) : Prop where
  head : s.nextRequest t (requestOp p.head) = some (p, l)
  runs : s.targetRuns t = true
  quiet : s.col.armed = false
  header : headSyndrome p.head = 0
  data : ∀ f ∈ p.data, dataSyndrome f = 0

/-- The words a request carries. -/
def wordsOf (p : Pkt) : List Word := flitWords p.data (hdLen p.head)

/-- Response p stands at the head of engine g's responses and answers its segment k; its codes are good, nothing is injected. -/
structure AtEngine (s : State) (g : Nat) (p : Pkt) (l : List Pkt) (k : Nat) : Prop where
  head : (s.engine g).rspIn = p :: l
  quiet : s.col.armed = false
  header : headSyndrome p.head = 0
  data : ∀ f ∈ p.data, dataSyndrome f = 0
  number : k = (hdTag p.head).toNat % 4
  far : hdTag p.head ≠ traceTag
  waits : ((s.core g).segment k).outstanding = true
  tag : ((s.core g).segment k).tag = hdTag p.head

/-- Segment k of engine g has completed with a status, and its mailbox words are as given; the other segments and the registers are as
before (R117). -/
def Completed (s v : State) (g k status : Nat) (words : Nat → Option Word) : Prop :=
  let c := s.core g
  let d := v.core g
  (d.segment k).outstanding = false ∧ (d.segment k).code = BitVec.ofNat 4 status ∧ (∀ j < 4, j ≠ k → d.segment j = c.segment j) ∧
  (∀ i < 16, ∀ w, words i = some w → ∀ h : 16 * k + i < 64, d.mb[16 * k + i] = w) ∧
  d.a = c.a ∧ d.h = c.h ∧ d.x = c.x ∧ d.y = c.y ∧ d.f = c.f ∧ d.v = c.v ∧ d.pc = c.pc ∧ (v.engine g).mem = (s.engine g).mem

/-- The far responses with their opcodes of Table 11.5. -/
def responseRows : List ((RspDst → Instr) × Nat) := [(.readRsp, 0x21), (.writeRsp, 0x22), (.xaddRsp, 0x23), (.swapRsp, 0x24)]

/-! ### The bog -/

/-- Token x stands at the head of the bog's write buffer; its CRC-8 is good and nothing is injected. -/
structure AtBog (s : State) (x : Flit) (l : List Flit) : Prop where
  head : s.bogIn = x :: l
  quiet : s.col.armed = false
  code : tokenSyndrome x.token = 0

/-- The token of slot b as its three words hold it, drawn under a number: the slot waits for its acceptance, and a copy of class 100 under
the draw number stands at the service router (R80, R384). -/
def Drawn (s : State) (b : BogSlot) (n : Nat) (t : BitVec 96) (v : State) : Prop :=
  v.bog = s.bog.map (fun z => if z.idx = b.idx then { z with draw := some n, copies := z.copies + 1, queued := false, back := false } else z) ∧
  (entryState (s.engineEntry 45 s.devId b.engine) = 1 → tokDevice t = s.devId →
    ∃ f, tget [] v.noc.inject (4 * 45 + vcToken) = tget [] s.noc.inject (4 * 45 + vcToken) ++ [f] ∧ tokClass f.head = 4 ∧
      tokValue f.head = tokValue t ∧ tokTag f.head = tokTag t ∧ tokenSyndrome f.head = 0 ∧ ctlSeq f.ctl = BitVec.ofNat 6 n)

/-! ### Flights -/

/-- A command for flight f comes on the edge from its parent: the parent port, the root and the enable of the flight match (R382). -/
def OnEdge (s : State) (p f root : Nat) : Prop := p = s.parentPort f ∧ root = s.obj (0x2800 + f) 0xC ∧ s.obj (0x2800 + f) 2 ≠ 0

/-- v has the command sent on to every child port (R382). -/
def SentDown (s v : State) (f root cmd arg : Nat) : Prop :=
  ∀ q < 8, (s.childPorts f).getLsbD q = true → Output.service q (.command f root cmd arg) ∈ v.outbox

/-- The flight stands at epoch r after a restart: RUNNING, views at r, T and F at Tmax (R47, R53, R75). -/
def Restarted (s v : State) (f r : Nat) : Prop :=
  let x := v.flight f
  let tmax := s.obj (0x2800 + f) 3
  x.state = .running ∧ x.view = r ∧ x.startEpoch = r ∧ x.tether = tmax ∧ x.frames = tmax ∧ x.holdoff = some r ∧
  ∀ g ∈ s.enginesOf f, (v.tu g).view = r ∧ (v.tu g).lur = r

/-- The descriptor of a node as a table of nodes gives it, standing in the engine's memory (R29). -/
def Described (s : State) (g : Nat) (table : List Desc) : Prop :=
  s.nodeCount g = table.length ∧ ∀ n d, table[n]? = some d → s.readDesc g n = (some d, s)

/-- The checks of R30, R31, R60 and R208 on one valid descriptor of engine g in a flight with this frame size. -/
def DescriptorGood (s : State) (g size : Nat) (d : Desc) : Prop :=
  d.reserved = false ∧ 0x40 ≤ d.entry.toNat ∧ d.base + d.arity ≤ size ∧
  (d.fanout ≠ 0 → d.fanlist % 2 = 0 ∧ 0x8000 ≤ d.fanlist ∧ d.fanlist + 2 * d.fanout ≤ 0x18000) ∧
  (d.stateLen ≠ 0 → d.stateBase + d.stateLen ≤ 0x20000 ∧ bankOf d.stateBase = bankOf (d.stateBase + d.stateLen - 1)) ∧
  ∀ a, d.fanlist ≤ a ∧ a < d.fanlist + 2 * d.fanout ∨ d.stateBase ≤ a ∧ a < d.stateBase + d.stateLen → s.retiredPage g a = false

/-- Nodes 0 to n − 1 of the table: every valid one is good, and no slot has two owners. -/
def TableGood (s : State) (g size : Nat) (table : List Desc) (n : Nat) : Prop :=
  (∀ (k : Nat) d, k < n → table[k]? = some d → d.valid = true → DescriptorGood s g size d) ∧
  ∀ (j k : Nat) (d e : Desc), j < k → k < n → table[j]? = some d → table[k]? = some e → d.valid = true → e.valid = true →
    d.base + d.arity ≤ e.base ∨ e.base + e.arity ≤ d.base

/-! ### The dictionary -/

/-- A path on which the dictionary is served now: from CONFIG on, no firmware switch under way, the part not in boot mode, CAN not
stopped, the PCIe function in service, no word of an always-on store in error (R192, R314, R317, R335, R349, R354). -/
structure Served (s : State) (path : Path) : Prop where
  opened : s.dictOpen = true
  free : s.fw.held = false
  booted : s.fw.bootMode = false
  can : path = .can → s.can.stopped = false
  pcie : path = .pcie → s.hostServes = true
  sound : s.aon = []

/-- Such a path whose mailbox, where it is PCIe's, is neither busy nor between the chunks of a write (R318, R319). -/
structure Reachable (s : State) (path : Path) : Prop extends Served s path where
  idle : path = .pcie → s.host.mb.busy = false ∧ s.host.mb.collect = none

/-- s as an access reaches it: a row over PCIe is a mailbox write of one chunk, whose registers hold the object's index, the chunk's length and
its bytes (R318; log entry 98's choice). -/
def asked (s : State) (path : Path) (ix sub : Nat) (bytes : List (BitVec 8)) : State :=
  if path = .pcie then { s with host := { s.host with mb := s.host.mb.loaded ix sub bytes } } else s

/-- u with an access's success reported on its path: a USDO response on 0x580 + node-ID, or the mailbox done with code 0 (R314, R315, R318). -/
def accepted (u : State) (path : Path) : State :=
  { u with reply := some { path := path, abort := 0, bytes := [] },
           outbox := if path = .can then u.outbox ++ [.usdo (0x580 + u.nodeId) 0 []] else u.outbox,
           host := if path = .can then u.host else { u.host with mb := { u.host.mb with busy := false, done := true, seq := 0, abort := 0 } } }

/-- Command i is refused with an abort code: no object and no transaction changes, the path has the code in a USDO response or in MB_ABORT,
event 0x40 names the object (R313 to R315, R318, Table 15.2). -/
def Aborted (i : Instr) (s : State) (path : Path) (ix sub code : Nat) : Prop :=
  ∃ v, exec i s = .next v ∧ v.reply = some { path := path, abort := BitVec.ofNat 32 code, bytes := [] } ∧ v.objs = s.objs ∧ v.txn = s.txn ∧
    (path = .can → v.outbox = s.outbox ++ [.usdo (0x580 + s.nodeId) (BitVec.ofNat 32 code) []]) ∧
    (path = .pcie → v.host.mb.done = true ∧ v.host.mb.busy = false ∧ v.host.mb.abort = BitVec.ofNat 32 code) ∧
    ∃ e, v.col.detected = s.col.detected ++ [e] ∧ e.src = (match path with | .can => srcId 25 3 | .pcie => srcId 25 7) ∧ e.code = 0x40 ∧
      e.level = 2 ∧ e.d0 = 256 * ix + sub ∧ e.d1 = code

/-- Objects whose write has no effect beyond the value: time offsets, tether and lull watch, network timeouts, protection, selectors. -/
def PlainObject (ix : Nat) : Prop :=
  0x2208 ≤ ix ∧ ix < 0x2210 ∨ 0x2840 ≤ ix ∧ ix < 0x2860 ∨ ix = 0x2A01 ∨ 0x2E00 ≤ ix ∧ ix < 0x2E40 ∨ 0x3080 ≤ ix ∧ ix < 0x309E

/-- The bytes are a value that object o takes (R313). -/
def ValueOf (s : State) (ix sub : Nat) (o : ObjInfo) (data : List (BitVec 8)) : Prop :=
  o.domain = false ∧ data.length = o.bytes ∧ bytesToNat data < 2 ^ o.bits ∧ o.ok (bytesToNat data) = true ∧ s.rangeOk ix sub (bytesToNat data) = true

/-- A staged write of an engine or flight object that is no flight command. -/
def PlainStage (x : Stage) : Prop :=
  x.route = none ∧ x.sub < 256 ∧ (0x2400 ≤ x.index ∧ x.index < 0x2600 ∨ 0x2800 ≤ x.index ∧ x.index < 0x2820 ∧ x.sub ≠ 7)

/-! ### Power, clocks and temperatures -/

/-- Command i completes and its access is reported as accepted on its path. -/
def Takes (i : Instr) (s : State) (path : Path) (q : State → Prop) : Prop :=
  ∃ v, exec i s = .next v ∧ v.reply = some { path := path, abort := 0, bytes := [] } ∧ q v

/-- The flight of a cluster, if it has one, lets the cluster be deflated (Table 14.1). -/
def FlightRests (s : State) (c : Nat) : Prop :=
  ∀ f, s.flightOf c = some f → (s.flight f).state = .idle ∨ (s.flight f).state = .halted ∨ (s.flight f).state = .mired

/-- The last event of v is the one v has more than s: its source and level; code and details are free (log entry 5). -/
def LastUnder (s v : State) (src level : Nat) : Prop := ∃ e, v.col.detected = s.col.detected ++ [e] ∧ e.src = src ∧ e.level = level

/-! ### Faults and storage -/

/-- The level at which an event of a source is recorded: promotion raises a level up to 2 by one, host traffic never exceeds level 2
(R294, R297). -/
def recordedLevel (s : State) (e : Event) : Nat :=
  let host := e.src / 32 = 22 ∨ e.src = srcId 25 3 ∨ e.src = srcId 25 7
  let cap := if host then 2 else 3
  if 2 < e.level then (if host then 2 else e.level)
  else if (s.status e.src).testBit 4 = true ∨ e.reached = true then min (e.level + 1) cap
  else e.level

/-- The reactions that a configuration word gives a level (Tables 15.4, 15.5). -/
def reactionsAt (cfg level : Nat) : Nat :=
  if 4 ≤ level then 0x1F else if level = 3 then cfg / 2 ^ 48 % 128 else if level = 2 then cfg / 2 ^ 40 % 128 else cfg / 2 ^ 32 % 128

/-- Event e of class c is the oldest of its class among those detected; the others follow in order. -/
def OldestOf (s : State) (c : Nat) (e : Event) (rest : List Event) : Prop :=
  ∃ a b, s.col.detected = a ++ e :: b ∧ rest = a ++ b ∧ e.src / 32 = c ∧ ∀ x ∈ a, x.src / 32 ≠ c

/-- A pointer over n places, one further (R203). -/
def further (n p : Nat) : Nat := if p + 1 < n then p + 1 else 0

/-- A stored cell with its bits i and j inverted (the same one twice: unchanged). -/
def flipped {n : Nat} (x : BitVec n) (i j : Nat) : BitVec n := x ^^^ (1#n <<< i) ^^^ (1#n <<< j)

/-! ### Peer links and time -/

/-- A descrambled block b arrives at a connected port under sync header 01; its CRC-32 is good and nothing is injected (R235, R243). -/
structure GoodBlock (s : State) (p : Nat) (x : BitVec 1026) (b : BitVec 1024) : Prop where
  connected : (s.port p).state = .connected
  header : x.extractLsb' 0 2 = 1
  body : (descramble (x.extractLsb' 2 1024) (s.port p).rxScram).1 = b
  code : crc32Block b = blockCrc b
  quiet : s.col.armed = false

/-- A block error of port p: counted, a level-1 event of the port, a replay requested, nothing delivered (R43, R243). -/
def BlockError (s v : State) (p : Nat) : Prop :=
  (∃ e, v.col.detected = s.col.detected ++ [e] ∧ e.src = srcId 21 p ∧ e.level = 1) ∧
  v.obj (0x2C20 + p) 0x10 = satInc 32 (s.obj (0x2C20 + p) 0x10) ∧ (v.port p).wantReplay = true ∧ (v.port p).rxNext = (s.port p).rxNext ∧
  (v.port p).ingress = (s.port p).ingress

/-- Block b leaves port p, scrambled under sync header 01: alone without FEC; with it as one of the five of a codeword, which leaves with the
fifth under the next codeword count (R235, R245). -/
def Sent (s v : State) (p : Nat) (b : BitVec 1024) : Prop :=
  let y := s.port p
  let x : BitVec 1026 := (scramble b y.txScram).1 ++ 1#2
  crc32Block b = blockCrc b ∧
  (y.fec = false → v.outbox = s.outbox ++ [.block p x]) ∧
  (y.fec = true → y.fecOut.length < 4 → v.outbox = s.outbox ∧ (v.port p).fecOut = y.fecOut ++ [x]) ∧
  (y.fec = true → 4 ≤ y.fecOut.length → v.outbox = s.outbox ++ [.codeword p (y.fecOut ++ [x]) y.fecNext] ∧ (v.port p).fecOut = [] ∧
    (v.port p).fecNext = y.fecNext + 1)

/-- Port p has lost its partner: absent or shut down, nothing staged, its devices in the absent map (R255, R256). -/
def PartnerLost (s v : State) (p : Nat) (st : PState) (code level : Nat) : Prop :=
  (v.port p).state = st ∧ (v.port p).retrain = false ∧ (v.port p).staging = [] ∧ (v.port p).announced = none ∧
  (v.port p).absentSet = s.devicesBehind p ∧ ∃ e ∈ v.col.detected, e.src = srcId 21 p ∧ e.code = code ∧ e.level = level

/-- No port but p has an announce that counts. -/
def OnlyAnnounce (s : State) (p : Nat) : Prop :=
  ∀ q < 8, q ≠ p → (s.port q).state ≠ .connected ∨ (s.port q).announced = none ∨ 2 ≤ (s.port q).kind

/-- The part is no source and may not become one. -/
def PlainFollower (s : State) : Prop := s.time.master = false ∧ s.time.takenOver = false ∧ s.straps.tmstr = false

/-! ### The management paths and the host -/

/-- The mailbox command cmd has completed with a code; asked to notify while vector 0 is masked, it sets the vector's pending bit
(R318, R340, Table 16.3). -/
def MbDone (s v : State) (cmd : BitVec 32) (code : Nat) : Prop :=
  let m := v.host.mb
  m.busy = false ∧ m.done = true ∧ m.seq = cmd.extractLsb' 16 16 ∧ m.abort = BitVec.ofNat 32 code ∧
  (cmd.getLsbD 3 = true → s.host.unmasked.getLsbD 0 = false → v.host.pendingBits.getLsbD 0 = true) ∧
  (code ≠ 0 → ∃ e, v.col.detected = s.col.detected ++ [e] ∧ e.src = srcId 25 7 ∧ e.code = 0x40 ∧ e.level = 2 ∧
    e.d0 = 256 * s.host.mb.object.1 + s.host.mb.object.2 ∧ e.d1 = code)

/-- Command i is a mailbox command that completes with a code and changes no object; q holds of its result. -/
def MbEnds (i : Instr) (s : State) (cmd : BitVec 32) (code : Nat) (q : State → Prop) : Prop :=
  ∃ v, exec i s = .next v ∧ MbDone s v cmd code ∧ v.objs = s.objs ∧ q v

/-- s with an unsupported request recorded (R335, R337). -/
def unsupported (s : State) : State := { s with host := { s.host with aer := s.host.aer ||| 2 } }

/-- A channel's state as its registers stand between descriptors, its function in service (R341, Table 17.5). -/
def settledDma (x : Dma) : Dma :=
  { x with state := if x.error = true then 3 else if x.enable = false then 0 else if x.pause = true then 2 else if x.head = x.tail then 0 else 1 }

/-- Channel c has completed the descriptor at its tail in error: the code, no word after the first `done`, the error address, state 3,
event 0x40 (R344, Table 17.5). -/
def DmaStops (s v : State) (c code done : Nat) (space offset : Nat) : Prop :=
  let x := s.dma c
  let y := v.dma c
  y.error = true ∧ y.state = 3 ∧ y.code = BitVec.ofNat 4 code ∧ y.tail = BitVec.ofNat 16 ((x.tail.toNat + 1) % 2 ^ x.size.toNat) ∧
  y.completed = satInc 32 x.completed ∧ y.addr = BitVec.ofNat 40 (space * 2 ^ 36 + (offset + done)) ∧
  Output.descriptorStatus c (BitVec.ofNat 4 code) done ∈ v.outbox ∧ LastEvent s v (srcId 22 (1 + c)) 0x40 2

/-- s with the transactions of the host interface counted by its pools as a and b say (R219, R222). -/
def pooled (s : State) (a b : Tab Nat) : State := { s with noc := { s.noc with poolSent := a, poolRecv := b } }

/-- The pool of the host interface at the unit that holds a word has credits for a request of `flits` flits, and nothing is injected (R219). -/
def PoolReady (s : State) (p : HostWord) (flits : Nat) : Prop :=
  s.col.armed = false ∧ ∀ t, hostTarget p = some t → tget 0 s.noc.poolUsed (64 * t + 44) + flits ≤ 28

/-- It has not, so that the transaction ends with TMO (R219, R223). -/
def PoolEmpty (s : State) (p : HostWord) (flits : Nat) : Prop :=
  ∃ t, hostTarget p = some t ∧ 28 < tget 0 s.noc.poolUsed (64 * t + 44) + flits

/-- Flits of a request that writes n words, 64 in one transaction at most (R213, R344). -/
def writeFlits (n : Nat) : Nat := requestFlits 0x22 (min n 64)

/-- No memory of the part has changed. -/
def SameMemory (s v : State) : Prop :=
  v.hbm = s.hbm ∧ v.hbmGone = s.hbmGone ∧ (∀ c, v.cluster c = s.cluster c) ∧ ∀ g, (v.engine g) = s.engine g

/-! ### Resets, start-up, firmware, boundary scan -/

/-- What a power-on reset leaves as it was: the retirement list, the logbook's ring and pinned entries, the firmware slots, the saved
defaults, the TAP; everything else is at its reset value, the part OFF (R346, Table 17.7). -/
def PoweredOff (s v : State) : Prop :=
  v.dev = .off ∧ v.porst = true ∧ v.objs = [] ∧ v.engines = [] ∧ v.clusters = [] ∧ v.flights = [] ∧ v.hbm = [] ∧ v.bog = [] ∧ v.ports = [] ∧
  v.txn = Txn.reset ∧ v.time = TimeBase.reset ∧ v.trace = Trace.reset ∧ v.noc = Noc.reset ∧
  v.retired = s.retired ∧ v.col.ring = s.col.ring ∧ v.col.pinned = s.col.pinned ∧ v.fw.slots = s.fw.slots ∧ v.fw.preferred = s.fw.preferred ∧
  v.fw.nv = s.fw.nv ∧ v.tap = s.tap

/-- The host interface alone has been reset: its mailbox, apertures and DMA channels, and the transaction that PCIe owns (R329, R346, R347). -/
def HostReset (s v : State) : Prop :=
  v.host.bootStatus = 0 ∧ v.host.msix = [] ∧ v.host.bars = HostIf.reset.bars ∧ v.host.mb = Mailbox.reset ∧ v.host.dma = HostIf.reset.dma ∧ v.host.aperture = HostIf.reset.aperture ∧ v.host.unmasked = 0 ∧ v.host.d3hot = false ∧
  (s.txn.owner = some .pcie → 1 ≤ s.txn.status → s.txn.status ≤ 3 → v.txn.status = 5 ∧ v.txn.staged = []) ∧
  (s.txn.owner ≠ some .pcie → v.txn = s.txn) ∧
  v.objs.filter (fun x => x.1 ≠ 256 * 0x3500 + 3) = s.objs.filter (fun x => x.1 ≠ 256 * 0x3500 + 3) ∧
  v.engines = s.engines ∧ v.flights = s.flights ∧ v.hbm = s.hbm ∧ v.clusters = s.clusters ∧ v.col = s.col ∧ v.ports = s.ports ∧ v.domains = s.domains

/-- Every check of start-up passes (R349, R350). -/
def CleanStart (t : SelfTest) : Prop := t.railBad = false ∧ t.failed = [] ∧ t.alwaysOn = false ∧ t.bist = []

/-- An instruction that takes control of the pins (R371). -/
def controls (i : TapInstr) : Bool :=
  match i with
  | .extest | .pulse | .train | .clamp | .highz => true
  | _ => false

/-- No TAP instruction controls the pins while PORST_N is high (R371). -/
def TapQuiet (s : State) : Prop := controls s.tap.instr = true → s.porst = true

end Sys2Proof.Claims

open Sys2Proof.Claims

/-- R126, R127: ADD, ADC, SUB, SBB, CMP, NEG, ADX, ADY, AND, OR, XOR, ANDN, TST and NOT give A, X, Y and F the values of Table 6.4,
change nothing else of the pipeline but the index register of the mode, and no byte of memory. -/
def Obligations.ArithmeticResults : Prop := RowsComplete arithmeticRows

/-- R126, R127: SHL, SHR, SAR, ROL, SHLP and SHRP. -/
def Obligations.ShiftResults : Prop := RowsComplete shiftRows

/-- R128, R129: MUL, MULU, DIV, DIVU, DIVL and DIVLU. -/
def Obligations.MultiplyDivideResults : Prop := RowsComplete multiplyDivideRows

/-- R123, R124, R104: LD, LDR, LDN, LDHF and LDP. In modes 001 to 110 the register takes the word, the nonet or the half after one
delay slot; LD in modes 000 and 111 and LDR in mode 000 write at once. -/
def Obligations.LoadResults : Prop :=
  ∀ (g : BitVec 9) (s t u : State) (w m h : Word),
    (Stands s g.toNat 0x001 w t → Operand t g.toNat w m u →
      if modeOf w = 0 ∨ modeOf w = 7 then Done (.ld g) s g.toNat u { indexed u g.toNat w with a := m } .seq []
      else Done (.ld g) s g.toNat u (indexed u g.toNat w) .seq [delayed 0 m]) ∧
    (Stands s g.toNat 0x002 w t → modeOf w = 0 →
      Done (.ldr g) s g.toNat t ((t.core g.toNat).setReg (w.extractLsb' 12 3).toNat (addrWord w)) .seq []) ∧
    (Stands s g.toNat 0x002 w t → modeOf w ≠ 0 → Operand t g.toNat w m u →
      Done (.ldr g) s g.toNat u (indexed u g.toNat w) .seq [delayed (w.extractLsb' 12 3).toNat m]) ∧
    (Stands s g.toNat 0x003 w t → t.engineRead g.toNat (effective t g.toNat w) (1#5 <<< (w.extractLsb' 12 2).toNat) = (some m, u) →
      Done (.ldn g) s g.toNat u (indexed u g.toNat w) .seq
        [delayed 0 (BitVec.ofNat 36 (m.toNat / 2 ^ (9 * (w.extractLsb' 12 2).toNat) % 2 ^ 9))]) ∧
    (Stands s g.toNat 0x004 w t → t.engineRead g.toNat (effective t g.toNat w) (3#5 <<< (2 * (w.extractLsb' 12 1).toNat)) = (some m, u) →
      Done (.ldhf g) s g.toNat u (indexed u g.toNat w) .seq
        [delayed 0 (BitVec.ofNat 36 (m.toNat / 2 ^ (18 * (w.extractLsb' 12 1).toNat) % 2 ^ 18))]) ∧
    (Stands s g.toNat 0x005 w t → effective t g.toNat w % 2 = 0 →
      t.engineReads g.toNat (effective t g.toNat w) 2 = (.inr [m, h], u) →
      Done (.ldp g) s g.toNat u (indexed u g.toNat w) .seq [delayed 0 m, delayed 1 h])

/-- R123 to R125: ST, STR, STN, STHF and STP store at the effective address and change no register but the index register of the
mode; ST in mode 111 writes the register; XADD and SWAP read and write their word in banks 1 and 2 and leave the old word in A. -/
def Obligations.StoreResults : Prop :=
  ∀ (g : BitVec 9) (s t u : State) (w m : Word),
    (∀ r ∈ storeRows, Stands s g.toNat r.op w t → modeOf w ≠ 7 → MayStore t g.toNat (effective t g.toNat w) →
      Done (r.instr g) s g.toNat (t.writeLocal g.toNat (effective t g.toNat w) (r.cover w) (r.value w (t.core g.toNat)))
        (indexed t g.toNat w) .seq []) ∧
    (Stands s g.toNat 0x008 w t → modeOf w = 7 →
      Done (.st g) s g.toNat t ((t.core g.toNat).setReg (codeOf w) (t.core g.toNat).a) .seq []) ∧
    (Stands s g.toNat 0x00C w t → effective t g.toNat w % 2 = 0 → MayStore t g.toNat (effective t g.toNat w) →
      Done (.stp g) s g.toNat
        ((t.writeLocal g.toNat (effective t g.toNat w) 15 (t.core g.toNat).a).writeLocal g.toNat (effective t g.toNat w + 1) 15
          (t.core g.toNat).h) (indexed t g.toNat w) .seq []) ∧
    (0x8000 ≤ effective t g.toNat w → effective t g.toNat w < 0x18000 →
      t.engineRead g.toNat (effective t g.toNat w) 31 = (some m, u) →
      (Stands s g.toNat 0x030 w t →
        Done (.xadd g) s g.toNat (u.writeLocal g.toNat (effective t g.toNat w) 15 (m + (t.core g.toNat).a))
          { indexed t g.toNat w with a := m } .seq []) ∧
      (Stands s g.toNat 0x031 w t →
        Done (.swap g) s g.toNat (u.writeLocal g.toNat (effective t g.toNat w) 15 (t.core g.toNat).a)
          { indexed t g.toNat w with a := m } .seq []))

/-- R198, R196: a store changes the nonets it covers, each with fresh check bits, and no other cell of any local store, in a state
whose correction buffers hold at most one word a bank (CorrectionBuffers). -/
def Obligations.StoreFrame : Prop :=
  ∀ (t : State) (g adr : Nat) (cover : BitVec 4) (v : Word),
    (((t.engine g).corr.map Prod.fst).Nodup →
      (∀ a, a ≠ adr → ((t.writeLocal g adr cover v).engine g).cell a = (t.engine g).cell a) ∧
      (∀ n < 4, groupOf (((t.writeLocal g adr cover v).engine g).cell adr) n =
        if cover.getLsbD n then encodeNonet adr n (v.extractLsb' (9 * n) 9) else groupOf ((t.engine g).cell adr) n)) ∧
    (∀ k, k ≠ g → (t.writeLocal g adr cover v).engine k = t.engine k) ∧
    (t.writeLocal g adr cover v).core g = t.core g ∧ (t.writeLocal g adr cover v).tu g = t.tu g ∧
    { t.writeLocal g adr cover v with engines := t.engines } = t

/-- R196: the correction buffers of every engine hold at most one word a bank after reset, and every local read and every local
write keeps that; R192 to R195: with no injection armed, a word that stands in a local store as it was written is read as it was written,
and its read changes nothing. -/
def Obligations.CorrectionBuffers : Prop :=
  let one : State → Prop := fun s => ∀ k, ((s.engine k).corr.map Prod.fst).Nodup
  one State.reset ∧
  ∀ (s : State) (g adr : Nat),
    (one s → (∀ inside, one (s.readLocal g adr inside).2) ∧ (∀ cover v, one (s.writeLocal g adr cover v))) ∧
    ∀ (inside : BitVec 5) (v : Word), s.col.armed = false → s.retiredPage g adr = false → (s.engine g).cell adr = encodeWord adr v →
      s.readLocal g adr inside = (.ok v, s)

/-- R104, R101, R108, R109: what completion makes of the pipeline. A load started one slot ago reaches its register and one started
now waits; sequential flow goes to the next address, and past 0x7FFF at the last; a jump goes to its target; at the end of an open
loop the count falls, and control goes back until it was 1; handler mode makes no end check. -/
def Obligations.Completion : Prop :=
  ∀ (c : Core) (pc : BitVec 15), c.loopWrites = [] → c.delay = [] →
    (∀ (code : BitVec 4) (v : Word) (t : BitVec 15), code.toNat < 4 →
      (c.complete pc (.jump t) [delayed code.toNat v]).delay = [delayed code.toNat v] ∧
      (c.complete pc (.jump t) [delayed code.toNat v]).reg code.toNat = c.reg code.toNat ∧
      ∀ t' : BitVec 15, ((c.complete pc (.jump t) [delayed code.toNat v]).complete t (.jump t') []).reg code.toNat = v ∧
        ((c.complete pc (.jump t) [delayed code.toNat v]).complete t (.jump t') []).delay = []) ∧
    (∀ t, c.complete pc (.jump t) [] = { c with pc := t }) ∧
    (c.handler = true ∨ c.loops.lst = 0 → c.complete pc .seq [] = if pc = 0x7FFF then { c with pc := pc, past := true } else { c with pc := pc + 1 }) ∧
    (c.handler = false → ∀ m, (h : m < 3) → c.loops.lst.toNat = m + 1 → c.loops.le[m] = pc → c.loops.lc[m] ≠ 1 →
      c.complete pc .seq [] = { c with loops := { c.loops with lc := c.loops.lc.set m (c.loops.lc[m] - 1) }, pc := c.loops.ls[m] }) ∧
    (c.handler = false → ∀ m, (h : m < 3) → c.loops.lst.toNat = m + 1 → c.loops.le[m] = pc → c.loops.lc[m] = 1 →
      ((∀ j, (hj : j < 3) → j + 1 = m → c.loops.le[j] ≠ pc) →
        let d : Core := { c with loops := { c.loops with lc := c.loops.lc.set m 0, lst := BitVec.ofNat 2 m } }
        c.complete pc .seq [] = if pc = 0x7FFF then { d with pc := pc, past := true } else { d with pc := pc + 1 }) ∧
      (∀ j, (hj : j < 3) → j + 1 = m → c.loops.le[j] = pc → c.loops.lc[j] ≠ 1 →
        c.complete pc .seq [] = { c with loops := { c.loops with lc := (c.loops.lc.set m 0).set j (c.loops.lc[j] - 1), lst := BitVec.ofNat 2 m },
                                         pc := c.loops.ls[j] }))

/-- R131, R106: the sixteen jumps transfer on the flags of Table 6.7 and write nothing; CALL leaves the next address in L, RET goes
to L. -/
def Obligations.JumpResults : Prop :=
  ∀ (g : BitVec 9) (s t : State) (w : Word),
    (∀ r ∈ jumpRows, Stands s g.toNat r.op w t →
      let f := (t.core g.toNat).f
      Done (r.instr g) s g.toNat t (t.core g.toNat)
        (if r.taken (f.getLsbD 0) (f.getLsbD 1) (f.getLsbD 2) (f.getLsbD 3) (f.getLsbD 4) then .jump (target (t.core g.toNat) w) else .seq) []) ∧
    (Stands s g.toNat 0x090 w t → (t.core g.toNat).pc ≠ 0x7FFF →
      Done (.call g) s g.toNat t { t.core g.toNat with l := (t.core g.toNat).pc + 1 } (.jump (target (t.core g.toNat) w)) []) ∧
    (Stands s g.toNat 0x090 w t → (t.core g.toNat).pc = 0x7FFF → TrapOpen t g.toNat →
      Traps (.call g) s g.toNat t 0 0x7FFF 0x7FFF) ∧
    (Stands s g.toNat 0x091 w t → Done (.ret g) s g.toNat t (t.core g.toNat) (.jump (t.core g.toNat).l) [])

/-- R108, R110, R132: LPS opens the next level, skips the body on a zero count, and is illegal where its conditions fail; BRKL
closes the innermost level. -/
def Obligations.LoopResults : Prop :=
  ∀ (g : BitVec 9) (s t : State) (w : Word),
    let c := t.core g.toNat
    let n := (w.extractLsb' 22 2).toNat
    let cnt : BitVec 24 := if modeOf w = 7 then c.a.extractLsb' 0 24 else (w.extractLsb' 12 10).zeroExtend 24
    let last := c.pc.toNat + 1 + (w.extractLsb' 0 12).toNat
    let may := c.handler = false ∧ n < 3 ∧ n = c.loops.lst.toNat ∧ last ≤ 0x7FFF ∧ ∀ i, (h : i < 3) → i < n → c.loops.le[i] ≠ c.pc
    (Stands s g.toNat 0x094 w t → may → cnt ≠ 0 →
      Done (.lps g) s g.toNat t
        { c with loops := { ls := c.loops.ls.setIfInBounds n (c.pc + 1), le := c.loops.le.setIfInBounds n (BitVec.ofNat 15 last),
                            lc := c.loops.lc.setIfInBounds n cnt, lst := BitVec.ofNat 2 (n + 1) } } (.jump (c.pc + 1)) []) ∧
    (Stands s g.toNat 0x094 w t → may → cnt = 0 → last < 0x7FFF →
      Done (.lps g) s g.toNat t c (.jump (BitVec.ofNat 15 (last + 1))) []) ∧
    (Stands s g.toNat 0x094 w t → n ≠ c.loops.lst.toNat → TrapOpen t g.toNat →
      Traps (.lps g) s g.toNat t 0 c.pc (c.pc.zeroExtend 36)) ∧
    (Stands s g.toNat 0x095 w t → c.handler = false → ∀ m, (h : m < 3) → c.loops.lst.toNat = m + 1 → c.loops.le[m] ≠ 0x7FFF →
      Done (.brkl g) s g.toNat t { c with loops := { c.loops with lst := BitVec.ofNat 2 m } } (.jump (c.loops.le[m] + 1)) []) ∧
    (Stands s g.toNat 0x095 w t → c.loops.lst = 0 → TrapOpen t g.toNat →
      Traps (.brkl g) s g.toNat t 0 c.pc (c.pc.zeroExtend 36))

/-- R133: MOVS and FILLS process C elements; CMPS stops at the first difference, SCANS at the first hit, and their flags say which. -/
def Obligations.StringResults : Prop :=
  ∀ (g : BitVec 9) (s t u r v' : State) (w x y : Word) (k : Nat),
    let c := t.core g.toNat
    let st := stringBy w
    (Stands s g.toNat 0x098 w t → Moves g.toNat st c.c.toNat c.x c.y t u →
      Done (.movs g) s g.toNat u (strung c st c.c.toNat true true) .seq []) ∧
    (Stands s g.toNat 0x099 w t → Fills g.toNat st c.a c.c.toNat c.y t u →
      Done (.fills g) s g.toNat u (strung c st c.c.toNat false true) .seq []) ∧
    (Stands s g.toNat 0x09A w t → Equals g.toNat st k c.x c.y t u →
      (k = c.c.toNat → Done (.cmps g) s g.toNat u { strung c st k true true with f := withZC c.f true false } .seq []) ∧
      (k < c.c.toNat → u.engineRead g.toNat ((strung c st k true true).x.toNat % 0x20000) 31 = (some x, r) →
        r.engineRead g.toNat ((strung c st k true true).y.toNat % 0x20000) 31 = (some y, v') → x ≠ y →
        Done (.cmps g) s g.toNat v' { strung c st k true true with f := withZC c.f false (decide (x.toNat < y.toNat)) } .seq [])) ∧
    (Stands s g.toNat 0x09B w t → Passes g.toNat st c.a (w.getLsbD 12) k c.x t u →
      (k = c.c.toNat → Done (.scans g) s g.toNat u { strung c st k true false with f := withZC c.f false (c.f.getLsbD 0) } .seq []) ∧
      (k < c.c.toNat → u.engineRead g.toNat ((strung c st k true false).x.toNat % 0x20000) 31 = (some x, r) →
        (x = c.a ↔ w.getLsbD 12 = false) →
        Done (.scans g) s g.toNat r { strung c st k true false with f := withZC c.f true (c.f.getLsbD 0) } .seq []))

/-- R99, R140, R98: NOP, MFS and MTS: every special register of Table 5.4 reads as it stands, a writable one takes A, and an
unlisted or read-only number is illegal. -/
def Obligations.SpecialRegisters : Prop :=
  ∀ (g : BitVec 9) (s t : State) (w : Word),
    let c := t.core g.toNat
    let n := (w.extractLsb' 0 7).toNat
    (Stands s g.toNat 0x1C0 w t → Done (.nop g) s g.toNat t c .seq []) ∧
    (Stands s g.toNat 0x1C1 w t →
      (∀ x ∈ specials, n = x.1 → Done (.mfs g) s g.toNat t { c with a := x.2 t c } .seq []) ∧
      (n = 0x14 → Done (.mfs g) s g.toNat t { c with a := BitVec.ofNat 36 (t.logical g.toNat t.noc.gen) } .seq []) ∧
      (∀ i, (h : i < 64) → n = 0x20 + i → (c.seg[i / 16]).outstanding = false → Done (.mfs g) s g.toNat t { c with a := c.mb[i] } .seq []) ∧
      (0x15 < n ∧ n < 0x20 ∨ 0x60 ≤ n → TrapOpen t g.toNat → Traps (.mfs g) s g.toNat t 0 c.pc (c.pc.zeroExtend 36))) ∧
    (Stands s g.toNat 0x1C2 w t →
      (∀ x ∈ writables, n = x.1 → Done (.mts g) s g.toNat t (x.2 c c.a) .seq []) ∧
      (n = 0x04 → (c.a.extractLsb' 10 3).toNat < 5 →
        Done (.mts g) s g.toNat t { c with fsr := c.a.extractLsb' 18 1 ++ c.fsr.extractLsb' 15 3 ++ c.a.extractLsb' 0 15 } .seq []) ∧
      (n = 0x04 → 5 ≤ (c.a.extractLsb' 10 3).toNat → TrapOpen t g.toNat → Traps (.mts g) s g.toNat t 0 c.pc (c.pc.zeroExtend 36)) ∧
      (n ≠ 0x04 → (∀ x ∈ writables, n ≠ x.1) → TrapOpen t g.toNat → Traps (.mts g) s g.toNat t 0 c.pc (c.pc.zeroExtend 36)))

/-- R113, R114, R105, R140: TRAP takes the trap 32 + n and names the next instruction; in handler mode it stops the engine with
event 0x1F at level 3. RETT restores F and the PC, gives the registers under a load shadow their pre-load value back and lets those
loads go on; outside handler mode it is illegal. -/
def Obligations.TrapAndReturn : Prop :=
  ∀ (g : BitVec 9) (s t : State) (w : Word),
    let c := t.core g.toNat
    let n : BitVec 6 := 0x20#6 ||| (w.extractLsb' 0 5).zeroExtend 6
    (Stands s g.toNat 0x1C3 w t → TrapOpen t g.toNat → Traps (.trap g) s g.toNat t n (c.pc + 1) 0) ∧
    (Stands s g.toNat 0x1C3 w t → c.handler = true → c.fpu = none →
      ∃ v, exec (.trap g) s = .next v ∧ CoreBecomes { t with col := v.col } g.toNat { c with stopped := true } v ∧
        ∃ e, v.col.detected = t.col.detected ++ [e] ∧ e.src = g.toNat ∧ e.code = 0x1F ∧ e.level = 3 ∧
          e.d0 = c.pc.toNat + 2 ^ 15 * n.toNat ∧ e.d1 = c.node) ∧
    (Stands s g.toNat 0x1C4 w t → c.handler = true → c.delay = [] →
      Done (.rett g) s g.toNat t
        { c.shadow.foldr (fun x d => d.commitLoad x.load.reg x.before) { c with f := c.tf, pc := c.tpc, past := false, handler := false }
          with shadow := [] } .returned (c.shadow.map (·.load))) ∧
    (Stands s g.toNat 0x1C4 w t → TrapOpen t g.toNat → Traps (.rett g) s g.toNat t 0 c.pc (c.pc.zeroExtend 36))

/-- R120, R101, R144: a word with a reserved opcode, an unlisted mode or a non-zero reserved field traps with cause 0, and so does
flow past 0x7FFF, with TPC 0x7FFF and TINFO 0x8000; a word R120 allows is no illegal instruction. -/
def Obligations.IllegalInstructions : Prop :=
  ∀ (g : BitVec 9) (s t : State) (w : Word), s.issuing g.toNat = true → TrapOpen s g.toNat →
    ((s.core g.toNat).past = false → s.readLocal g.toNat (s.core g.toNat).pc.toNat 31 = (.ok w, t) →
      (legal w = false → Traps (.illegalInstruction g) s g.toNat t 0 (s.core g.toNat).pc ((s.core g.toNat).pc.zeroExtend 36)) ∧
      (legal w = true → exec (.illegalInstruction g) s = .next s)) ∧
    ((s.core g.toNat).past = true → Traps (.illegalInstruction g) s g.toNat s 0 0x7FFF 0x8000)

/-- R103, R125, R195, Tables 5.5 and 5.10: a pair at an odd address traps with cause 2, a store into bank 0 with cause 1, an
uncorrectable operand with cause 3, TINFO the address and TPC the instruction; XADD and SWAP outside banks 1 and 2 are illegal. -/
def Obligations.AddressTraps : Prop :=
  ∀ (g : BitVec 9) (s t u : State) (w : Word),
    let pc := (t.core g.toNat).pc
    let adr := effective t g.toNat w
    TrapOpen t g.toNat →
    (adr % 2 = 1 → (Stands s g.toNat 0x005 w t → Traps (.ldp g) s g.toNat t 2 pc (BitVec.ofNat 36 adr)) ∧
      (Stands s g.toNat 0x00C w t → Traps (.stp g) s g.toNat t 2 pc (BitVec.ofNat 36 adr))) ∧
    (adr < 0x8000 → (∀ r ∈ storeRows, Stands s g.toNat r.op w t → modeOf w ≠ 7 →
        Traps (r.instr g) s g.toNat t 1 pc (BitVec.ofNat 36 adr)) ∧
      (Stands s g.toNat 0x00C w t → adr % 2 = 0 → Traps (.stp g) s g.toNat t 1 pc (BitVec.ofNat 36 adr))) ∧
    (t.engineRead g.toNat adr 31 = (none, u) → modeOf w ≠ 0 → modeOf w ≠ 7 →
      (∀ r ∈ arithmeticRows ++ shiftRows ++ multiplyDivideRows, r.op ≠ 0x015 → r.op ≠ 0x01D → Stands s g.toNat r.op w t →
        Traps (r.instr g) s g.toNat u 3 pc (BitVec.ofNat 36 adr)) ∧
      (Stands s g.toNat 0x001 w t → Traps (.ld g) s g.toNat u 3 pc (BitVec.ofNat 36 adr)) ∧
      (Stands s g.toNat 0x002 w t → Traps (.ldr g) s g.toNat u 3 pc (BitVec.ofNat 36 adr))) ∧
    (adr < 0x8000 ∨ 0x18000 ≤ adr →
      (Stands s g.toNat 0x030 w t → Traps (.xadd g) s g.toNat t 0 pc (pc.zeroExtend 36)) ∧
      (Stands s g.toNat 0x031 w t → Traps (.swap g) s g.toNat t 0 pc (pc.zeroExtend 36)))

/-- R145 to R147, R149: the gate primitives write V net by net from Tables 7.2 and 7.3, VMUX and VLUT from their rules, and leave A, F
and memory as they were. -/
def Obligations.VectorGates : Prop :=
  ∀ (g : BitVec 9) (s t u : State) (w : Word) (p q : Vec),
    let v := (t.core g.toNat).v
    (∀ r ∈ accumulatorRows, Stands s g.toNat r.op w t → OperandP t g.toNat w v p u →
      ∃ x : Vec, (∀ j < 144, net x j = r.out (net v j) (net p j)) ∧ Done (r.instr g) s g.toNat u { indexed u g.toNat w with v := x } .seq []) ∧
    (∀ r ∈ pairRows, Stands s g.toNat r.op w t → OperandsPQ t g.toNat w ((w.extractLsb' 12 12).signExtend 36) p q u →
      ∃ x : Vec, (∀ j < 144, net x j = r.out (net p j) (net q j)) ∧ Done (r.instr g) s g.toNat u { u.core g.toNat with v := x } .seq []) ∧
    (Stands s g.toNat 0x116 w t → OperandsPQ t g.toNat w ((w.extractLsb' 12 12).signExtend 36) p q u →
      ∃ x : Vec, (∀ j < 144, net x j = muxNet (net v j) (net p j) (net q j)) ∧
        Done (.vmux g) s g.toNat u { u.core g.toNat with v := x } .seq []) ∧
    (Stands s g.toNat 0x118 w t → OperandsPQ t g.toNat w (BitVec.ofInt 36 (8 * (w.extractLsb' 12 4).toInt)) p q u →
      ∃ x : Vec, (∀ i < 288, x.getLsbD i = (w.extractLsb' 16 8).getLsbD (4 * (v.getLsbD i).toNat + 2 * (p.getLsbD i).toNat + (q.getLsbD i).toNat)) ∧
        Done (.vlut g) s g.toNat u { u.core g.toNat with v := x } .seq [])

/-- R148, R150 to R154, R157: VLD reaches V after two delay slots, VST stores V, VSPL spreads A, VCMP marks the words that differ,
VCNT adds the count of Table 7.7, and VGATH, VPERM and VSCAT move the elements their index table names. -/
def Obligations.VectorMoves : Prop :=
  ∀ (g : BitVec 9) (s t u r : State) (w : Word) (p : Vec) (table region : List Word),
    let c := t.core g.toNat
    let v := c.v
    let b := widthOf w
    let len := (w.extractLsb' 21 3).toNat + 1
    let n := len * elementsOf w
    let words := 8 * (if b = 2 then 6 else 12)
    let near := nearAddress c w (addrWord w)
    let far := farAddress c w (BitVec.ofInt 36 (8 * (w.extractLsb' 12 8).toInt))
    (Stands s g.toNat 0x100 w t → VectorAt t g.toNat (effective t g.toNat w) p u →
      Done (.vld g) s g.toNat u (indexed u g.toNat w) .seq [{ reg := 8, slots := 2, value := p }]) ∧
    (Stands s g.toNat 0x101 w t → effective t g.toNat w % 8 = 0 → MayStore t g.toNat (effective t g.toNat w) →
      Done (.vst g) s g.toNat (t.writeLocals g.toNat (effective t g.toNat w) (listOfVec v)) (indexed t g.toNat w) .seq []) ∧
    (Stands s g.toNat 0x102 w t → ∃ x : Vec, (∀ i < 8, x.extractLsb' (36 * i) 36 = c.a) ∧ Done (.vspl g) s g.toNat t { c with v := x } .seq []) ∧
    (Stands s g.toNat 0x128 w t → VectorAt t g.toNat (effective t g.toNat w) p u →
      ∃ a : Word, (∀ i < 36, a.getLsbD i = decide (i < 8 ∧ v.extractLsb' (36 * i) 36 ≠ p.extractLsb' (36 * i) 36)) ∧
        Done (.vcmp g) s g.toNat u
          { indexed u g.toNat w with a := a, f := flagWord (c.f.getLsbD 0) (decide (a = 0)) false (c.f.getLsbD 3) (c.f.getLsbD 4) } .seq []) ∧
    (Stands s g.toNat 0x129 w t → OperandP t g.toNat w 0 p u →
      let k := (w.extractLsb' 12 2).toNat
      let known := fun (x : Vec) j => (net x j).getLsbD 1 = false
      let count := if k = 0 then ((List.range 288).filter (fun i => v.getLsbD i != p.getLsbD i)).length
        else ((List.range 144).filter (fun j => decide (if k = 1 then net v j ≠ net p j
          else if k = 2 then known v j ∧ known p j ∧ net v j ≠ net p j else ¬ known v j))).length
      let a := c.a + BitVec.ofNat 36 count
      Done (.vcnt g) s g.toNat u { indexed u g.toNat w with a := a, f := resultFlags c.f a } .seq []) ∧
    (Stands s g.toNat 0x120 w t → near % 8 = 0 → far % 8 = 0 → t.engineReads g.toNat far words = (.inr table, u) →
      u.engineReads g.toNat near (8 * len) = (.inr region, r) →
      ∃ x : Vec, Gathered b n table region x ∧
        Done (.vgath g) s g.toNat (rangeCounted r g.toNat b n table) { c with v := x } .seq []) ∧
    (Stands s g.toNat 0x122 w t → near % 8 = 0 → t.engineReads g.toNat near words = (.inr table, u) →
      ∃ x : Vec, Gathered b (elementsOf w) table (listOfVec v) x ∧
        Done (.vperm g) s g.toNat (rangeCounted u g.toNat b (elementsOf w) table) { c with v := x } .seq []) ∧
    (Stands s g.toNat 0x121 w t → near % 8 = 0 → far % 8 = 0 → (∀ i < 8 * len, 0x8000 ≤ (near + i) % 0x20000) →
      t.engineReads g.toNat far words = (.inr table, u) → u.engineReads g.toNat near (8 * len) = (.inr region, r) →
      ∃ new, Scattered b n table region (listOfVec v) new ∧
        Done (.vscat g) s g.toNat ((rangeCounted r g.toNat b n table).writeLocals g.toNat near new) c .seq [])

/-- R159 to R162: every FP instruction reads its operands at issue and stands outstanding; A, H, F and memory keep their values. -/
def Obligations.FpIssue : Prop :=
  ∀ (g : BitVec 9) (s t u r : State) (w m n m' n' : Word),
    let near := nearAddress (t.core g.toNat) w (addrWord w)
    let far := farAddress (t.core g.toNat) w ((w.extractLsb' 12 12).signExtend 36)
    let issued := fun (u : State) op p q => { indexed u g.toNat w with fpu := some (outstanding (t.core g.toNat) op p q) }
    (∀ x ∈ fpWordRows, Stands s g.toNat x.2 w t → Operand t g.toNat w m u →
      Done (x.1 g) s g.toNat u (issued u x.2 (m.zeroExtend 72) 0) .seq []) ∧
    (∀ x ∈ fpPairRows, Stands s g.toNat x.2 w t → effective t g.toNat w % 2 = 0 →
      t.engineReads g.toNat (effective t g.toNat w) 2 = (.inr [m, n], u) → Done (x.1 g) s g.toNat u (issued u x.2 (n ++ m) 0) .seq []) ∧
    (∀ x ∈ fpImpliedRows, Stands s g.toNat x.2 w t → Done (x.1 g) s g.toNat t (issued t x.2 0 0) .seq []) ∧
    (∀ x ∈ fpFusedWordRows, Stands s g.toNat x.2 w t → t.engineReads g.toNat near 1 = (.inr [m], u) →
      u.engineReads g.toNat far 1 = (.inr [m'], r) → Done (x.1 g) s g.toNat r (issued r x.2 (m.zeroExtend 72) (m'.zeroExtend 72)) .seq []) ∧
    (∀ x ∈ fpFusedPairRows, Stands s g.toNat x.2 w t → near % 2 = 0 → far % 2 = 0 → t.engineReads g.toNat near 2 = (.inr [m, n], u) →
      u.engineReads g.toNat far 2 = (.inr [m', n'], r) → Done (x.1 g) s g.toNat r (issued r x.2 (n ++ m) (n' ++ m')) .seq [])

/-- R161, R162, R172, R174: FP_COMPLETION delivers the result unless a load has displaced it, ORs the flags into FSR, queues an
enabled exception or, with four queued, sets record lost; an FP trap that is due is taken first (R173); with nothing outstanding it
changes nothing. -/
def Obligations.FpCompletion : Prop :=
  ∀ (g : BitVec 9) (s : State),
    let c := (s.core g.toNat).boundary
    ((s.core g.toNat).fpu = none → exec (.fpCompletion g) s = .next s) ∧
    (∀ o, (s.core g.toNat).fpu = some o →
      let r := o.result c.fpCtl
      let on := r.flags &&& c.fsr.extractLsb' 5 5
      ∃ v d, exec (.fpCompletion g) s = .next v ∧ CoreBecomes s g.toNat d v ∧
        d.a = (if o.drop then c.a else r.a.getD c.a) ∧ d.h = (if o.drop then c.h else r.h.getD c.h) ∧
        d.f = (if o.drop then c.f else match r.f with | some f => f c.f | none => c.f) ∧ d.fpu = none ∧
        d.fpq = (if on ≠ 0 ∧ c.fpq.length < 4 then c.fpq ++ [{ pc := o.pc, set := on }] else c.fpq) ∧
        d.fsr = (c.fsr ||| r.flags.zeroExtend 19 ||| (if on ≠ 0 ∧ 4 ≤ c.fpq.length then 1#19 <<< 18 else 0)) ∧
        { d with a := c.a, h := c.h, f := c.f, fpu := c.fpu, fpq := c.fpq, fsr := c.fsr } = c)

/-- R173: FSYNC completes when no record is queued and in handler mode; with records queued it takes the FP trap, cause 6 and
imprecise, with the oldest record in TINFO. With four records queued the trap comes at any instruction. -/
def Obligations.FpTraps : Prop :=
  ∀ (g : BitVec 9) (s t : State) (w : Word),
    let c := t.core g.toNat
    let trapped := fun (x : FpRecord) (q : List FpRecord) =>
      { c with fpq := q, shadow := [], tpc := c.pc, tcause := 0x86, tinfo := (x.set ++ x.pc).zeroExtend 36, tf := c.f, handler := true, pc := 6, past := false }
    (Stands s g.toNat 0x1B0 w t → c.handler = true ∨ c.fpq = [] → Done (.fsync g) s g.toNat t c .seq []) ∧
    (∀ x q, Stands s g.toNat 0x1B0 w t → c.handler = false → c.delay = [] → c.fpq = x :: q →
      ∃ v, exec (.fsync g) s = .next v ∧ CoreBecomes t g.toNat (trapped x q) v) ∧
    (∀ x q, s.issuing g.toNat = true → (s.core g.toNat).past = false → s.readLocal g.toNat (s.core g.toNat).pc.toNat 31 = (.ok w, t) →
      opOf w = 0x1C0 → legal w = true → c.handler = false → c.delay = [] → c.fpq = x :: q → 3 ≤ q.length →
      ∃ v, exec (.nop g) s = .next v ∧ CoreBecomes t g.toNat (trapped x q) v)

/-- R163: a magnitude m × 2^e rounded to a multiple of 2^q is the nearest one, ties to even (code 0) or away (code 4), or the one the
directed code names (1 to 3); it is exact exactly when nothing is cut off. -/
def Obligations.RoundingCodes : Prop :=
  ∀ (neg : Bool) (m : Nat) (e q : Int), e < q →
    let d := (q - e).toNat
    let k := fun rm => (quantize rm neg m e q).1
    (2 * (k 0 * 2 ^ d) ≤ 2 * m + 2 ^ d ∧ 2 * m ≤ 2 * (k 0 * 2 ^ d) + 2 ^ d) ∧
    (2 * (k 0 * 2 ^ d) = 2 * m + 2 ^ d ∨ 2 * m = 2 * (k 0 * 2 ^ d) + 2 ^ d → k 0 % 2 = 0) ∧
    (2 * (k 4 * 2 ^ d) ≤ 2 * m + 2 ^ d ∧ 2 * m < 2 * (k 4 * 2 ^ d) + 2 ^ d) ∧
    k 1 = m / 2 ^ d ∧
    k 2 = (if neg then m / 2 ^ d else (m + 2 ^ d - 1) / 2 ^ d) ∧ k 3 = (if neg then (m + 2 ^ d - 1) / 2 ^ d else m / 2 ^ d) ∧
    ∀ rm, (quantize rm neg m e q).2 = decide (2 ^ d ∣ m)

/-- R171: rows of Table 8.7 in both formats, to nearest (code 0) and toward zero (code 1). -/
def Obligations.FpExtremes : Prop :=
  Delivers 0x180 0 1 1 0 2 none 0 ∧ Delivers 0x180 0 0x7F7FFFFF 0x7F7FFFFF 0 0x7F800000 none 0b10100 ∧
  Delivers 0x180 1 0x7F7FFFFF 0x7F7FFFFF 0 0x7F7FFFFF none 0b10100 ∧ Delivers 0x180 1 0x7F7FFFFF 0x73000000 0 0x7F7FFFFF none 0b10000 ∧
  Delivers 0x184 0 1 0x3F000000 0 0 none 0b11000 ∧ Delivers 0x184 0 1 0x3FC00000 0 2 none 0b11000 ∧
  Delivers 0x184 1 1 0x3FC00000 0 1 none 0b11000 ∧ Delivers 0x184 0 0x7F7FFFFF 1 0 0x34FFFFFF none 0 ∧
  Delivers 0x186 0 0x7F7FFFFF 0 0 0x7F800000 none 0b00010 ∧ Delivers 0x186 0 1 0x7F7FFFFF 0 0 none 0b11000 ∧
  Delivers 0x188 0 1 0 0 0x1A3504F3 none 0b10000 ∧ Delivers 0x188 1 0x7F7FFFFF 0 0 0x5F7FFFFF none 0b10000 ∧
  Delivers 0x188 0 0x80000001 0 0 0x7FC00000 none 0b00001 ∧
  Delivers 0x194 0 0xFF7FFFFF 0x7F7FFFFF 0x40000000 0x7F7FFFFF none 0 ∧ Delivers 0x194 1 0 1 1 0 none 0b11000 ∧
  Delivers 0x181 0 0x7FEFFFFF0FFFFFFFF 0x7C900000000000000 0 0 (some 0x7FF00000) 0b10100 ∧
  Delivers 0x1A0 0 0x7FEFFFFF0FFFFFFFF 0 0 0x7F800000 none 0b10100 ∧
  Delivers 0x1A1 0 1 0 0 0 (some 0x36A00000) 0 ∧ Delivers 0x1A1 0 0x7F7FFFFF 0 0 0xE0000000 (some 0x47EFFFFF) 0 ∧
  Delivers 0x1A2 0 0x7F7FFFFF 0 0 0x7FFFFFFFF none 0b00001 ∧ Delivers 0x1A2 0 1 0 0 0 none 0b10000 ∧
  Delivers 0x1A4 0 0xFF7FFFFF 0 0 0 none 0b00001 ∧ Delivers 0x1A6 0 0x7FFFFFFFF 0 0 0x51000000 none 0b10000 ∧
  Delivers 0x1A6 1 0x7FFFFFFFF 0 0 0x50FFFFFF none 0b10000 ∧ Delivers 0x1A7 0 0x7FFFFFFFF 0 0 0xFFFC0000 (some 0x421FFFFF) 0 ∧
  Delivers 0x18A 0 1 0x80000001 0 0x80000001 none 0 ∧ Delivers 0x18C 0 0x7F7FFFFF 0x7FC00000 0 0x7F7FFFFF none 0 ∧
  Delivers 0x18C 0 0x7F7FFFFF 0x7F800001 0 0x7F7FFFFF none 0b00001

/-- R116, R117, R138, R139: FLD, FST, FXADD and FSWAP issue their request on a segment that is not outstanding, and change neither A, X,
Y nor F; an outstanding segment stalls them, a reserved space traps with cause 5, and an atomic on space 2 or 3 is illegal. -/
def Obligations.FarInstructions : Prop :=
  ∀ (g : BitVec 9) (s t u : State) (w : Word) (data : List Word),
    let c := t.core g.toNat
    let k := segmentOf w
    let off := offsetOf c w
    let idle := (c.segment k).outstanding = false
    let info : Word := BitVec.ofNat 36 (spaceOf w)
    (spaceOf w < 4 → idle →
      (Stands s g.toNat 0x0A8 w t → ∃ v, FarIssued t g.toNat k (spaceOf w) off 1 (lengthOf w) [] v ∧ Done (.fld g) s g.toNat v (v.core g.toNat) .seq []) ∧
      (Stands s g.toNat 0x0A9 w t → t.engineReads g.toNat (effective t g.toNat w) (lengthOf w) = (.inr data, u) →
        ∃ v, FarIssued u g.toNat k (spaceOf w) off 2 (lengthOf w) data v ∧ Done (.fst g) s g.toNat v (v.core g.toNat) .seq [])) ∧
    (spaceOf w < 2 → idle →
      (Stands s g.toNat 0x0AA w t → ∃ v, FarIssued t g.toNat k (spaceOf w) off 3 1 [c.a] v ∧ Done (.fxadd g) s g.toNat v (v.core g.toNat) .seq []) ∧
      (Stands s g.toNat 0x0AB w t → ∃ v, FarIssued t g.toNat k (spaceOf w) off 4 1 [c.a] v ∧ Done (.fswap g) s g.toNat v (v.core g.toNat) .seq [])) ∧
    ((c.segment k).outstanding = true → Stands s g.toNat 0x0A8 w t → exec (.fld g) s = .next t) ∧
    (idle → 4 ≤ spaceOf w → TrapOpen t g.toNat →
      (Stands s g.toNat 0x0A8 w t → Traps (.fld g) s g.toNat t 5 c.pc info) ∧ (Stands s g.toNat 0x0AA w t → Traps (.fxadd g) s g.toNat t 5 c.pc info) ∧
      (Stands s g.toNat 0x0AB w t → Traps (.fswap g) s g.toNat t 5 c.pc info)) ∧
    (spaceOf w = 2 ∨ spaceOf w = 3 → TrapOpen t g.toNat →
      (Stands s g.toNat 0x0AA w t → Traps (.fxadd g) s g.toNat t 0 c.pc (c.pc.zeroExtend 36)) ∧
      (Stands s g.toNat 0x0AB w t → Traps (.fswap g) s g.toNat t 0 c.pc (c.pc.zeroExtend 36)))

/-- R118: WAITF and FENCE wait while a segment they name is outstanding, trap with cause 4 on the first error not yet reported, and
otherwise complete with the segments reported. -/
def Obligations.SegmentWaits : Prop :=
  ∀ (g : BitVec 9) (s t : State) (w : Word),
    let c := t.core g.toNat
    let k := (w.extractLsb' 0 2).toNat
    let bad := fun (x : Segment) => x.reported = false ∧ 2 ≤ x.code.toNat ∧ x.code.toNat ≤ 6
    let info := fun (j : Nat) (x : Segment) => (x.space ++ BitVec.ofNat 2 j ++ x.code).zeroExtend 36
    (Stands s g.toNat 0x0AC w t →
      ((c.segment k).outstanding = true → exec (.waitf g) s = .next t) ∧
      ((c.segment k).outstanding = false → ¬ bad (c.segment k) →
        Done (.waitf g) s g.toNat t (c.setSegment k { c.segment k with reported := true }) .seq []) ∧
      ((c.segment k).outstanding = false → bad (c.segment k) → TrapOpen t g.toNat →
        Traps (.waitf g) s g.toNat (t.setCore g.toNat (c.setSegment k { c.segment k with reported := true })) 4 c.pc (info k (c.segment k)))) ∧
    (Stands s g.toNat 0x0AD w t →
      ((c.segment 0).outstanding = true → exec (.fence g) s = .next t) ∧
      ((∀ j < 4, (c.segment j).outstanding = false ∧ ¬ bad (c.segment j)) →
        Done (.fence g) s g.toNat t { c with seg := c.seg.map (fun x => { x with reported := true }) } .seq []) ∧
      ((∀ j < 4, (c.segment j).outstanding = false) → bad (c.segment 0) → TrapOpen t g.toNat →
        Traps (.fence g) s g.toNat (t.setCore g.toNat (c.setSegment 0 { c.segment 0 with reported := true })) 4 c.pc (info 0 (c.segment 0))))

/-- R64, R65, R135, R136: EMIT and EMITL send A for a fan-out entry, EMITM sends it for the next epoch when it differs from the
reference word and then writes that word; an index at or above the fan-out count is refused with event 0x1E. A and F keep their
values. -/
def Obligations.TokenInstructions : Prop :=
  ∀ (g : BitVec 9) (s t u r : State) (w ref : Word) (a : Activation) (x : Fan),
    let c := t.core g.toNat
    let j := sendIndex c w
    c.act = some a →
    (j < a.fanout → a.sent < a.fanout → EntryAt t g.toNat a j x u → x.reserved = false →
      (x.moored = false →
        (Stands s g.toNat 0x0A0 w t → ∃ v, TokenSent u g.toNat a x c.a a.epoch v ∧ Done (.emit g) s g.toNat v (v.core g.toNat) .seq []) ∧
        (Stands s g.toNat 0x0A1 w t → x.last = true →
          ∃ v, TokenSent u g.toNat a x c.a a.epoch v ∧ Done (.emitl g) s g.toNat v (v.core g.toNat) .seq [])) ∧
      (x.moored = true → a.stateSrc = true → a.stateBase.toNat ≤ x.reference → x.reference < a.stateBase.toNat + a.stateLen →
        u.engineRead g.toNat x.reference 31 = (some ref, r) → Stands s g.toNat 0x0A2 w t →
        (c.a ≠ ref → ∃ v, TokenSent r g.toNat a x c.a (a.epoch + 1) v ∧
          Done (.emitm g) s g.toNat (v.writeLocal g.toNat x.reference 15 c.a) (v.core g.toNat) .seq []) ∧
        (c.a = ref → ¬ (x.device = r.devId ∧ x.engine = r.logical g.toNat r.noc.gen) → Done (.emitm g) s g.toNat r c .seq []))) ∧
    (a.fanout ≤ j →
      let refused := fun (i : Instr) => ∃ v e, Done i s g.toNat v c .seq [] ∧ v = { t with col := { t.col with detected := t.col.detected ++ [e] } } ∧
        e.src = g.toNat ∧ e.code = 0x1E ∧ e.level = 3 ∧ e.d0 = (a.node.toNat + 2 ^ 14 * j) % 2 ^ 40 ∧ e.d1 = a.epoch % 2 ^ 40
      (Stands s g.toNat 0x0A0 w t → refused (.emit g)) ∧ (Stands s g.toNat 0x0A1 w t → refused (.emitl g)) ∧
      (Stands s g.toNat 0x0A2 w t → refused (.emitm g)))

/-- R66, R112: ENDA ends the activation: no activation runs, the loops are closed, the unused credits come back and the entry and its
window are free; it waits for outstanding segments and is illegal in handler mode. -/
def Obligations.EndOfActivation : Prop :=
  ∀ (g : BitVec 9) (s t : State) (w : Word) (a : Activation),
    let c := t.core g.toNat
    Stands s g.toNat 0x0A3 w t → c.act = some a →
    (c.handler = false → (∀ j < 4, (c.segment j).outstanding = false ∧ (c.segment j).code = 0) → c.fpq = [] → c.delay = [] → a.refire = false →
      ∃ v, exec (.enda g) s = .next v ∧ (v.core g.toNat).act = none ∧ (v.core g.toNat).loops.lst = 0 ∧
        (v.tu g.toNat).credits = min 4096 ((t.tu g.toNat).credits + (a.fanout - a.sent)) ∧
        (∀ r ∈ (v.tu g.toNat).ready, r.running = true → r.q ≠ a.q) ∧ (v.core g.toNat).a = c.a ∧ (v.core g.toNat).f = c.f) ∧
    (c.handler = false → (∃ j < 4, (c.segment j).outstanding = true) → exec (.enda g) s = .next t) ∧
    (c.handler = true → c.fpu = none → ∃ v, exec (.enda g) s = .next v ∧ (v.core g.toNat).stopped = true)

/-- R43, R381: a token that fails a check is dropped, counted and reported at level 3 under its engine with the code of the first check
it fails, and no entry of the matching store changes; a token with a bad CRC-8 is reported at level 1. -/
def Obligations.TokenChecks : Prop :=
  ∀ (g : BitVec 9) (s : State) (q : QueueSrc) (x : Flit),
    let f := tokFlight x.token
    let d := tagDistance (tokTag x.token).toNat (s.tu g.toNat).view
    let dropped := fun code level => ∃ v, exec (.tokenArrival g q) s = .next v ∧ Popped s g.toNat q v ∧ SameStore s v g.toNat ∧
      (∃ e ∈ v.col.detected, e.src = g.toNat ∧ e.code = code ∧ e.level = level) ∧
      v.obj (0x3200 + g.toNat) 0xC % 2 ^ 48 = (s.obj (0x3200 + g.toNat) 0xC % 2 ^ 48 + 1) % 2 ^ 48
    (QueueExists q → s.queueHead g.toNat q = some x → s.clusterRuns (g.toNat / 16) = true → tokClass x.token ≠ 6 → s.col.armed = false →
      tokenSyndrome x.token ≠ 0 → dropped 0x10 1) ∧
    (AtHead s g.toNat q x →
      (x.token.extractLsb' 85 3 ≠ 0 → dropped 0x11 3) ∧
      (x.token.extractLsb' 85 3 = 0 → s.classFault x.ctl x.token = true → dropped 0x12 3) ∧
      (x.token.extractLsb' 85 3 = 0 → s.classFault x.ctl x.token = false →
        (tokDevice x.token ≠ s.devId ∨ s.flightOf (g.toNat / 16) ≠ some f) → dropped 0x15 3) ∧
      (WellAddressed s g.toNat x → (s.flight f).state ≠ .idle → 64 ≤ d → d < 192 → dropped 0x16 3) ∧
      (WellAddressed s g.toNat x → (s.flight f).state ≠ .idle → d < 64 ∨ 192 ≤ d →
        (s.frameSize f ≤ tokSlot x.token ∨ s.slotOwner g.toNat (tokSlot x.token) = none) → dropped 0x14 3)) ∧
    (s.queueHead g.toNat q = none → QueueExists q → exec (.tokenArrival g q) s = .next s) ∧
    (∀ k : BitVec 6, 46 ≤ k.toNat → exec (.tokenArrival g (.partition k)) s = .next s)

/-- R48, R49, Table 3.3: a token for an empty entry of an open epoch is stored there and its node evaluated; an equal value again is
counted and changes nothing; another value, a marked entry or a handled node raises its event and changes nothing; a token behind
the view raises event 0x18; a token beyond the tether goes to the bog and is counted in its epoch's balance. -/
def Obligations.TokenOutcomes : Prop :=
  ∀ (g : BitVec 9) (s u r : State) (q : QueueSrc) (x : Flit) (d n i : Nat) (old : Word) (present mark : Bool),
    let f := tokFlight x.token
    let t := s.tu g.toNat
    let e := t.view + d
    let ix := e % t.frames * s.frameSize f + tokSlot x.token
    AtHead s g.toNat q x → WellAddressed s g.toNat x → Meant s g.toNat q x d n i u →
    (192 ≤ d → ∃ v, exec (.tokenArrival g q) s = .next v ∧ SameStore s v g.toNat ∧ ∃ y ∈ v.col.detected, y.src = g.toNat ∧ y.code = 0x18) ∧
    (d < 64 → t.tether ≤ d → ∃ v, exec (.tokenArrival g q) s = .next v ∧ SameStore s v g.toNat ∧
      tget 0 (v.tu g.toNat).balances (e % 64) = tget 0 t.balances (e % 64) + 1) ∧
    (d < 64 → d < t.tether → u.readEntry g.toNat ix = (some (old, present, mark), r) →
      (present = false → mark = false → tget 0 t.next n ≤ e →
        ∃ w : State, exec (.tokenArrival g q) s = .next (w.evaluateNode g.toNat n) ∧
          (w.engine g.toNat).entry ix = encodeEntry ix (tokValue x.token) true false ∧
          ∀ j, j ≠ ix → (w.engine g.toNat).entry j = (r.engine g.toNat).entry j) ∧
      (present = true → old = tokValue x.token → ∃ v, exec (.tokenArrival g q) s = .next v ∧ SameStore r v g.toNat ∧
        v.obj (0x3200 + g.toNat) 6 % 2 ^ 48 = (r.obj (0x3200 + g.toNat) 6 % 2 ^ 48 + 1) % 2 ^ 48) ∧
      (present = true → old ≠ tokValue x.token → ∃ v, exec (.tokenArrival g q) s = .next v ∧ SameStore r v g.toNat ∧
        (∃ y ∈ v.col.detected, y.src = g.toNat ∧ y.code = 0x19) ∧
        ∃ y ∈ v.col.detected, y.src = g.toNat ∧ y.code = 0x1A ∧ y.d0 = old.toNat ∧ y.d1 = (tokValue x.token).toNat) ∧
      (present = false → mark = true → ∃ v, exec (.tokenArrival g q) s = .next v ∧ SameStore r v g.toNat ∧
        ∃ y ∈ v.col.detected, y.src = g.toNat ∧ y.code = 0x19) ∧
      (present = false → mark = false → e < tget 0 t.next n → ∃ v, exec (.tokenArrival g q) s = .next v ∧ SameStore r v g.toNat ∧
        ∃ y ∈ v.col.detected, y.src = g.toNat ∧ y.code = 0x1B))

/-- R57, R62, Table 3.7, Table 5.9: the head of the ready queue is dispatched: its registers are set from its window, its descriptor and
the FP-control default, and the credits of its fan-out count are taken. -/
def Obligations.Dispatched : Prop :=
  ∀ (g : BitVec 9) (s u : State) (f : Nat) (r : REntry) (d : Desc),
    let k := g.toNat / 16
    let t := s.tu g.toNat
    let window := 0x1F800 + 32 * r.q.toNat
    (s.flightOf k = some f → t.head = some r → (s.core g.toNat).act = none → s.unitStopped g.toNat = false → s.retiredEngine g.toNat = false →
      s.clusterRuns k = true → (s.domain k).contained = false → (s.cluster k).phase ≠ .stopping → (s.flight f).state = .running →
      t.view ≤ r.epoch → r.epoch < t.view + min t.tether (s.journalDepth g.toNat) → r.refire = false → r.epoch < 2 ^ 48 →
      s.readDesc g.toNat r.node.toNat = (some d, u) → d.fanout ≤ t.credits →
      ∃ v, exec (.dispatch g) s = .next v ∧
        let c := v.core g.toNat
        c.pc = d.entry ∧ c.x = BitVec.ofNat 36 window ∧ c.y = 0x17FFF ∧ c.b = 8 ∧ c.a = 0 ∧ c.h = 0 ∧ c.f = 0 ∧ c.v = 0 ∧ c.loops.lst = 0 ∧
        c.ep.toNat = r.epoch ∧ c.fl = BitVec.ofNat 5 f ∧ c.win = BitVec.ofNat 17 window ∧ c.handler = false ∧ c.past = false ∧
        c.fsr.extractLsb' 5 10 = BitVec.ofNat 10 (s.obj (0x2400 + g.toNat) 0x10 / 32) ∧ c.fsr.extractLsb' 0 5 = 0 ∧
        (∃ a, c.act = some a ∧ a.q = r.q ∧ a.node = r.node ∧ a.epoch = r.epoch ∧ a.refire = false ∧ a.sent = 0 ∧ a.fanout = d.fanout) ∧
        (v.tu g.toNat).credits = t.credits - d.fanout ∧ (r.node.toNat, r.epoch) ∈ (v.tu g.toNat).fired ∧
        (∃ y ∈ (v.tu g.toNat).ready, y = { r with running := true })) ∧
    (t.head = none → exec (.dispatch g) s = .next s)

/-- R38, R43, R68, R69, R72 to R75, R280: an engine retires its lowest unretired epoch when every node has been handled there and nothing
of it is open; a waterline node keeps the highest report of each reporter; a distribution moves the views of the engines of its
cluster, each of which checks it, and is discarded and counted at a cluster that takes nothing in; a repeated report leaves the epochs
as they are. -/
def Obligations.RetireReports : Prop :=
  ∀ (s : State) (g : BitVec 9) (c : BitVec 5) (f k : Nat) (x : Flit) (l : List Flit) (m : List (Flit × Nat)),
    let t := s.tu g.toNat
    let y := s.cluster c.toNat
    let v := nearestEpoch (tokValue x.token).toNat (s.flight f).view
    let good := tokenSyndrome x.token = 0 ∧ x.token.extractLsb' 85 3 = 0 ∧ tokClass x.token = 3 ∧ s.classFault x.ctl x.token = false ∧
      tokDevice x.token = s.devId ∧ (tokValue x.token).toNat % 256 = (tokTag x.token).toNat ∧ tokFlight x.token = f
    (s.flightOf (g.toNat / 16) = some f → (s.flight f).state = .running → s.unitStopped g.toNat = false → s.retiredEngine g.toNat = false →
      s.clusterRuns (g.toNat / 16) = true → t.handledCount t.lur = t.count → s.nothingOpen g.toNat t.lur = true → t.lur < t.view + t.tether →
      ∃ v, exec (.engineRetire g) s = .next v ∧ (v.tu g.toNat).lur = t.lur + 1 ∧ (v.tu g.toNat).reported = some (t.lur + 1) ∧
        ∀ z ∈ (v.tu g.toNat).fired, t.lur < z.2) ∧
    (y.wnIn = x :: l → good → tokSlot x.token = 0x3FF0 → s.flightOf c.toNat = some f → s.heldOff f v = false →
      tget 0 y.wnReports (ctlEngine x.ctl) < v →
      ∃ w, exec (.retireReport (.cluster c)) s = .next w ∧ tget 0 (w.cluster c.toNat).wnReports (ctlEngine x.ctl) = v ∧
        ∀ j, j ≠ ctlEngine x.ctl → tget 0 (w.cluster c.toNat).wnReports j = tget 0 y.wnReports j) ∧
    (s.devIn = (x, k) :: m → good → tokSlot x.token = 0x3FF1 → k < 32 → s.inFlight f k = true → s.heldOff f v = false →
      tget 0 (s.flight f).clusterReports k < v →
      ∃ w, exec (.retireReport .device) s = .next w ∧ tget 0 (w.flight f).clusterReports k = v) ∧
    (y.wnIn = x :: l → good → tokSlot x.token = 0x3FF3 → s.flightOf c.toNat = some f → s.heldOff f v = false → s.passesInward c.toNat = true →
      exec (.waterlineDistribution (.cluster c)) s =
        .next (((s.enginesOf f).filter (fun g => g / 16 == c.toNat)).foldl (fun s g => s.unitDistribution g v x)
          (s.setCluster c.toNat { y with wnIn := l }))) ∧
    (good → ∀ (u : State) (e : Nat), u.col.armed = false → u.unitDistribution e v x = u.setView e v) ∧
    (y.wnIn = x :: l → good → tokSlot x.token = 0x3FF3 → s.flightOf c.toNat = some f → s.passesInward c.toNat = false →
      exec (.waterlineDistribution (.cluster c)) s = .next ((s.setCluster c.toNat { y with wnIn := l }).discard (srcId 17 c.toNat))) ∧
    (s.devIn = (x, k) :: m → good → tokSlot x.token = 0x3FF3 → k = 36 + s.obj (0x2800 + f) 0xD → s.heldOff f v = false →
      (s.flight f).state ≠ .idle → (s.flight f).view < v →
      ∃ w, exec (.waterlineDistribution .device) s = .next w ∧ (w.flight f).view = v) ∧
    (∃ w, exec (.retireReportRepeat (BitVec.ofNat 5 f) (.engine g)) s = .next w ∧ (w.tu g.toNat).lur = t.lur ∧ (w.tu g.toNat).view = t.view ∧
      (s.flightOf (g.toNat / 16) = some (f % 32) → s.clusterRuns (g.toNat / 16) = true → t.reported.isSome = true →
        (w.tu g.toNat).reported = some t.lur))

/-- R42, R44, R67, R87, R88, R220: ACCEPT settles the obligation it names and gives its credit back; an acceptance timeout and a
recompute request order a re-fire; a token credit comes back to its router. -/
def Obligations.AcceptanceAndRecompute : Prop :=
  ∀ (g : BitVec 9) (s u : State) (f q : Nat) (p : Pkt) (l : List Pkt) (o : Obligation) (rest : List Obligation) (node : BitVec 14)
    (epoch : BitVec 48) (x : Flit) (m : List Flit) (d : Desc) (k : BitVec 6),
    let t := s.tu g.toNat
    let taken := (s.setTu g.toNat { t with recomp := m }).tick1 g.toNat 8
    let e := t.view + tagDistance (tokTag x.token).toNat t.view
    let n := tokSlot x.token
    let key := 64 * g.toNat + k.toNat
    ((s.engine g.toNat).rspIn = p :: l → hdOp p.head = 0x30 → headSyndrome p.head = 0 → t.obligations = o :: rest → o.credits = 1 →
      o.node = BitVec.ofNat 14 (hdOffset p.head) → o.seq = BitVec.ofNat 6 (hdOffset p.head / 2 ^ 14) →
      o.tag = BitVec.ofNat 8 (hdOffset p.head / 2 ^ 20) →
      ∃ v, exec (.accept g) s = .next v ∧ (v.tu g.toNat).obligations = rest ∧ (v.tu g.toNat).credits = min 4096 (t.credits + 1) ∧
        (v.engine g.toNat).rspIn = l) ∧
    (s.flightOf (g.toNat / 16) = some f → o ∈ t.obligations → o.node = node → o.epoch = epoch.toNat → s.unitStopped g.toNat = false →
      s.clusterRuns (g.toNat / 16) = true → (s.core g.toNat).act = none → t.queued node epoch.toNat true = false → t.freeWindow = some q →
      ∃ v, exec (.acceptanceTimeout g node epoch) s = .next v ∧
        ∃ r ∈ (v.tu g.toNat).ready, r.node = node ∧ r.epoch = epoch.toNat ∧ r.refire = true ∧ r.running = false) ∧
    ((∀ o ∈ t.obligations, ¬ (o.node = node ∧ o.epoch = epoch.toNat)) → exec (.acceptanceTimeout g node epoch) s = .next s) ∧
    (s.flightOf (g.toNat / 16) = some f → t.recomp = x :: m → s.clusterRuns (g.toNat / 16) = true → s.col.armed = false →
      tokenSyndrome x.token = 0 → x.token.extractLsb' 85 3 = 0 → s.classFault x.ctl x.token = false → tokDevice x.token = s.devId →
      tokFlight x.token = f → s.unitStopped g.toNat = false → n < s.nodeCount g.toNat → taken.readDesc g.toNat n = (some d, u) → d.valid = true →
      tagDistance (tokTag x.token).toNat t.view < 64 → t.lur ≤ e → (n, e) ∈ t.fired → n < 2 ^ 14 →
      ∃ v, exec (.recomputeRequest g) s = .next v ∧ (v.tu g.toNat).recomp = m ∧ (n, e) ∈ (v.tu g.toNat).unanswered) ∧
    (k.toNat < 46 → 0 < tget 0 s.noc.tokBack key → ∃ v, exec (.tokenCreditReturn g k) s = .next v ∧
      tget 0 v.noc.tokBack key = tget 0 s.noc.tokBack key - 1 ∧ tget 0 v.noc.tokUsed key = tget 0 s.noc.tokUsed key - 1 ∧
      { v with noc := { v.noc with tokBack := s.noc.tokBack, tokUsed := s.noc.tokUsed } } = s) ∧
    (t.obligations.all (fun o => o.node != BitVec.ofNat 14 (hdOffset p.head) || o.seq != BitVec.ofNat 6 (hdOffset p.head / 2 ^ 14) ||
        o.tag != BitVec.ofNat 8 (hdOffset p.head / 2 ^ 20)) = true → (s.engine g.toNat).rspIn = p :: l → hdOp p.head = 0x30 → headSyndrome p.head = 0 →
      exec (.accept g) s = .next ((s.setEngine g.toNat { s.engine g.toNat with rspIn := l }).discard g.toNat)) ∧
    (46 ≤ k.toNat → exec (.tokenCreditReturn g k) s = .next s)

/-- R28: a probe leaves the matching store and the ready queue as they are, and its report, with the words of R28, leaves for its
originator; at the originator it reaches the buffer that waits for its tag and frees it, or is discarded and counted; a timeout frees
the buffer and takes back the credit that has not come back. -/
def Obligations.DebugProbes : Prop :=
  ∀ (g : BitVec 9) (q : QueueSrc) (s u : State) (x : Flit) (p : Pkt) (l : List Pkt) (tag value : Word) (n i : Nat) (present mark : Bool)
    (b : Probe) (before after : List Probe),
    let f := tokFlight x.token
    let view := (s.tu g.toNat).view
    let d := tagDistance (tokTag x.token).toNat view
    let taken := match q with | .partition k => (s.popQueue g.toNat q).probeBack (64 * g.toNat + k.toNat) | .loopback => s.popQueue g.toNat q
    let off := tokSlot x.token + 2 ^ 14 * (tokTag x.token).toNat
    let report := [tokValue x.token, value, BitVec.ofNat 36 (present.toNat + 2 * mark.toNat + 12 + 2 ^ 4 * n + 2 ^ 18 * i + 2 ^ 22 * d),
      BitVec.ofNat 36 view, BitVec.ofNat 36 (view / 2 ^ 36)]
    let words := flitWords p.data 5
    let buffered := s.probes = before ++ b :: after ∧ b.tag = tag ∧ ∀ y ∈ before, y.tag ≠ tag
    (QueueExists q → s.queueHead g.toNat q = some x → s.clusterRuns (g.toNat / 16) = true → tokClass x.token = 6 → s.col.armed = false →
      tokenSyndrome x.token = 0 →
      (∃ v, exec (.debugProbe g q) s = .next v ∧ Popped s g.toNat q v ∧ (v.tu g.toNat).store = (s.tu g.toNat).store ∧
        (v.tu g.toNat).ready = (s.tu g.toNat).ready ∧ (v.engine g.toNat).mem = (s.engine g.toNat).mem) ∧
      (WellAddressed s g.toNat x → (s.flight f).state ≠ .idle → tokSlot x.token < s.frameSize f → (s.tu g.toNat).mapBad (tokSlot x.token) = false →
        d < (s.tu g.toNat).tether → s.slotOwner g.toNat (tokSlot x.token) = some (n, i) →
        taken.readEntry g.toNat (taken.entryIx g.toNat f (view + d) (tokSlot x.token)) = (some (value, present, mark), u) →
        exec (.debugProbe g q) s = .next (u.sendPacket (g.toNat / 16) vcRsp 0 (u.unitEntry (g.toNat / 16) (srcOf x.ctl).device (srcOf x.ctl).engine)
          (srcOf x.ctl) (mkHead off 0 0x31 5 0 0 0 false) report))) ∧
    (s.svcRsp = p :: l → hdOp p.head = 0x31 → headSyndrome p.head = 0 → (∀ b ∈ p.data, dataSyndrome b = 0) → tag = words.getD 0 0 →
      (buffered → exec .probeRpt s = .next { s with svcRsp := l, probes := before ++ after, outbox := s.outbox ++ [.probeReport words] }) ∧
      ((∀ y ∈ s.probes, y.tag ≠ tag) → exec .probeRpt s = .next ({ s with svcRsp := l }.discard (srcId 19 13)))) ∧
    (buffered → ∃ v, exec (.probeTimeout tag) s = .next v ∧ v.probes = before ++ after ∧
      tget 0 v.noc.tokUsed b.key = tget 0 s.noc.tokUsed b.key - b.credit.toNat ∧ v.engines = s.engines ∧ v.outbox = s.outbox) ∧
    ((∀ y ∈ s.probes, y.tag ≠ tag) → exec (.probeTimeout tag) s = .next s)

/-- R210, R211, R216 to R218, R230, R232, R233: a packet of one flit follows its route hop: its route is shifted, it stands in the next
router's input buffer under a link credit, and the credit of the buffer it left is on its way back; at the hop 000 of a cluster router it
reaches the cluster. A hop to a port that the router lacks or that is disabled drops the packet with event 0x21. A head that waits gains
urgency, up to 15. A credit that arrives frees its buffer. A unit's input buffer holds 8 flits; the writer of a dual-clock queue stops
at 14 entries and the flits behind wait in order; a flush empties the queue. -/
def Obligations.RouterHops : Prop :=
  ∀ (k : BitVec 6) (p : BitVec 3) (vc : BitVec 2) (u : Bool) (s : State) (x : NFlit) (l : List NFlit) (i : Nat) (port : InPort),
    let from' := bufKey k.toNat p.toNat vc.toNat u
    let out := outKey k.toNat p.toNat vc.toNat (hopOf x) u
    let gone := fun v : State => tget [] v.noc.bufs from' = l ∧ .link from' ∈ v.noc.back
    (AtInput s k.toNat p.toNat vc.toNat u x l →
      (s.badPort k.toNat (hopOf x) (ctlGen x.ctl) = false → (neighbour k.toNat (hopOf x)).isSome = true → tget 0 s.noc.linkUsed out < 8 →
        tget 0 s.noc.holder (linkChannel out) = 0 → Unrivalled s k.toNat (hopOf x) (ctlUrgency x.ctl).toNat p.toNat vc.toNat u →
        ∃ v y, exec (.routerHop k (.port p) vc u) s = .next v ∧ gone v ∧ tget [] v.noc.bufs out = tget [] s.noc.bufs out ++ [y] ∧
          tget 0 v.noc.linkUsed out = tget 0 s.noc.linkUsed out + 1 ∧ y.head = x.head ∧ ctlRoute y.ctl = ctlRoute x.ctl >>> 3 ∧
          paritySyndrome y.ctl = 0) ∧
      (s.badPort k.toNat (hopOf x) (ctlGen x.ctl) = false → k.toNat < 32 → hopOf x = 0 →
        tget 0 s.noc.holder (linkChannel out) = 0 → Unrivalled s k.toNat 0 (ctlUrgency x.ctl).toNat p.toNat vc.toNat u →
        ∃ v q, exec (.routerHop k (.port p) vc u) s = .next v ∧ gone v ∧
          (v.cluster k.toNat).niIn = (s.cluster k.toNat).niIn ++ [(q, vc)] ∧ q.head = x.head ∧ q.data = [] ∧ q.inj = some x.inj) ∧
      (s.badPort k.toNat (hopOf x) (ctlGen x.ctl) = true →
        ∃ v, exec (.routerHop k (.port p) vc u) s = .next v ∧ gone v ∧ LastEvent s v (routerSrc k.toNat) 0x21 2)) ∧
    (tget [] s.noc.bufs from' = [] → s.aon = [] → k.toNat < 46 → 1 ≤ p.toNat → p.toNat ≤ 5 → exec (.routerHop k (.port p) vc u) s = .next s) ∧
    (k.toNat < 46 → 1 ≤ p.toNat → p.toNat ≤ 5 → tget [] s.noc.bufs from' = x :: l → x.isHead = true →
      ∃ v y, exec (.urgencyIncrement k (.port p) vc u) s = .next v ∧ tget [] v.noc.bufs from' = y :: l ∧ y.head = x.head ∧
        (ctlUrgency y.ctl).toNat = min 15 ((ctlUrgency x.ctl).toNat + 1) ∧ ctlRoute y.ctl = ctlRoute x.ctl) ∧
    (∀ key, s.noc.back[i]? = some (.link key) →
      exec (.linkCreditReturn i) s =
        .next { s with noc := { s.noc with back := s.noc.back.eraseIdx i, linkUsed := tput 0 key (tget 0 s.noc.linkUsed key - 1) s.noc.linkUsed } }) ∧
    (46 ≤ k.toNat ∨ port = .port 0 → exec (.routerHop k port vc u) s = .next s ∧ exec (.urgencyIncrement k port vc u) s = .next s) ∧
    (let mine := fun v : State => tget [] v.noc.bufs (bufKey k.toNat 0 vc.toNat false);
      (mine s).length ≤ 8 → (mine (s.fillUnit k.toNat vc.toNat)).length ≤ 8) ∧
    ∀ (q : CrossQ) (new : List NFlit), let r := q.writeAll new
      (q.occupancy ≤ 14 → r.1.occupancy ≤ 14) ∧ (r.2 ≠ [] → 14 ≤ r.1.occupancy) ∧
      (∃ written, new = written ++ r.2 ∧ r.1.entries = q.entries ++ written.map (fun x => { flit := x, wrong := 0 })) ∧
      q.flush.entries = [] ∧ q.flush.empty = true

/-- R220, R222, R225: at a cluster's interface a token of a running cluster enters its engine's partition for the injecting router, a
request the cluster's request queue, a sluice's with the engine of the packet's own generation (R226), or the answer FLIGHT_DENIED when it
names another flight, and a response its engine; a packet with a bad control parity is discarded at level 1. -/
def Obligations.InterfaceArrivals : Prop :=
  ∀ (c : BitVec 5) (s : State) (p : Pkt) (k : Nat) (rest : List (Pkt × BitVec 2)) (vc : BitVec 2),
    let y := s.cluster c.toNat
    let engine := s.physicalAt c.toNat
    y.niIn = (p, vc) :: rest → p.inj = some k → k ≠ c.toNat → s.col.armed = false → s.aon = [] →
    (paritySyndrome p.ctl ≠ 0 → ∃ v, exec (.niArrival c) s = .next v ∧ (v.cluster c.toNat).niIn = rest ∧
      LastEvent s v (srcId 17 c.toNat) (if vc.toNat < 2 then 0x23 else 0x10) 1) ∧
    (paritySyndrome p.ctl = 0 →
      (vc = 2 → s.passesInward c.toNat = true → (s.domain c.toNat).imageLost = false →
        let g := engine (tokEngine p.head) (ctlGen p.ctl)
        ∃ v, exec (.niArrival c) s = .next v ∧ (v.cluster c.toNat).niIn = rest ∧
          tget [] (v.tu g).parts k = tget [] (s.tu g).parts k ++ [{ token := p.head, ctl := p.ctl }]) ∧
      (vc = 0 → headSyndrome p.head = 0 → hdNamed p.head = true ∧ s.flightOf c.toNat = some (hdFlight p.head) → s.passesInward c.toNat = true →
        ∃ v r, exec (.niArrival c) s = .next v ∧ (v.cluster c.toNat).reqQ = y.reqQ ++ [r] ∧ r.head = p.head ∧ r.ctl = p.ctl ∧ r.data = p.data ∧
          r.inj = p.inj ∧ (hdSpace p.head = 3 → r.engine = some (engine (hdOffset p.head / 2 ^ 11) (ctlGen p.ctl)))) ∧
      (vc = 0 → headSyndrome p.head = 0 → hdNamed p.head = true → s.flightOf c.toNat ≠ some (hdFlight p.head) →
        ∃ u : State, exec (.niArrival c) s = .next (u.niAnswer c.toNat p 5) ∧ (u.cluster c.toNat).reqQ = y.reqQ) ∧
      (vc = 1 → s.passesInward c.toNat = true → ctlUnit p.ctl = false →
        let g := engine (ctlEngine p.ctl) (ctlGen p.ctl)
        ∃ v, exec (.niArrival c) s = .next v ∧ (v.cluster c.toNat).niIn = rest ∧ (v.engine g).rspIn = (s.engine g).rspIn ++ [p]))

/-- R227, R228, Table 11.10: a sequencer flip puts the other generation in force and begins the drain, and moves the domains on; the drain
ends when no packet of the old generation is left; its timeout raises event 0x22 and the drain goes on. -/
def Obligations.GenerationFlips : Prop :=
  ∀ (s : State) (d : Nat),
    let old := (s.domain d).state
    (s.noc.flipWanted = true → s.noc.drain = 0 →
      ∃ v, exec .sequencerFlip s = .next v ∧ v.noc.gen = !s.noc.gen ∧ v.noc.drain = 1 ∧
        ((∀ j < 32, (s.domain j).state ≠ .join) → v.noc.flipWanted = false) ∧
        (d < 32 → (v.domain d).state =
          if old = .quiesce ∧ (s.domain d).cancelled = false then .drain
          else if (old = .quiesce ∨ old = .drain) ∧ (s.domain d).cancelled = true then .live
          else if old = .join ∧ (s.domain d).queued ≠ 1 then .live else (v.domain d).state) ∧
        (d < 32 → old ≠ .quiesce → old ≠ .drain → old ≠ .join → v.domain d = s.domain d)) ∧
    (s.noc.flipWanted = false ∨ s.noc.drain ≠ 0 → exec .sequencerFlip s = .next s) ∧
    (s.noc.drain ≠ 0 → s.oldPackets ≠ 0 → exec .flipDrainComplete s = .next s) ∧
    (s.noc.drain ≠ 0 → s.oldPackets = 0 → s.noc.syncs = [] → s.noc.flipWanted = false →
      exec .flipDrainComplete s = .next { s with noc := { s.noc with drain := 0, oldRoutes := [] } }) ∧
    (s.noc.drain = 1 → ∃ v, exec .flipDrainTimeout s = .next v ∧ v.noc = { s.noc with drain := 2 } ∧ LastEvent s v (srcId 25 0) 0x22 2) ∧
    (s.noc.drain ≠ 1 → exec .flipDrainTimeout s = .next s)

/-- R116, R181, R183, R187, R188, R190, R198, R202, R208, R214, R222: a READ is answered with the words, a WRITE stores its words or, in a
retired bank, none, with BUS (the word-by-word reading is log entry 99's), an XADD or SWAP of a cluster store answers the old word and
stores the new one, a place the requester may not reach is answered ADDR or ACC without an access, and a SYNC with the occupancy of its
pool. A cluster serves each requester's requests in their order; HBM serves the highest urgency first and the oldest of one urgency,
but none before an earlier request of one of its lines. -/
def Obligations.RequestsServed : Prop :=
  ∀ (t : Target) (s u : State) (p : Pkt) (l : List Pkt) (c o w m : Nat) (f : Nat → Word) (old : Word),
    let q := s.takeRequest t p l
    let k := targetRouter t
    let n := hdLen p.head
    let who := (q.requesterSrc p (srcId 20 (stackOf (w / 6)))).1
    let lvl := (q.requesterSrc p (srcId 20 (stackOf (w / 6)))).2
    AtTarget s t p l →
    (hdOp p.head = 1 → t ≠ .service →
      (q.place t p n false = .store c o → (∀ i < n, q.readStore c (o + i) = (.ok (f i), q)) →
        exec (.readReq t) s = .next (q.answer k p 0 ((List.range n).map f))) ∧
      (q.place t p n false = .hbm w → (∀ i < n, q.readHbm (w + i) who = (.ok (f i), q)) →
        exec (.readReq t) s = .next (q.answer k p 0 ((List.range n).map f))) ∧
      (q.place t p n false = .sluice c o → (∀ i < n, q.readLocal c (o + i) 31 = (.ok (f i), q)) →
        exec (.readReq t) s = .next (q.answer k p 0 ((List.range n).map f))) ∧
      (q.place t p n false = .status m → exec (.readReq t) s = .next (q.answer k p m []))) ∧
    (hdOp p.head = 2 → t ≠ .service →
      (q.place t p n true = .store c o → (∀ i < (wordsOf p).length, q.retiredBank c ((o + i) % 16) = false) →
        exec (.writeReq t) s = .next (((wordsOf p).zipIdx.foldl (fun s x => s.writeStore c (o + x.2) x.1) q).answer k p 0 [])) ∧
      (q.place t p n true = .store c o → (∃ i < (wordsOf p).length, q.retiredBank c ((o + i) % 16) = true) →
        ∃ v : State, exec (.writeReq t) s = .next (v.answer k p 4 []) ∧
          ∀ i < (wordsOf p).length, q.retiredBank c ((o + i) % 16) = true → (v.cluster c).cell (o + i) = (q.cluster c).cell (o + i)) ∧
      (q.place t p n true = .sluice c o → (∀ i < (wordsOf p).length, q.retiredPage c (o + i) = false) →
        exec (.writeReq t) s = .next ((q.writeLocals c o (wordsOf p)).answer k p 0 [])) ∧
      (q.place t p n true = .hbm w → q.writeHbm w (wordsOf p) who lvl = (.done, u) → exec (.writeReq t) s = .next (u.answer k p 0 [])) ∧
      (q.place t p n true = .status m → exec (.writeReq t) s = .next (q.answer k p m []))) ∧
    (q.place t p 1 true = .store c o → q.readStore c o = (.ok old, u) →
      (hdOp p.head = 3 → exec (.xaddRequest t) s = .next ((u.writeStore c o (old + (wordsOf p).getD 0 0)).answer k p 0 [old])) ∧
      (hdOp p.head = 4 → exec (.swapRequest t) s = .next ((u.writeStore c o ((wordsOf p).getD 0 0)).answer k p 0 [old]))) ∧
    (hdOp p.head = 5 → exec (.sync t) s = .next (q.respond k p 0x25 (q.poolFlits t p.inj) 0 [])) ∧
    (∀ b, t = .cluster b → hdSpace p.head = 0 → p.inj = none →
      q.place t p n false = if hdOffset p.head + n ≤ 2 ^ 19 then .store b.toNat (hdOffset p.head) else .status 6) ∧
    (∀ b r, t = .hbm b → hdSpace p.head = 2 → hdNamed p.head = true → hdOffset p.head + n ≤ 28991029248 → q.regionAt (hdOffset p.head) = some r →
      let x := q.region r
      q.place t p n false = if (x.kind = 1 ∧ x.flight = hdFlight p.head) ∧ hdOffset p.head + n ≤ x.base + x.length then .hbm (hdOffset p.head)
        else .status 5) ∧
    (∀ g, p.inj = none → q.physical (srcOf p.ctl).engine = some g →
      ∃ r : Pkt, ((q.answer k p m [old]).engine g).rspIn = (q.engine g).rspIn ++ [r] ∧
        (1 ≤ hdOp p.head → hdOp p.head ≤ 5 → hdOp r.head = hdOp p.head + 0x20) ∧
        hdTag r.head = hdTag p.head ∧ hdStatus r.head = m % 16 ∧ flitWords r.data 1 = [old]) ∧
    (∀ b, t = .cluster b → ∃ before after, s.requests t = before ++ p :: after ∧ l = before ++ after ∧
      ∀ z ∈ before, s.bankRequester z ≠ s.bankRequester p) ∧
    (∀ b, t = .hbm b → ∃ before after, s.requests t = before ++ p :: after ∧ l = before ++ after ∧ mayPass before.reverse p = true ∧
      ∀ a z d, s.requests t = a ++ z :: d → mayPass a.reverse z = true →
        ctlUrgency z.ctl ≤ ctlUrgency p.ctl ∧ (a.length < before.length → ctlUrgency z.ctl < ctlUrgency p.ctl))

/-- R117, R215, R222, R223: a response completes the segment that its tag names, with its status and, on success, its words; a timeout
completes it with TMO and zero words and has the pool synchronised; a response for no outstanding segment is discarded and counted, a
timeout of a tag that nothing awaits changes nothing, and one of a SYNC has it sent anew; a SYNC_RSP sets the credits in use to the
reported occupancy. -/
def Obligations.ResponsesTaken : Prop :=
  ∀ (g : BitVec 9) (s : State) (p : Pkt) (l : List Pkt) (k : Nat) (tag : BitVec 12),
    let x := (s.core g.toNat).segment k
    (AtEngine s g.toNat p l k → x.len ≤ 16 → ∀ r ∈ responseRows, hdOp p.head = r.2 →
      ∃ v, exec (r.1 (.engine g)) s = .next v ∧ (v.engine g.toNat).rspIn = l ∧
        Completed s v g.toNat k (hdStatus p.head) (fun i =>
          if hdStatus p.head = 0 then (flitWords p.data x.len)[i]? else if hdStatus p.head = 1 then none else some 0)) ∧
    ((s.engine g.toNat).rspIn = p :: l → hdTag p.head ≠ traceTag → s.col.armed = false → headSyndrome p.head = 0 → (∀ f ∈ p.data, dataSyndrome f = 0) →
      ((s.core g.toNat).segment ((hdTag p.head).toNat % 4)).outstanding = false →
      ∀ r ∈ responseRows, hdOp p.head = r.2 → exec (r.1 (.engine g)) s = .next ((s.popResponse (.engine g)).discard (srcId 17 (g.toNat / 16)))) ∧
    ((s.engine g.toNat).rspIn = p :: l → s.col.armed = false → p.inj ≠ none → headSyndrome p.head ≠ 0 → ∀ r ∈ responseRows, hdOp p.head = r.2 →
      ∃ v, exec (r.1 (.engine g)) s = .next v ∧ v.core g.toNat = s.core g.toNat ∧ LastEvent s v (srcId 17 (g.toNat / 16)) 0x23 1) ∧
    (k = tag.toNat % 4 → tag ≠ traceTag → x.outstanding = true → x.tag = tag → s.noc.drain ≠ 0 → x.dest < 46 →
      ∃ v, exec (.initiatorTimeout (.engine g) tag) s = .next v ∧ Completed s v g.toNat k 2 (fun _ => some 0) ∧
        v.noc.syncs = s.noc.syncs ++ [(64 * x.dest + g.toNat / 16, s.logical g.toNat s.noc.gen, 0)]) ∧
    (k = tag.toNat % 4 → tag ≠ traceTag → x.outstanding = false → k ≠ 0 ∨ tget 0 s.noc.syncUsed (64 * (tag.toNat / 4) + g.toNat / 16) = 0 →
      exec (.initiatorTimeout (.engine g) tag) s = .next s) ∧
    (0 = tag.toNat % 4 → tag ≠ traceTag → k = 0 → x.outstanding = false → tget 0 s.noc.syncUsed (64 * (tag.toNat / 4) + g.toNat / 16) ≠ 0 →
      s.noc.drain ≠ 0 → tag.toNat / 4 < 46 → ∃ v, exec (.initiatorTimeout (.engine g) tag) s = .next v ∧
        tget 0 v.noc.syncUsed (64 * (tag.toNat / 4) + g.toNat / 16) = 0 ∧
        v.noc.syncs = s.noc.syncs ++ [(64 * (tag.toNat / 4) + g.toNat / 16, s.logical g.toNat s.noc.gen, 0)]) ∧
    ((s.engine g.toNat).rspIn = p :: l → s.col.armed = false → hdOp p.head = 0x25 → headSyndrome p.head = 0 →
      ∃ v, exec (.syncRsp (.engine g)) s = .next v ∧ (v.engine g.toNat).rspIn = l ∧
        tget 0 v.noc.poolUsed (64 * ((hdTag p.head).toNat / 4) + g.toNat / 16) = min 28 (hdOffset p.head % 65536) ∧
        tget 0 v.noc.syncUsed (64 * ((hdTag p.head).toNat / 4) + g.toNat / 16) = 0)

/-- R33, R78 to R82, R384: a token that the bog takes is written to the free slot of its bucket's chain and counted, a drawn-up one that
came back without being queued at once; over the quota it is lost with event 0x32; one of an epoch below zero is stale (log entry 94); a bad
CRC-8 is event 0x10. The token of the lowest epoch is drawn under a free number and stays until its ACCEPT frees the slot; one of
another lap is discarded; a timeout or a recompute request sends it again; an ACCEPT that names no draw is counted. -/
def Obligations.BogTokens : Prop :=
  ∀ (s u : State) (x : Flit) (l : List Flit) (p : Pkt) (m : List Pkt) (base i e : Nat) (a b c : Word) (z : BogSlot) (tag : BitVec 8) (n : BitVec 6)
    (chain : BogChain),
    let f := tokFlight x.token
    let size := 1
    let o := hdOffset p.head
    let t := slotToken a b c
    let view := (s.flight z.flight).view
    let src := bogBack ((base + 3 * z.idx) / 6)
    let readable := s.bogBase = some base ∧ s.readHbms src (base + 3 * z.idx) 3 = (.inr [a, b, c], u) ∧ tokenSyndrome t = 0 ∧ s.col.armed = false
    (AtBog s x l →
      ((s.flight f).state ≠ .idle → tokDevice x.token = s.devId → bogEpoch (tokTag x.token) (s.flight f).view = some e → s.bogBase = some base →
        s.freeSlot base s.bogRegionSlots (64 * tokEngine x.token + e % 64) = some (i, chain) → s.bogFill f + size ≤ s.obj (0x3410 + f) 1 →
        ∃ v y, exec .bogWrite s = .next v ∧ v.bogIn = l ∧ v.bog.map BogSlot.idx = s.bog.map BogSlot.idx ++ [i] ∧ y ∈ v.bog ∧ y.idx = i ∧
          y.flight = f ∧ y.engine = tokEngine x.token ∧ y.tag = (tokTag x.token).toNat ∧ y.draw = none ∧ y.held = false ∧
          (tokClass x.token = 4 → s.bogFill f + size + s.obj (0x3410 + f) 3 < s.obj (0x3410 + f) 1 → y.queued = false ∧ y.back = true)) ∧
      ((s.flight f).state ≠ .idle → tokDevice x.token = s.devId → bogEpoch (tokTag x.token) (s.flight f).view = some e →
        s.obj (0x3410 + f) 1 < s.bogFill f + size →
        ∃ v, exec .bogWrite s = .next v ∧ v.bog = s.bog ∧ (v.flight f).lost = true ∧ LastEvent s v (srcId 26 f) 0x32 3) ∧
      ((s.flight f).state ≠ .idle → bogEpoch (tokTag x.token) (s.flight f).view = none →
        ∃ v, exec .bogWrite s = .next v ∧ v.bog = s.bog ∧ LastEvent s v bogFront 0x18 3) ∧
      ((s.flight f).state = .idle → ∃ v, exec .bogWrite s = .next v ∧ v.bog = s.bog ∧ v.bogIn = l)) ∧
    (s.bogIn = x :: l → s.col.armed = false → tokenSyndrome x.token ≠ 0 → ctlUnit x.ctl = true →
      ∃ v, exec .bogWrite s = .next v ∧ v.bog = s.bog ∧ LastEvent s v bogFront 0x10 1) ∧
    (s.nextDraw = some z → readable → s.aon = [] →
      ((c.extractLsb' 26 6).toNat * 256 + (tokTag t).toNat = z.epochAt view % 2 ^ 14 →
        ∃ v, exec .bogDrawUp s = .next v ∧ Drawn u z (s.drawNumber z.tag) t v) ∧
      ((c.extractLsb' 26 6).toNat * 256 + (tokTag t).toNat ≠ z.epochAt view % 2 ^ 14 →
        ∃ v, exec .bogDrawUp s = .next v ∧ v.bog = u.bog.filter (fun y => y.idx ≠ z.idx) ∧ LastEvent u v (srcId 26 z.flight) 0x33 3)) ∧
    (s.nextDraw = none → exec .bogDrawUp s = .next s) ∧
    (s.drawOf tag.toNat n.toNat = some z → readable → ∃ v, exec (.drawTimeout tag n) s = .next v ∧ Drawn u z n.toNat t v) ∧
    (s.drawOf tag.toNat n.toNat = none → exec (.drawTimeout tag n) s = .next s) ∧
    (s.svcRsp = p :: m → hdOp p.head = 0x30 → headSyndrome p.head = 0 →
      (s.drawOf (o / 2 ^ 20 % 256) (o / 2 ^ 14 % 64) = some z →
        ∃ v, exec .drawAccept s = .next v ∧ v = { s with svcRsp := m, bog := s.bog.filter (fun y => y.idx ≠ z.idx), bogChains := v.bogChains }) ∧
      (s.drawOf (o / 2 ^ 20 % 256) (o / 2 ^ 14 % 64) = none → exec .drawAccept s = .next { s with svcRsp := m, bogStray := s.bogStray + 1 })) ∧
    (s.bogRecomp = x :: l → tokenSyndrome x.token = 0 → s.col.armed = false → tokenSyndrome t = 0 → s.bogBase = some base →
      s.drawOf ((tokValue x.token).toNat % 256) ((tokValue x.token).toNat / 256 % 64) = some z →
      { s with bogRecomp := l }.readHbms src (base + 3 * z.idx) 3 = (.inr [a, b, c], u) →
      ∃ v, exec .bogRecomputeRequest s = .next v ∧ v.bogRecomp = u.bogRecomp ∧ Drawn u z ((tokValue x.token).toNat / 256 % 64) t v) ∧
    (s.bogRecomp = x :: l → tokenSyndrome x.token = 0 → s.col.armed = false →
      s.drawOf ((tokValue x.token).toNat % 256) ((tokValue x.token).toNat / 256 % 64) = none →
      exec .bogRecomputeRequest s = .next { s with bogRecomp := l, bogStray := s.bogStray + 1 }) ∧
    (z ∈ s.bog → z.idx = i → z.back = true → s.draws z.flight = true →
      ∃ v, exec (.bogRedrawTimer i) s = .next v ∧ { z with queued := true, back := false } ∈ v.bog)

/-- R71, R382, Table 4.2: a device takes a flight command that its edge and the flight's state permit, sends it on to its children and
applies it; it answers any other with a refused completion and changes nothing. A completion through the last child ends the
command; a refused one, or its timeout, is event 0x34 at the root. -/
def Obligations.FlightCommands : Prop :=
  ∀ (p : BitVec 3) (f : BitVec 5) (root : BitVec 10) (cmd : BitVec 8) (arg : BitVec 64) (s : State) (c : PendingCmd) (refused : Bool),
    let F := f.toNat
    let x := s.flight F
    let edge := OnEdge s p.toNat F root.toNat
    let n := cmd.toNat
    let running := x.state = .halted ∨ x.state = .mired
    let does := fun (q : State → Prop) => ∃ v, exec (.flightCommand p f root cmd arg) s = .next v ∧ SentDown s v F root.toNat n arg.toNat ∧ q v
    (edge → n = 1 → x.state = .idle → s.imageLost F = false → s.hbmContained = false → s.quotaOk F = true →
      (∃ r, s.regionOf (fun r => decide (r.kind = 5) && decide (r.flight = F)) = some r) → s.enginesOf F ≠ [] →
      does fun v => (v.flight F).cmd =
        some { cmd := 1, arg := arg.toNat, wait := s.childPorts F, scans := s.enginesOf F, failed := false } ∧ (v.flight F).state = .idle) ∧
    (edge → n = 2 → x.state = .loaded → s.imageLost F = false → s.mayRun = true → does fun v => Restarted s v F arg.toNat) ∧
    (edge → n = 3 → x.state = .running → s.isRoot F = false →
      does fun v => (v.flight F).state = .halting ∧ (v.flight F).hreq = some arg.toNat ∧ ∀ g ∈ s.enginesOf F, (v.tu g).ceiling = some arg.toNat) ∧
    (edge → n = 4 → running → x.lost = false → s.imageLost F = false → s.mayRun = true → x.absence = false →
      (∀ b ∈ s.bog, b.flight = F → b.held = false) →
      does fun v => (v.flight F).state = .running ∧ (v.flight F).view = x.view ∧ (v.flight F).tether = x.tether ∧
        ∀ g ∈ s.enginesOf F, (v.tu g).ceiling = none ∧ (v.tu g).view = (s.tu g).view) ∧
    (edge → n = 5 → running → x.lost = false → s.mayRun = true → (∀ g ∈ s.enginesOf F, (s.core g).act = none) →
      does fun v => Restarted s v F arg.toNat ∧ ∀ b ∈ v.bog, b.flight ≠ F) ∧
    (edge → n = 6 → x.state ≠ .running → x.state ≠ .halting →
      does fun v => (v.flight F).state = .idle ∧ (x.state ≠ .idle → (v.flight F).lost = false ∧ ∀ b ∈ v.bog, b.flight ≠ F)) ∧
    (¬ edge ∨ n = 0 ∨ 6 < n ∨ (n = 1 ∧ x.state ≠ .idle) ∨ (n = 2 ∧ x.state ≠ .loaded) ∨ (n = 3 ∧ x.state ≠ .running) ∨
        ((n = 4 ∨ n = 5) ∧ ¬ running) ∨ (n = 6 ∧ (x.state = .running ∨ x.state = .halting)) →
      exec (.flightCommand p f root cmd arg) s = .next { s with outbox := s.outbox ++ [.service p.toNat (.completion F true)] }) ∧
    (x.cmd = some c → c.wait.getLsbD p.toNat = true →
      (c.wait = 1#8 <<< p.toNat → c.scans = [] → c.failed = false →
        ∃ v, exec (.flightCompletion p f false) s = .next v ∧ (v.flight F).cmd = none ∧
          (s.isRoot F = true → c.cmd = 1 → (v.flight F).state = .loaded) ∧
          (s.isRoot F = false → c.cmd ≠ 3 → s.parentPort F < 8 → v.outbox = s.outbox ++ [.service (s.parentPort F) (.completion F false)])) ∧
      (s.isRoot F = true → c.cmd ≠ 1 →
        (∃ v, exec (.flightCompletion p f true) s = .next v ∧ (v.flight F).cmd = none ∧ LastEvent s v (srcId 26 F) 0x34 2) ∧
        ∃ v, exec (.flightCommandTimeout f) s = .next v ∧ (v.flight F).cmd = none ∧ LastEvent s v (srcId 26 F) 0x34 2) ∧
      (s.isRoot F = true → c.cmd = 1 →
        ∃ v, exec (.flightCompletion p f true) s = .next v ∧ (v.flight F).cmd = none ∧ SentDown s v F s.devId 6 0 ∧
          (x.state = .loaded → (v.flight F).state = .idle))) ∧
    (x.cmd = none → exec (.flightCompletion p f refused) s = .next s ∧ exec (.flightCommandTimeout f) s = .next s)

/-- R29 to R31, R60, R208: the scan of an engine enters each valid node's slot group in its slot map when every check passes; else it loads
nothing and event 0x20 at level 2 names the first failing node; on the last engine of a load the flight's root enters LOADED at
the load's epoch. -/
def Obligations.DescriptorScans : Prop :=
  ∀ (g : BitVec 9) (f : Nat) (s : State) (c : PendingCmd) (table : List Desc),
    let e := g.toNat
    let size := s.frameSize f
    let valid := table.filter (fun d => d.valid)
    let slab := (valid.map (fun d => 17 + d.stateLen)).sum
    (s.flightOf (e / 16) = some f → (s.flight f).cmd = some c → c.cmd = 1 → e ∈ c.scans → c.failed = false → Described s e table →
      (TableGood s e size table table.length → s.layoutOk e f slab = true →
        ∃ v, exec (.descriptorScan g) s = .next v ∧ (v.tu e).scanned = true ∧ (v.tu e).count = valid.length ∧
          (∀ (n : Nat) d, table[n]? = some d → d.valid = true → ∀ i < d.arity, tget 0 (v.tu e).slotMap (d.base + i) = 16 * n + i + 1) ∧
          (∀ k, (∀ d ∈ valid, k < d.base ∨ d.base + d.arity ≤ k) → tget 0 (v.tu e).slotMap k = 0) ∧
          (c.scans = [e] → c.wait = 0 → s.isRoot f = true → (v.flight f).state = .loaded ∧ (v.flight f).view = c.arg)) ∧
      (∀ (n : Nat) d, table[n]? = some d → d.valid = true → TableGood s e size table n → ¬ DescriptorGood s e size d →
        ∃ v, exec (.descriptorScan g) s = .next v ∧ (v.tu e).scanned = false ∧
          ∃ y ∈ v.col.detected, y.src = e ∧ y.code = 0x20 ∧ y.level = 2 ∧ y.d0 = n % 2 ^ 40) ∧
      (TableGood s e size table table.length → s.layoutOk e f slab = false →
        ∃ v, exec (.descriptorScan g) s = .next v ∧ (v.tu e).scanned = false ∧
          ∃ y ∈ v.col.detected, y.src = e ∧ y.code = 0x20 ∧ y.level = 2 ∧ y.d0 = 0x3FFF)) ∧
    ((∀ f, s.flightOf (e / 16) = some f → (s.flight f).cmd = none) → exec (.descriptorScan g) s = .next s)

/-- R76, R84, R85, R90, R256, R301, Table 4.5: the last halt reply fixes h at the root, as does the agreed epoch from the parent elsewhere;
requests go up to the root; a flight without advance is becalmed and then mired; a tether sample halves T on a high occupancy. -/
def Obligations.FlightHalts : Prop :=
  ∀ (p : BitVec 3) (f : BitVec 5) (s : State) (h : BitVec 48) (m : Nat) (reason : BitVec 8),
    let F := f.toNat
    let x := s.flight F
    let child := (s.obj (0x2800 + F) 0xE).testBit p.toNat = true
    let up := fun (i : Instr) y => exec i s = .next { s with outbox := s.outbox ++ [.service (s.parentPort F) y] }
    let agreed := fun (i : Instr) (n : Nat) => ∃ v, exec i s = .next v ∧ (v.flight F).haltEpoch = n ∧ (v.flight F).agreed = true ∧
      ((v.flight F).state = .halted ↔ n < x.view) ∧ ∀ g ∈ s.enginesOf F, (v.tu g).ceiling = some n
    let o := 0x2820 + F
    (x.haltWait = some (1#8 <<< p.toNat, m) → s.isRoot F = true → x.state = .halting → (∀ c, x.cmd = some c → c.cmd = 3) →
      agreed (.haltReply p f h) (max m h.toNat)) ∧
    (x.haltWait = none → exec (.haltReply p f h) s = .next s) ∧
    (p.toNat = s.parentPort F → x.state = .halting → agreed (.haltEpoch p f h) h.toNat) ∧
    (p.toNat ≠ s.parentPort F → exec (.haltEpoch p f h) s = .next s) ∧
    (child → s.isRoot F = false → s.parentPort F < 8 → up (.haltRequest p f) (.haltRequest F)) ∧
    (child → s.isRoot F = true → x.state = .running →
      ∃ v, exec (.haltRequest p f) s = .next v ∧ (v.flight F).hreq = some x.view ∧ SentDown s v F s.devId 3 x.view) ∧
    (child → ∃ v, exec (.absenceReport p f) s = .next v ∧ (v.flight F).absence = true ∧
      (s.isRoot F = true → x.state = .running → (v.flight F).hreq = some x.view)) ∧
    exec (.restartHoldoffEnd f) s = .next (s.setFlight F { x with holdoff := none }) ∧
    (x.state = .running ∨ x.state = .halting →
      (s.obj (0x2840 + F) 3 = 1 → x.becalmed = false → ∃ v, exec (.becalmed f) s = .next v ∧ (v.flight F).becalmed = true ∧
        (v.flight F).boost = true ∧ (v.flight F).tether = 1 ∧ ∃ y ∈ v.col.detected, y.src = srcId 26 F ∧ y.code = 0x30 ∧ y.level = 1) ∧
      (s.obj (0x2840 + F) 3 = 1 → x.becalmed = true → ∃ v, exec (.mired f) s = .next v ∧ (v.flight F).state = .mired ∧ (v.flight F).reason = 1 ∧
        ∃ y ∈ v.col.detected, y.src = srcId 26 F ∧ y.code = 0x31 ∧ y.level = 2) ∧
      (p.toNat = s.parentPort F → ∃ v, exec (.miredReport p f reason) s = .next v ∧ (v.flight F).state = .mired ∧ (v.flight F).reason = reason.toNat) ∧
      (x.becalmed = false → s.obj o 9 ≠ 0 → x.tether ≤ x.frames →
        s.obj o 2 * (s.obj (0x2800 + F) 4 * x.tether) ≤ 100 * s.occupancy F →
        ∃ v, exec (.tetherSample f) s = .next v ∧ (v.flight F).tether = min x.tether (max (x.tether / 2) (s.obj o 1)))) ∧
    (x.state ≠ .running → x.state ≠ .halting → exec (.tetherSample f) s = .next s)

/-- R11, R313 to R320, R328, R354: a write of a value that an object takes stores it; a missing or read-only object, a wrong length,
a value out of range and a transactional object outside a transaction are refused with the code of Table 16.1; a path that does not
serve changes nothing; a busy mailbox counts the write, one between the chunks of another write refuses it and discards that one; a write
during a firmware switch is held. -/
def Obligations.ObjectWrites : Prop :=
  ∀ (path : Path) (index : BitVec 16) (sub : BitVec 8) (data : List (BitVec 8)) (s : State) (o : ObjInfo),
    let ix := index.toNat
    let k := sub.toNat
    let w := Instr.objectWrite path index sub data
    let info := objInfo ix k
    let barred := path = .pcie ∧ (ix = 0x2326 ∨ ix = 0x2100 ∧ k = 0xF)
    (Reachable s path → barred → info = some o → Aborted w s path ix k 0x06010000) ∧
    (Reachable s path → ¬ barred →
      (info = some o → o.cls = .lv → PlainObject ix → ValueOf s ix k o data →
        exec w s = .next (accepted ((asked s path ix k data).setObj ix k (bytesToNat data)) path) ∧ (s.setObj ix k (bytesToNat data)).obj ix k = bytesToNat data ∧
          ∀ j l : Nat, l < 256 → (j, l) ≠ (ix, k) → (s.setObj ix k (bytesToNat data)).obj j l = s.obj j l) ∧
      (info = none → Aborted w s path ix k (if objIndex ix then 0x06090011 else 0x06020000)) ∧
      (info = some o → o.cls = .ro ∨ o.cls = .const → Aborted w s path ix k 0x06010002) ∧
      (info = some o → o.cls = .lv ∨ o.cls = .rw → data.length ≠ o.bytes → Aborted w s path ix k 0x06070010) ∧
      (info = some o → o.cls = .lv ∨ o.cls = .rw → o.domain = false → data.length = o.bytes → bytesToNat data < 2 ^ o.bits → o.ok (bytesToNat data) = false →
        Aborted w s path ix k 0x06090030) ∧
      (info = some o → o.cls = .tx → s.txn.status ≠ 1 ∨ s.txn.owner ≠ some path → Aborted w s path ix k 0x08000021)) ∧
    (path = .can → s.can.stopped = true ∨ s.dictOpen = false → exec w s = .next s) ∧
    (path = .pcie → s.hostServes = false → exec w s = .next { s with host := { s.host with aer := s.host.aer ||| 2 } }) ∧
    (path = .pcie → s.hostServes = true →
      (s.host.mb.busy = true → exec w s = .next (s.setObj 0x3500 4 (satInc 32 (s.obj 0x3500 4)))) ∧
      (s.host.mb.busy = false → s.fw.bootMode = true → Aborted w s path ix k 0x08000022)) ∧
    (path = .pcie → Served s path → s.host.mb.busy = false → s.host.mb.collect.isSome = true →
      Aborted w s path ix k 0x06070010 ∧ ∃ v, exec w s = .next v ∧ v.host.mb.collect = none) ∧
    (s.dictOpen = true → s.fw.held = true →
      let waits := fun u : State => { u with fw := { u.fw with heldAccesses := u.fw.heldAccesses ++ [.write path ix k data] } }
      (path = .can → s.can.stopped = false → exec w s = .next (waits s)) ∧
      (path = .pcie → s.hostServes = true → s.fw.bootMode = false → s.host.mb.busy = false →
        exec w s = .next (waits { s with host := { s.host with mb := { s.host.mb.loaded ix k data with busy := true, done := false } } })))

/-- R327 to R331: BEGIN opens a transaction for its path; a transactional write is staged and changes no object; COMMIT with the right
sequence and a passing validation begins the preparation; its end applies an immediate commit and the commit point a waterline one:
every staged value takes effect in one step; ROLLBACK and the idle timeout discard the staged values. -/
def Obligations.Transactions : Prop :=
  ∀ (path : Path) (seq : BitVec 16) (index : BitVec 16) (sub : BitVec 8) (data : List (BitVec 8)) (s : State) (o : ObjInfo),
    let ready := { s with txn := { s.txn with status := 3 } }
    let pointed := fun u : State => { u with txn := { u.txn with point := s.obj 0x2000 3, flightChanged := false } }
    let ctrl := natToBytes 4 (2 + 65536 * seq.toNat)
    let x : Stage := { index := index.toNat, sub := sub.toNat, route := none, value := bytesToNat data }
    let rest := s.txn.staged.filter (fun y => ¬ (y.index = x.index ∧ y.sub = x.sub ∧ y.route = none))
    let applied := fun (i : Instr) => ∃ v, exec i s = .next v ∧ v.txn.status = 4 ∧ v.txn.staged = [] ∧
      ∀ y ∈ s.txn.staged, v.obj y.index y.sub = y.value
    let dropped := fun (i : Instr) (n : Nat) => ∃ v, exec i s = .next v ∧ v.txn.status = n ∧ v.txn.staged = [] ∧ v.objs = s.objs
    (Reachable s path →
      (s.txn.status = 0 ∨ 3 < s.txn.status → ∃ v, exec (.beginTxn path) s = .next v ∧ v.txn.status = 1 ∧ v.txn.owner = some path ∧
        v.txn.staged = [] ∧ v.txn.seq = s.txn.seq + 1 ∧ v.obj 0x2000 3 = 0) ∧
      (1 ≤ s.txn.status → s.txn.status ≤ 3 → Aborted (.beginTxn path) s path 0x2000 1 0x08000022) ∧
      (s.txn.status = 1 → s.txn.owner = some path → objInfo x.index x.sub = some o → o.cls = .tx → x.index ≠ 0x2030 →
        ValueOf s x.index x.sub o data → rest.length < 4096 →
        exec (.txWrite path index sub data) s =
          .next (accepted { asked s path x.index x.sub data with txn := { s.txn with staged := rest ++ [x] } } path)) ∧
      (s.txn.status = 1 → s.txn.owner = some path → seq = s.txn.seq → (pointed s).validate.1 = 0 →
        exec (.commit path seq) s =
          .next (accepted { asked s path 0x2000 1 ctrl with txn := { (pointed s).txn with status := 2 } } path)) ∧
      (seq ≠ s.txn.seq → Aborted (.commit path seq) s path 0x2000 1 0x08000021 ∧ Aborted (.rollback path seq) s path 0x2000 1 0x08000021) ∧
      (seq = s.txn.seq → 1 ≤ s.txn.status → s.txn.status ≤ 3 → dropped (.rollback path seq) 5)) ∧
    (s.txn.status = 2 → s.txn.atWaterline = true → exec .preparationDone s = .next ready) ∧
    ((∀ y ∈ s.txn.staged, PlainStage y) → (s.txn.staged.map (fun y => (y.index, y.sub))).Nodup →
      (s.txn.status = 2 → s.txn.atWaterline = false → ready.validate.1 = 0 → applied .preparationDone) ∧
      (s.txn.status = 3 → s.pointHolds = true → s.validate.1 = 0 → applied .commitApplication)) ∧
    (s.txn.status = 3 → s.pointHolds = true → s.validate.1 ≠ 0 → dropped .commitApplication 6) ∧
    (s.txn.status = 3 → s.pointHolds = false → exec .commitApplication s = .next s) ∧
    (s.txn.status ≠ 2 → exec .preparationDone s = .next s) ∧
    (s.txn.status = 1 → dropped .idleTimeout 7) ∧
    (s.txn.status ≠ 1 → exec .idleTimeout s = .next s)

/-- R293, R299, R303, R304, R309, R322, R346, R353, R354, R376, R377: the commands that write one object: saving and asking for factory defaults,
the device reset, emptying the record and the pinned entries, clearing a source's status bits and the error field, arming and
disarming the injection, writing an image and asking for a switch, starting and stopping capture. -/
def Obligations.ObjectRows : Prop :=
  ∀ (path : Path) (s : State) (cls inst : BitVec 5) (mask : BitVec 16) (image : List (BitVec 8)) (w : Nat) (b : BitVec 4),
    let does := fun (i : Instr) (ix sub : Nat) (v : BitVec 8) (f : State → State) => exec i s = .next (accepted (f (asked s path ix sub [v])) path)
    let src := srcId cls.toNat inst.toNat
    let x := s.traceBuf b.toNat
    let busy := s.fw.update = 3 ∨ s.fw.update = 4
    (Reachable s path →
      (s.txn.status = 0 ∨ 3 < s.txn.status → ∃ (u : State) (k : Fin 2), exec (.save path) s = .next (accepted u path) ∧ s.nvInUse ≠ some k.val ∧
        u.fw.nv[k].count = BitVec.ofNat 32 (s.saveCount + 1) ∧ u.fw.nv[k].valid = true ∧
        u.fw.nv[k].values = (if s.fw.factoryNext then [] else s.objs.filter (fun y => nvKey y.1)) ∧
        (∀ j : Fin 2, j ≠ k → u.fw.nv[j] = s.fw.nv[j]) ∧ u.objs = s.objs) ∧
      does (.factory path) 0x2180 2 1 (fun u => { u with fw := { u.fw with factoryNext := true } }) ∧
      (path = .can → ∃ v, exec (.deviceReset path 0xA5) s = .next v ∧ v.dev = .off ∧ v.objs = [] ∧ v.engines = State.reset.engines ∧
        v.retired = s.retired ∧ v.col.ring = s.col.ring ∧ v.col.pinned = s.col.pinned ∧ v.fw.slots = s.fw.slots ∧ v.tap = s.tap ∧ v.pending = s.pending) ∧
      (path = .pcie → Aborted (.deviceReset path 0xA5) s path 0x2100 0xF 0x06010000) ∧
      does (.recordEmpty path 0) 0x3001 2 0 (fun u => { u with col := { u.col with record := 0, full := false } }) ∧
      (s.col.full = false → does (.clearPinned path 1) 0x3003 7 1 (fun u => { u with col := { u.col with pinned := [] } })) ∧
      (s.col.full = true → Aborted (.clearPinned path 1) s path 0x3003 7 0x08000022) ∧
      (cls.toNat < 30 → ∃ v, exec (.sourceStatusClear path cls inst mask) s = .next v ∧
        (∀ i, i = 0 ∨ i = 5 ∨ (i = 1 ∧ s.causePersists src = false) → mask.getLsbD i = true → (v.status src).testBit i = false) ∧
        (∀ i, i < 4 → mask.getLsbD i = false ∨ 2 ≤ i → (v.status src).testBit i = (s.status src).testBit i) ∧
        ∀ z, z / 32 < 30 → z ≠ src → v.status z = s.status z) ∧
      exec (.errorFieldClear path 0) s =
        .next (accepted { asked s path 0x1003 0 [0, 0, 0, 0] with col := { s.col with errors := [] } } path) ∧
      (s.col.armed = false → sourceListed (s.obj 0x3002 1) = true → checkerWidth (s.obj 0x3002 1) (s.obj 0x3002 2) = some w →
        s.obj 0x3002 3 ≠ 0 → s.obj 0x3002 3 < 2 ^ w →
        does (.injectionArm path) 0x3002 5 1 (fun u => ({ u with col := { u.col with armed := true } }).setObj 0x3002 6 (s.obj 0x3002 4))) ∧
      (s.col.armed = true → Aborted (.injectionArm path) s path 0x3002 5 0x08000022) ∧
      does (.injectionDisarm path) 0x3002 5 0 (fun u => ({ u with col := { u.col with armed := false } }).setObj 0x3002 6 0) ∧
      (¬ busy → 1 ≤ image.length → image.length ≤ 2 ^ 23 → ∃ v, exec (.imageWrite path image) s = .next v ∧ v.fw.update = 2 ∧
        v.slot s.inactiveSlot = { state := if imageValid image then 1 else 2, version := imageVersion image, image := image } ∧
        v.slot s.preferredSlot = s.slot s.preferredSlot ∧ v.fw.running = s.fw.running) ∧
      (busy → 1 ≤ image.length → image.length ≤ 2 ^ 23 → Aborted (.imageWrite path image) s path 0x2190 1 0x08000022) ∧
      (¬ busy → (s.slot s.inactiveSlot).state = 1 → ∃ v, exec (.activate path 1) s = .next v ∧ v.fw.update = 3 ∧ v.fw.slots = s.fw.slots) ∧
      (busy ∨ (s.slot s.inactiveSlot).state ≠ 1 → Aborted (.activate path 1) s path 0x2190 6 0x08000022) ∧
      (s.capturing = false → (s.domain 39).state = .live → (s.domain 39).contained = false → (∀ n < 4, s.obj (0x3620 + n) 1 ≠ 1) → ∃ v, exec (.captureEnable path) s = .next v ∧ v.trace.state = 1 ∧
        v.trace.bufs = [] ∧ v.trace.firing = 0xFF ∧ v.obj 0x3600 1 = 1) ∧
      (s.capturing = true → Aborted (.captureEnable path) s path 0x3600 1 0x08000022) ∧
      (30 ≤ cls.toNat → Aborted (.sourceStatusClear path cls inst mask) s path (0x3060 + cls.toNat) (inst.toNat + 1) 0x06020000) ∧
      ∃ v, exec (.captureDisable path) s = .next v ∧ v.trace.state = 3 ∧ v.trace.bufs = s.trace.bufs ∧ v.obj 0x3600 1 = 0) ∧
    (x.left = some 0 → x.stopped = false → ∃ v, exec (.postTriggerStop b) s = .next v ∧ (v.traceBuf b.toNat).stopped = true ∧
      ∀ c, c ≠ b.toNat → v.traceBuf c = s.traceBuf c) ∧
    (x.left ≠ some 0 ∨ x.stopped = true → exec (.postTriggerStop b) s = .next s)

/-- R277 to R286, Tables 14.1 to 14.5: a permitted deflate or a reset of a LIVE domain enters QUIESCE (a cluster) or DRAIN, and is refused
while the cluster's flight runs; an inflate brings an OFF domain to POWER; DRAIN ends in OFF, or in RESTORE for a reset, and at its
timeout with event 0x22; POWER leads to RESTORE, RESTORE to JOIN or LIVE, or to containment when a self-test fails. -/
def Obligations.PowerSequences : Prop :=
  ∀ (path : Path) (d : BitVec 6) (s : State),
    let n := d.toNat
    let x := s.domain n
    let entered := if n < 32 then DState.quiesce else .drain
    let count := fun v : State => v.obj (0x2300 + n) 6 = satInc 32 (s.obj (0x2300 + n) 6)
    let ended := fun v : State => if x.resetting then (v.domain n).state = .restore ∧ (v.domain n).contained = false
      else (v.domain n).state = (if x.queued = 2 then .power else .off) ∧ (n < 32 → (v.domain n).imageLost = true) ∧ count v
    (n < 40 → Reachable s path → ¬ (path = .pcie ∧ n = 38) →
      (x.state = .live → n < 32 → FlightRests s n ∨ x.contained = true →
        Takes (.deflate path d) s path fun v => (v.domain n).state = .quiesce ∧ (v.domain n).resetting = false ∧ v.noc.flipWanted = true) ∧
      (x.state = .live → n < 32 → x.contained = false → ¬ FlightRests s n → Aborted (.deflate path d) s path (0x2300 + n) 3 0x08000022) ∧
      (x.state = .live → 36 ≤ n → n ≠ 38 ∨ path = .can → Takes (.deflate path d) s path fun v => (v.domain n).state = .drain) ∧
      (x.state = .off → Takes (.deflate path d) s path (fun v => v.domain n = { x with request := 1 }) ∧
        Takes (.inflate path d) s path (fun v => v.domain n = { x with request := 2, state := .power }) ∧
        Aborted (.domainReset path d) s path (0x2300 + n) 3 0x08000022) ∧
      (x.state = .live → Takes (.inflate path d) s path (fun v => v.domain n = { x with request := 2 } ∧ count v)) ∧
      (x.state = .quiesce → n < 32 → Takes (.inflate path d) s path fun v => (v.domain n).cancelled = true ∧ v.noc.flipWanted = true) ∧
      (x.state = .isolate → Takes (.inflate path d) s path (fun v => (v.domain n).queued = 2)) ∧
      (x.state = .live → Takes (.domainReset path d) s path (fun v => (v.domain n).state = entered ∧ (v.domain n).resetting = true))) ∧
    (n < 40 →
      (x.state = .drain → x.cancelled = false →
        (s.drained n = true → (∃ v, exec (.drainEnd d) s = .next v ∧ ended v) ∧ exec (.drainTimeout d) s = .next s) ∧
        (s.drained n = false → exec (.drainEnd d) s = .next s ∧ ∃ v, exec (.drainTimeout d) s = .next v ∧ ended v ∧
          ∃ e ∈ v.col.detected, e.src = srcId 25 0 ∧ e.code = 0x22 ∧ e.level = 2 ∧ e.d1 = n)) ∧
      (x.state ≠ .drain → exec (.drainEnd d) s = .next s ∧ exec (.drainTimeout d) s = .next s) ∧
      (x.state = .power → ∃ v, exec (.powerUp d) s = .next v ∧ (v.domain n).state = .restore ∧ (v.domain n).contained = false ∧
        (n < 32 → (v.cluster n).clock = min (s.obj (0x2210 + n) 2) (s.cluster n).ceiling)) ∧
      (x.state ≠ .power → exec (.powerUp d) s = .next s) ∧
      (x.state = .restore → x.contained = false →
        (n < 32 → ∃ v, exec (.restoreComplete d true) s = .next v ∧ (v.domain n).state = .join ∧ v.noc.flipWanted = true) ∧
        (32 ≤ n → x.queued ≠ 1 → ∃ v, exec (.restoreComplete d true) s = .next v ∧ (v.domain n).state = .live ∧ count v) ∧
        ∃ v, exec (.restoreComplete d false) s = .next v ∧ (v.domain n).state = .restore ∧ (v.domain n).contained = true ∧
          LastEvent s v (domainSource n) 0x08 3) ∧
      (x.state ≠ .restore ∨ x.contained = true → ∀ ok, exec (.restoreComplete d ok) s = .next s)) ∧
    (40 ≤ n →
      (Reachable s path → ∀ i ∈ [Instr.deflate path d, .inflate path d, .domainReset path d], Aborted i s path (0x2300 + n) 3 0x06020000) ∧
      ∀ ok, ∀ i ∈ [Instr.drainEnd d, .drainTimeout d, .powerUp d, .restoreComplete d ok], exec i s = .next s)

/-- R13, R262, R263, R287, R288, R366, Tables 13.3, 14.6: a clock request starts a change towards the setting or the ceiling, which the
switch completes between activations and a running activation abandons with event 0x3D, its target kept; a cluster that is not LIVE takes
no change; a hot sensor puts every ceiling at
1,000 MHz, a warm cluster's falls one step, over the cap that of the cluster with the highest power; the trip opens every cluster; a
rail failure contains its domains. -/
def Obligations.ClocksAndPolicy : Prop :=
  ∀ (c : BitVec 5) (mhz : BitVec 12) (s : State) (temps : List Int) (power : Nat) (draws : List Nat) (sensor : BitVec 6) (temp : Int) (rail : Rail),
    let k := c.toNat
    let x := s.cluster k
    let want := min mhz.toNat x.ceiling
    let setting := 1000 ≤ mhz.toNat ∧ mhz.toNat ≤ 3000 ∧ mhz.toNat % 125 = 0
    let t := fun i => temps.getD i 0
    let lowered := fun i => max 1000 ((s.cluster i).ceiling - 125)
    let sampled := fun (q : State → Prop) => ∃ v, exec (.thermalSample temps power draws) s = .next v ∧ v.temps = temps ∧ v.power = power ∧ q v
    let high : Int := 10 * s.obj 0x2380 2
    (setting → (s.domain k).state = .live →
      ∃ v, exec (.clockRequest c mhz) s = .next v ∧ v.obj (0x2210 + k) 2 = mhz.toNat ∧ (v.cluster k).clock = x.clock ∧
        (want = x.clock → (v.cluster k).phase = .idle) ∧
        (want ≠ x.clock → (v.cluster k).target = want ∧ (x.phase = .idle ∨ x.target ≠ want → (v.cluster k).phase = .locking))) ∧
    (¬ setting → exec (.clockRequest c mhz) s = .next s) ∧
    (x.phase = .locking → (s.domain k).state = .live → exec (.standbyPllLock c) s = .next (s.setCluster k { x with phase := .stopping })) ∧
    (x.phase ≠ .locking ∨ (s.domain k).state ≠ .live → exec (.standbyPllLock c) s = .next s) ∧
    (x.phase ≠ .stopping ∨ (s.domain k).state ≠ .live → exec (.clockSwitch c) s = .next s) ∧
    (x.phase = .stopping →
      ((∀ i < 16, (s.core (16 * k + i)).act = none) → exec (.clockChangeAbandon c) s = .next s ∧
        ((s.domain k).state = .live → ∃ v, exec (.clockSwitch c) s = .next v ∧ (v.cluster k).clock = x.target ∧ (v.cluster k).phase = .idle ∧
          v.obj (0x2210 + k) 4 = satInc 32 (s.obj (0x2210 + k) 4))) ∧
      ((∃ i < 16, (s.core (16 * k + i)).act ≠ none) → exec (.clockSwitch c) s = .next s ∧
        ∃ v, exec (.clockChangeAbandon c) s = .next v ∧ (v.cluster k).clock = x.clock ∧ (v.cluster k).phase = .idle ∧ (v.cluster k).target = x.target ∧
          v.obj (0x2210 + k) 5 = satInc 32 (s.obj (0x2210 + k) 5) ∧ LastEvent s v (srcId 16 k) 0x3D 1)) ∧
    (s.dictOpen = true → s.fw.held = false →
      ((∃ i < 38, 1000 ≤ t i) → sampled fun v => (∀ i < 32, (v.cluster i).ceiling = 1000) ∧
        ∀ i < 38, 1000 ≤ t i → ∃ e ∈ v.col.detected, e.src = sensorSource i ∧ e.code = 0x3A ∧ e.level = 2) ∧
      ((∀ i < 38, t i < 1000) → (∃ i < 32, high ≤ t i) → sampled fun v =>
        ∀ i < 32, (v.cluster i).ceiling = if high ≤ t i then lowered i else (s.cluster i).ceiling) ∧
      ((∀ i < 38, t i < 1000) → (∀ i < 32, t i < high) → s.obj 0x2380 1 < power → ∀ j < 32, (∀ i < j, draws.getD i 0 < draws.getD j 0) →
        (∀ i < 32, draws.getD i 0 ≤ draws.getD j 0) → sampled fun v =>
        ∀ i < 32, (v.cluster i).ceiling = if i = j then lowered j else (s.cluster i).ceiling)) ∧
    (s.dictOpen = false → exec (.thermalSample temps power draws) s = .next s) ∧
    (s.dictOpen = true → s.fw.held = true → exec (.thermalSample temps power draws) s =
      .next { s with fw := { s.fw with deferred := s.fw.deferred ++ [.sample temps power draws] } }) ∧
    (1100 ≤ temp → sensor.toNat < 38 → s.dev ≠ .off → s.dev ≠ .reset →
      ∃ v, exec (.thermalTrip sensor temp) s = .next v ∧ v.tripped = true ∧
        ∀ i < 32, (v.domain i).state = .off ∧ (v.domain i).contained = true ∧ (v.domain i).imageLost = true ∧
          ∃ e ∈ v.col.detected, e.src = srcId 16 i ∧ e.code = 0x3B ∧ e.level = 3) ∧
    (temp < 1100 → exec (.thermalTrip sensor temp) s = .next s) ∧
    (s.dev ≠ .off → s.dev ≠ .reset → ∃ v, exec (.railFailure rail) s = .next v ∧ (∀ i ∈ railDomains rail, (v.domain i).contained = true) ∧
      (rail = .hbm ∨ rail = .vppHbm ∨ rail = .vddqHbm → v.hbm = []) ∧ (railDomains rail = [] → LastUnder s v (srcId 29 1) 4)) ∧
    (s.dev = .off ∨ s.dev = .reset → exec (.railFailure rail) s = .next s) ∧
    (s.dev ≠ .off → ∃ v, exec .refclkFailure s = .next v ∧ ∃ e, v.col.detected = s.col.detected ++ [e] ∧ e.src = srcId 29 2) ∧
    (s.dev = .off → exec .refclkFailure s = .next s)

/-- R292 to R301, R307 to R310, Tables 15.4 to 15.9: the oldest event of a class enters its class queue and is counted, or loses its
record when the queue is full; when the stamp of a single event closes, its level is recorded, the first fault is captured and the
reactions are taken; a queued entry is written to the ring slot of the next sequence, or its write fails with event 0x51, or it is one too
many for the second and is suppressed. -/
def Obligations.FaultCollection : Prop :=
  ∀ (cls : BitVec 5) (stamp : BitVec 64) (s : State) (e : Event) (rest : List Event) (i : LogItem) (q : List LogItem),
    let c := cls.toNat
    let w := tget (0, 0) s.col.windows e.src
    let cfg := s.obj (0x3040 + e.src / 32) (e.src % 32 + 1)
    let span := cfg / 2 ^ 16 % 2 ^ 16 * 10 ^ 6
    let start := e.stamp / span * span
    let t := stamp.toNat
    let l := recordedLevel s e
    let r := reactionsAt e.cfg l
    let seq := s.col.nextSeq
    let after := q ++ s.col.early.take (64 - q.length)
    let spent := i.pinned = false ∧ s.obj 0x3003 8 ≤ (if s.col.rate.1 = s.now / 10 ^ 9 then s.col.rate.2 else 0)
    (c < 30 → OldestOf s c e rest →
      ((tget [] s.col.queues c).length < 16 →
        ∃ v x, exec (.faultEvent cls) s = .next v ∧ v.col.detected = rest ∧ tget [] v.col.queues c = tget [] s.col.queues c ++ [x] ∧
          x.src = e.src ∧ x.code = e.code ∧ x.level = e.level ∧ x.d0 = e.d0 ∧ x.d1 = e.d1 ∧ x.stamp = e.stamp ∧ x.cfg = cfg ∧
          (s.col.closed ≤ e.stamp → x.close = e.stamp ∧ x.late = false) ∧ v.obj 0x3000 2 = s.obj 0x3000 2 + 1 ∧
          (s.col.closed ≤ e.stamp → e.level ≤ 2 → e.injected = false →
            (w.1 = start → tget (0, 0) v.col.windows e.src = (start, w.2 + 1) ∧ (x.reached = true ↔ cfg % 2 ^ 16 ≠ 0 ∧ cfg % 2 ^ 16 ≤ w.2 + 1)) ∧
            (w.1 < start → tget (0, 0) v.col.windows e.src = (start, 1) ∧ (x.reached = true ↔ cfg % 2 ^ 16 = 1)))) ∧
      (16 ≤ (tget [] s.col.queues c).length → e.src < 960 →
        ∃ v y, exec (.faultEvent cls) s = .next v ∧ v.col.queues = s.col.queues ∧ (v.status e.src).testBit 5 = true ∧
          v.col.detected = rest ++ [y] ∧ y.src = srcId 25 2 ∧ y.code = 0x50 ∧ y.level = 1)) ∧
    (c < 30 → (∀ x ∈ s.col.detected, x.src / 32 ≠ c) → exec (.faultEvent cls) s = .next s) ∧
    (30 ≤ c → exec (.faultEvent cls) s = .next s) ∧
    (s.col.taken.filter (fun x => x.close == t) = [e] → e.injected = false → e.src < 960 → 1 ≤ l →
      ∃ v, exec (.stampClose stamp) s = .next v ∧ v.col.closed = max s.col.closed (t + 1) ∧
        (∀ x ∈ v.col.taken, x.close ≠ t) ∧ (v.status e.src).testBit (l - 1) = true ∧
        (e.level ≤ 2 → e.reached = true → (v.status e.src).testBit 4 = true) ∧
        (s.col.full = false → s.obj 0x3001 3 ≤ l → v.col.full = true ∧ entryValid v.col.record = true ∧
          v.col.record.extractLsb' 24 64 = BitVec.ofNat 64 e.stamp ∧ v.col.record.extractLsb' 88 10 = BitVec.ofNat 10 e.src ∧
          v.col.record.extractLsb' 98 3 = BitVec.ofNat 3 l ∧ v.col.record.extractLsb' 101 3 = BitVec.ofNat 3 e.level ∧
          v.col.record.extractLsb' 104 8 = BitVec.ofNat 8 e.code ∧ v.col.record.extractLsb' 150 40 = BitVec.ofNat 40 e.d0 ∧
          v.col.record.extractLsb' 190 40 = BitVec.ofNat 40 e.d1 ∧
          (s.col.headKnown = true → s.col.pinnedUsed < 256 → ∃ x ∈ v.col.logQ ++ v.col.early, x.entry = v.col.record ∧ x.pinned = true)) ∧
        (s.col.full = true → v.col.record = s.col.record) ∧
        (r.testBit 1 = true → v.obj (0x3080 + e.src / 32) (e.src % 32 + 1) = satInc 32 (s.obj (0x3080 + e.src / 32) (e.src % 32 + 1))) ∧
        (r.testBit 4 = true → v.alertLow = true) ∧ (r.testBit 6 = true → e.src < 512 → (v.domain (e.src / 16)).contained = true)) ∧
    (s.col.logQ = i :: q → ¬ spent →
      (∃ v y, exec (.logbookEntryWrite true) s = .next v ∧ v.col.logQ = after ∧ tget 0 v.col.ring (seq % 65536) = y ∧ v.col.head = seq ∧
        v.col.nextSeq = (seq + 1) % 2 ^ 24 ∧ v.col.suppressed = 0 ∧ entryValid y = true ∧ y.extractLsb' 0 24 = BitVec.ofNat 24 seq ∧
        y.extractLsb' 24 206 = i.entry.extractLsb' 24 206 ∧ y.extractLsb' 230 10 = BitVec.ofNat 10 (min s.col.suppressed 1023) ∧
        (∀ k, k ≠ seq % 65536 → tget 0 v.col.ring k = tget 0 s.col.ring k) ∧
        (i.pinned = true → ∀ k, s.col.freePinned = some k → tget 0 v.col.pinned k = y)) ∧
      ∃ v, exec (.logbookEntryWrite false) s = .next v ∧ v.col.logQ = after ∧ v.obj 0x3003 6 = satInc 32 (s.obj 0x3003 6) ∧
        LastEvent s v (srcId 25 4) 0x51 2) ∧
    (s.col.logQ = i :: q → spent → ∀ ok, ∃ v, exec (.logbookEntryWrite ok) s = .next v ∧ v.col.logQ = after ∧ v.col.ring = s.col.ring ∧
      v.obj 0x3003 6 = satInc 32 (s.obj 0x3003 6) ∧ v.col.suppressed = s.col.suppressed + 1 ∧ v.col.detected = s.col.detected) ∧
    (s.col.logQ = [] → ∀ ok, exec (.logbookEntryWrite ok) s = .next s)

/-- R192 to R196, R200, R201, R203 to R205: a dredge read of a clean word or line only moves its pointer on, and the lap of its bank with
it; of a local word with one bit inverted it corrects the word in the bank's correction buffer and reports 0x01, with two in one nonet it
reports 0x04 and leaves the word; an HBM line with one bit inverted is written back corrected. A write-back stores the word of the
correction buffer. -/
def Obligations.DredgeReads : Prop :=
  ∀ (s : State) (g : BitVec 9) (b : BitVec 3) (c : BitVec 5) (k : BitVec 4) (n : BitVec 2) (v : Word) (pr mark : Bool) (data : BitVec 216)
    (poison : BitVec 6) (i j m : Nat) (cell : Stored) (entry : StoredEntry) (a : Nat),
    let e := s.engine g.toNat
    let y := s.cluster c.toNat
    let size := if b.toNat < 3 then 0x8000 else if b.toNat = 3 then 0x7800 else 0x800
    let p := tget 0 e.dredge b.toNat
    let adr := (if b.toNat < 4 then 0x8000 * b.toNat else 0x1F800) + p
    let moves := fun (i : Instr) (u : State) (bank next : Nat) =>
      let old := tget (0, 0, 0) s.chipLaps bank
      let began := if old.1 = 0 then s.now + 1 else old.1
      ∃ t, exec i s = .next t ∧ t = { u with chipLaps := t.chipLaps } ∧
        tget (0, 0, 0) t.chipLaps bank = if next = 0 then (0, old.2.1 + 1, s.now + 1 - began) else (began, old.2.1, old.2.2)
    let ix := tget 0 e.dredge 5
    let row := tget 0 y.dredge k.toNat
    let at' := 16 * row + k.toNat
    let h := tget 0 s.hbmDredge n.toNat
    let line := stackLine n.toNat h
    let hbmOn := s.obj 0x2E00 2 = 1 ∧ s.hbmServes n.toNat = true ∧ s.dev ≠ .off ∧ s.dev ≠ .reset ∧ s.dev ≠ .selftest
    let local' := Instr.dredgeRead (.localBank g b)
    (s.col.armed = false →
      (b.toNat < 5 → s.dredgeEngine g.toNat = true → s.retiredPage g.toNat adr = false → p < size →
        (e.cell adr = encodeWord adr v → moves local' (s.setEngine g.toNat { e with dredge := tput 0 b.toNat (further size p) e.dredge })
          (6 * g.toNat + b.toNat) (further size p)) ∧
        (i < 56 → e.cell adr = encodeWord adr v ^^^ (1#56 <<< i) → (∀ x ∈ e.corr, x.1 ≠ b.toNat) →
          ∃ t, exec local' s = .next t ∧ (b.toNat, adr, encodeWord adr v) ∈ (t.engine g.toNat).corr ∧ (t.engine g.toNat).mem = e.mem ∧
            (t.engine g.toNat).cell adr = encodeWord adr v ∧ LastEvent s t g.toNat 0x01 1) ∧
        (m < 4 → i < 14 → j < 14 → i ≠ j → e.cell adr = flipped (encodeWord adr v) (14 * m + i) (14 * m + j) →
          ∃ t, exec local' s = .next t ∧ (t.engine g.toNat).cell adr = e.cell adr ∧ LastEvent s t g.toNat 0x04 2)) ∧
      (s.dredgeEngine g.toNat = true → e.entry ix = encodeEntry ix v pr mark →
        moves (.dredgeRead (.matching g)) (s.setEngine g.toNat { e with dredge := tput 0 5 (further 16384 ix) e.dredge }) (6 * g.toNat + 5)
          (further 16384 ix)) ∧
      (s.obj 0x2E00 1 = 1 → s.storageRuns c.toNat = true → s.retiredBank c.toNat k.toNat = false → y.cell at' = encodeWord at' v →
        moves (.dredgeRead (.storeBank c k)) (s.setCluster c.toNat { y with dredge := tput 0 k.toNat (further 0x8000 row) y.dredge })
          (3072 + 16 * c.toNat + k.toNat) (further 0x8000 row)) ∧
      (hbmOn → s.retiredRow line = false →
        (s.hbmLine line = encodeLine line data poison →
          ∃ t, exec (.hbmDredgeRead n) s = .next t ∧ t.hbm = s.hbm ∧ t.col = s.col ∧ tget 0 t.hbmDredge n.toNat = further stackLines h) ∧
        (i < 256 → s.hbmLine line = encodeLine line data poison ^^^ (1#256 <<< i) →
          ∃ t, exec (.hbmDredgeRead n) s = .next t ∧ t.hbmLine line = encodeLine line data poison ∧ LastEvent s t (srcId 20 (stackOf line)) 0x01 1))) ∧
    (s.obj 0x2E00 1 ≠ 1 → b.toNat < 5 → exec local' s = .next s ∧ exec (.dredgeRead (.matching g)) s = .next s ∧
      exec (.dredgeRead (.storeBank c k)) s = .next s) ∧
    (s.obj 0x2E00 2 ≠ 1 → exec (.hbmDredgeRead n) s = .next s) ∧
    (5 ≤ b.toNat → exec local' s = .next s ∧ exec (.correctionWriteBack (.localBank g b)) s = .next s) ∧
    (b.toNat < 5 → (e.corr.find? (fun x => x.1 == b.toNat) = some (b.toNat, a, cell) →
        ∃ t, exec (.correctionWriteBack (.localBank g b)) s = .next t ∧ tget (encodeWord a 0) (t.engine g.toNat).mem a = cell ∧
          (t.engine g.toNat).corr.find? (fun x => x.1 == b.toNat) = none) ∧
      (e.corr.find? (fun x => x.1 == b.toNat) = none → exec (.correctionWriteBack (.localBank g b)) s = .next s)) ∧
    (e.matchCorr = some (a, entry) → ∃ t, exec (.correctionWriteBack (.matching g)) s = .next t ∧ (t.engine g.toNat).entry a = entry ∧
      (t.engine g.toNat).matchCorr = none) ∧
    (y.corr.find? (fun x => x.1 == k.toNat) = some (k.toNat, a, cell) →
      ∃ t, exec (.correctionWriteBack (.storeBank c k)) s = .next t ∧ tget (encodeWord a 0) (t.cluster c.toNat).store a = cell ∧
        (t.cluster c.toNat).corr.find? (fun x => x.1 == k.toNat) = none)

/-- R235 to R245: a good sequenced block in sequence is taken and its flits delivered, one out of sequence, with a bad CRC or a bad sync
header is a block error; a status flit acknowledges blocks and asks for a replay, a timeout replays or, after seven failures, gives
up with event 0x28; a port sends link control that is due, blocks again, new flits kept for replay, or a filler. -/
def Obligations.LinkBlocks : Prop :=
  ∀ (p : BitVec 3) (s : State) (x : BitVec 1026) (b : BitVec 1024) (f : BitVec 192) (l : List (BitVec 192)) (blocks : List (BitVec 1026))
    (count : BitVec 10) (errors : Nat) (z : Staged) (c : BitVec 58),
    let k := p.toNat
    let y := s.port k
    let seqd := ∃ i < 5, 2 ≤ blockCode b i
    let vc := (ctlVc ((blockSlot b 0).extractLsb' 96 96)).toNat
    let counted := fun (v : State) n => v.obj (0x2C20 + k) n = satInc 32 (s.obj (0x2C20 + k) n)
    let idle := y.statusDue = false ∧ y.syncOut = [] ∧ y.sinceFiller < 2047
    (descramble (scramble b c).1 c).1 = b ∧
    (GoodBlock s k x b →
      (seqd → blockSeq b = y.rxNext → ∃ v, exec (.linkBlock p x) s = .next v ∧ (v.port k).rxNext = y.rxNext + 1 ∧
        (v.port k).wantReplay = false ∧ (v.port k).statusDue = true ∧
        (blockCode b 0 = 5 → (∀ i < 5, 1 ≤ i → blockCode b i = 0) →
          tget [] (v.port k).ingress (2 * vc) = tget [] y.ingress (2 * vc) ++ [{ bits := blockSlot b 0, tag := 3, inj := 36 + k }])) ∧
      (seqd → 1024 < (y.rxNext - blockSeq b).toNat → (∀ i < 5, blockCode b i ≠ 1) →
        ∃ v, exec (.linkBlock p x) s = .next v ∧ (y.wantReplay = false → BlockError s v k)) ∧
      (¬ seqd → ∃ v, exec (.linkBlock p x) s = .next v ∧ (v.port k).rxNext = y.rxNext ∧ (v.port k).ingress = y.ingress)) ∧
    (y.state = .connected → x.extractLsb' 0 2 = 0 ∨ x.extractLsb' 0 2 = 3 → y.wantReplay = false →
      ∃ v, exec (.linkBlock p x) s = .next v ∧ BlockError s v k) ∧
    (y.state ≠ .connected → exec (.linkBlock p x) s = .next s ∧ exec (.fecCodeword p blocks count errors) s = .next s ∧
      exec (.statusFlitTimer p) s = .next s ∧ exec (.linkBlockTransmit p) s = .next s) ∧
    (y.state = .connected →
      (y.fec = true → s.col.armed = false → 15 < errors → blocks ≠ [] → ∃ v, exec (.fecCodeword p blocks count errors) s = .next v ∧
        counted v 0x14 ∧ (v.port k).fecCount = count ∧ (v.port k).wantReplay = true ∧ (v.port k).rxNext = y.rxNext ∧ (v.port k).ingress = y.ingress) ∧
      (y.fec = true → s.col.armed = false → 1 ≤ errors → errors ≤ 15 → ∃ v, exec (.fecCodeword p blocks count errors) s = .next v ∧ counted v 0x13) ∧
      (y.statusIn = f :: l → f.getLsbD 20 = false → ∀ h r, y.replay = h :: r → (f.extractLsb' 4 16 + 1 - blockSeq h).toNat ≤ y.replay.length →
        ∃ v, exec (.statusFlit p) s = .next v ∧ (v.port k).statusIn = l ∧
          (v.port k).replay = y.replay.drop (f.extractLsb' 4 16 + 1 - blockSeq h).toNat ∧
          ∀ n < 8, tget 0 (v.port k).credUsed n =
            tget 0 y.credUsed n - ((f.extractLsb' (37 + 16 * n) 16).toNat + 65536 - tget 0 y.freedSeen n) % 65536) ∧
      (y.statusIn = f :: l → f.getLsbD 20 = true → y.replay = [] → ∃ v, exec (.statusFlit p) s = .next v ∧ (v.port k).resend = y.resend ∧
        v.outbox = s.outbox ∧ tget 0 v.noc.discarded (srcId 21 k) = tget 0 s.noc.discarded (srcId 21 k) + 1) ∧
      (y.statusIn = f :: l → f.getLsbD 20 = true → y.replay = [b] → blockSeq b = f.extractLsb' 21 16 →
        (f.extractLsb' 4 16 + 1 - blockSeq b).toNat = 0 → y.failures = none →
        ∃ v, exec (.statusFlit p) s = .next v ∧ counted v 0x11 ∧ (v.port k).resend = [b] ∧ (v.port k).replay = [b]) ∧
      exec (.statusFlitTimer p) s = .next (s.setPort k { y with statusDue := true }) ∧
      (∀ h r, y.replay = h :: r → y.failures = none → ∃ v, exec (.replayTimeout p) s = .next v ∧ counted v 0x11 ∧ (v.port k).resend = y.replay) ∧
      (∀ h r q n, y.replay = h :: r → y.failures = some (q, n) → 7 ≤ n → ∃ v, exec (.replayTimeout p) s = .next v ∧ counted v 0x12 ∧
        (v.port k).replay = [] ∧ (v.port k).state = .align ∧ (v.port k).retrain = true ∧ LastEvent s v (srcId 21 k) 0x28 2) ∧
      (y.statusDue = true → y.syncOut = [] → ∃ v, exec (.linkBlockTransmit p) s = .next v ∧ (v.port k).statusDue = false ∧
        (v.port k).txSeq = y.txSeq ∧ ∃ b, Sent s v k b ∧ blockCode b 0 = 1 ∧ blockSlot b 0 = y.status ∧ (∀ i < 5, 1 ≤ i → blockCode b i = 0) ∧
          (y.resend = [] → blockSeq b = y.txSeq) ∧ ∀ h r, y.resend = h :: r → blockSeq b = blockSeq h) ∧
      (idle → ∀ h r, y.resend = h :: r → ∃ v, exec (.linkBlockTransmit p) s = .next v ∧ (v.port k).resend = r ∧
        ∃ b, Sent s v k b ∧ blockSeq b = blockSeq h ∧ b.extractLsb' 0 976 = h.extractLsb' 0 976 ∧ b.getLsbD 991 = true) ∧
      (idle → y.resend = [] → y.replay.length < 1024 → y.txHead = none → y.staging = [z] → z.flit.tag = 3 →
        tget 0 y.credUsed (2 * z.chan.toNat + z.upper.toNat) < setSize (2 * z.chan.toNat + z.upper.toNat) →
        ∃ v b, exec (.linkBlockTransmit p) s = .next v ∧ (v.port k).staging = [] ∧ (v.port k).txSeq = y.txSeq + 1 ∧
          (v.port k).replay = y.replay ++ [b] ∧ Sent s v k b ∧ blockSeq b = y.txSeq ∧ blockSlot b 0 = z.flit.bits ∧
          blockCode b 0 = if z.upper then 7 else 5) ∧
      (idle → y.resend = [] → y.staging = [] → ∃ v, exec (.linkBlockTransmit p) s = .next v ∧ (v.port k).txSeq = y.txSeq ∧
        (v.port k).replay = y.replay ∧ ∃ b, Sent s v k b ∧ ∀ i < 5, blockCode b i = 0)) ∧
    (y.statusIn = [] → exec (.statusFlit p) s = .next s) ∧
    (y.replay = [] → exec (.replayTimeout p) s = .next s)

/-- R246 to R249, R254 to R258, Table 12.6: a port trains step by step to DISCOVER and, when the identities agree, to CONNECTED; a duplicate
device ID holds it there with event 0x2B, until it passes DISCOVER; a failed step starts again with event 0x2C; loss of alignment retrains;
loss of signal, eight empty windows or the retrain limit declare the partner absent with event 0x29; the enable starts and idles the port.
-/
def Obligations.PortStates : Prop :=
  ∀ (p : BitVec 3) (path : Path) (s : State) (i : IdentitySet),
    let k := p.toNat
    let y := s.port k
    let becomes := fun (c : Instr) (q : Port) => exec c s = .next (s.setPort k q)
    let discovers := fun (c : Instr) => ∃ v, exec c s = .next v ∧ (v.port k).state = .discover ∧ v.outbox = s.outbox ++ [.identity k (s.ownIdentity k)]
    let training := y.state = .train ∨ y.state = .align ∨ y.state = .fecLock ∨ y.state = .discover
    (s.portMayRun k = true → y.state = .detect ∨ y.state = .absent ∨ y.state = .shutdown → ∃ v, exec (.signalDetect p) s = .next v ∧
      (v.port k).state = .train ∧ ((v.port k).rate = true ↔ s.obj (0x2C20 + k) 3 = 1) ∧ ((v.port k).fec = true ↔ s.obj (0x2C20 + k) 4 = 1)) ∧
    (s.portMayRun k = false → exec (.signalDetect p) s = .next s) ∧
    (y.state = .train → becomes (.train p) { y with state := .align }) ∧
    (y.state ≠ .train → exec (.train p) s = .next s) ∧
    (y.state = .align → (y.fec = true → becomes (.align p) { y with state := .fecLock }) ∧ (y.fec = false → discovers (.align p))) ∧
    (y.state = .fecLock → discovers (.fecLock p)) ∧
    (y.state ≠ .fecLock → exec (.fecLock p) s = .next s) ∧
    (y.state = .discover → s.obj 0x2C00 2 = 0 →
      (i.upperKnown = true → s.deviceId = some i.device.toNat → y.held ≠ 1 → ∃ v, exec (.identityOrderedSet p i) s = .next v ∧
        (v.port k).state = .discover ∧ (v.port k).held = 1 ∧ LastEvent s v (srcId 21 k) 0x2B 2) ∧
      (i.upperKnown = true → s.deviceId ≠ some i.device.toNat → s.deviceId.isSome = true → i.rate = y.rate → i.fec = y.fec →
        ∃ v, exec (.identityOrderedSet p i) s = .next v ∧ (v.port k).state = .connected ∧ (v.port k).partner = i.device.toNat ∧
          (v.port k).partnerPort = i.port.toNat ∧ (v.port k).kind = i.kind.toNat ∧ (v.port k).txSeq = 0 ∧ (v.port k).rxNext = 0 ∧
          (v.port k).absentSet = 0 ∧ (v.port k).held = 0 ∧ (v.port k).ingress = [])) ∧
    (y.state ≠ .discover → exec (.identityOrderedSet p i) s = .next s) ∧
    (training → ∃ v, exec (.trainingTimeout p) s = .next v ∧ (v.port k).state = .detect ∧ (v.port k).held = y.held ∧
      v.obj (0x2C20 + k) 0x15 = satInc 32 (s.obj (0x2C20 + k) 0x15) ∧ LastEvent s v (srcId 21 k) 0x2C 1) ∧
    (¬ training → exec (.trainingTimeout p) s = .next s) ∧
    (y.retrain = true → y.state ≠ .connected → y.state ≠ .train → ∃ v, exec (.retrainTimeout p) s = .next v ∧ (v.port k).state = .train) ∧
    (y.retrain = false → exec (.retrainTimeout p) s = .next s ∧ exec (.retrainLimit p) s = .next s) ∧
    (y.retrain = true → ∃ v, exec (.retrainLimit p) s = .next v ∧ PartnerLost s v k .absent 0x29 2) ∧
    (y.state = .connected →
      (∃ v, exec (.alignmentLoss p) s = .next v ∧ (v.port k).state = .align ∧ (v.port k).retrain = true) ∧
      (∃ v, exec (.lossOfSignal p) s = .next v ∧ PartnerLost s v k .absent 0x29 2) ∧
      (y.good = true → becomes (.keepaliveWindow p) { y with good := false, empty := 0 }) ∧
      (y.good = false → y.empty < 7 → becomes (.keepaliveWindow p) { y with empty := y.empty + 1 }) ∧
      (y.good = false → y.empty = 7 → ∃ v, exec (.keepaliveWindow p) s = .next v ∧ PartnerLost s v k .absent 0x29 2)) ∧
    (y.state ≠ .disabled → y.state ≠ .shutdown → ∃ v, exec (.shutdownOrderedSet p) s = .next v ∧ PartnerLost s v k .shutdown 0x2A 0) ∧
    (y.state = .disabled ∨ y.state = .shutdown → exec (.shutdownOrderedSet p) s = .next s) ∧
    (y.state ≠ .connected → y.retrain = false → exec (.alignmentLoss p) s = .next s ∧ exec (.lossOfSignal p) s = .next s ∧
      exec (.keepaliveWindow p) s = .next s) ∧
    (Reachable s path →
      Takes (.portDisable path p) s path (fun v => (v.port k).state = .disabled ∧ (v.port k).partner = 0xFFFF ∧ v.obj (0x2C20 + k) 2 = 0 ∧
        (y.state ≠ .disabled → .shutdownNotice k ∈ v.outbox)) ∧
      (s.obj (0x2C20 + k) 2 = 0 → y.state = .disabled → (s.domain (36 + k / 4)).state = .live →
        Takes (.portEnable path p) s path (fun v => (v.port k).state = .detect ∧ v.obj (0x2C20 + k) 2 = 1 ∧ .trainingPattern k ∈ v.outbox))) ∧
    (s.dev = .config → s.startStep = 8 → ∃ v, exec .portTrainingWaitTimeout s = .next v ∧
      ((v.startStep = 9 ∧ v.dev = .config) ∨ (v.startStep = 10 ∧ (v.dev = .live ∨ v.dev = .degraded)))) ∧
    (s.startStep ≠ 8 → exec .portTrainingWaitTimeout s = .next s)

/-- R264 to R275, R296: a request is answered with its receive time; an awaited response gives offset and delay; the offset steps the time
at start-up, which clears what the collector keeps but for the logbook and the event counters (log entry 95's reading), and is kept out with
event 0x38 beyond 1 µs in LIVE; announces select the source; without one the rate is held, or a backup takes over; the external inputs
become valid and are lost; the waits of step 9 end; a strobe emits its pending pulses. -/
def Obligations.TimeKeeping : Prop :=
  ∀ (p : BitVec 3) (s : State) (f : BitVec 192) (t2 t1 : Nat) (pre post : List (BitVec 192 × Nat)) (n : BitVec 8) (i : BitVec 2),
    let k := p.toNat
    let y := s.port k
    let t := s.time
    let first := fun kind => y.syncIn = pre ++ (f, t2) :: post ∧ (f.extractLsb' 4 2).toNat = kind ∧ ∀ x ∈ pre, (x.1.extractLsb' 4 2).toNat ≠ kind
    let corr : Int := signedOf 16 (s.obj (0x2208 + k) 1) * 65536 / 1000
    let off : Int := (((f.extractLsb' 32 80).toNat - (t1 : Int)) - ((t2 : Int) - (f.extractLsb' 112 80).toNat)) / 2 + corr
    let mine := t.asked = some (n, t1) ∧ t.upstream = some p ∧ f.extractLsb' 6 8 = n
    let pulses := s.eps.toList.getD i.toNat 0
    let told := ((f.extractLsb' 28 2).toNat, (f.extractLsb' 18 10).toNat, (f.extractLsb' 14 4).toNat, f.getLsbD 30)
    (first 0 → y.state = .connected → ∃ v g, exec (.timeSyncRequest p) s = .next v ∧ (v.port k).syncIn = pre ++ post ∧
      (v.port k).syncOut = y.syncOut ++ [g] ∧ g.extractLsb' 4 2 = 1 ∧ g.extractLsb' 6 8 = f.extractLsb' 6 8 ∧ g.extractLsb' 32 80 = BitVec.ofNat 80 t2) ∧
    (y.syncIn = [] → exec (.timeSyncRequest p) s = .next s ∧ exec (.timeSyncResponse p) s = .next s ∧ exec (.announce p) s = .next s) ∧
    (first 1 → mine → ∃ v, exec (.timeSyncResponse p) s = .next v ∧ v.time.asked = none ∧ v.time.offset = off * 1000 / 65536 ∧
      v.time.delay = ((t2 : Int) - t1 - ((f.extractLsb' 112 80).toNat - ((f.extractLsb' 32 80).toNat : Int))) / 2 ∧
      (s.startStep = 10 → 65536000 < off.natAbs → v.time.value = t.value ∧ v.time.c = t.c ∧ v.time.good = 0 ∧
        (t.conflict ≠ some t.source → LastEvent s v (srcId 25 1) 0x38 2)) ∧
      (s.startStep ≠ 10 → t.stepped = false → v.time.value = t.value + BitVec.ofInt 96 (off * 65536) ∧ v.time.stepped = true ∧
        v.col.detected = [] ∧ v.col.queues = [] ∧ v.col.windows = [] ∧ v.col.full = false ∧ ∀ src, src < 960 → v.status src = 0)) ∧
    (first 1 → t.asked = none → ∃ v, exec (.timeSyncResponse p) s = .next v ∧
      v.time = if t.gaveUp = some (f.extractLsb' 6 8) then { t with gaveUp := none } else { t with lost := t.lost + 1 }) ∧
    (t.upstream = some p → y.state = .connected → ∃ v g, exec .syncRequestTimer s = .next v ∧ v.time = { t with seq := t.seq + 1, asked := some (t.seq, s.stamp) } ∧
      (v.port k).syncOut = y.syncOut ++ [g] ∧ g.extractLsb' 4 2 = 0 ∧ g.extractLsb' 6 8 = t.seq) ∧
    (t.upstream = none → exec .syncRequestTimer s = .next s) ∧
    (t.asked = some (n, t1) → exec .syncResponseTimeout s =
      .next { s with time := { t with asked := none, lost := t.lost + 1, gaveUp := some n } }) ∧
    (t.asked = none → exec .syncResponseTimeout s = .next s) ∧
    (first 2 → y.state = .connected → y.kind < 2 → ∃ v, exec (.announce p) s = .next v ∧ (v.port k).announced = some told ∧
      (PlainFollower s → OnlyAnnounce s k → v.time.role = .follower ∧ v.time.upstream = some p ∧ v.time.source = told.2.1 ∧ v.time.hops = told.2.2.1 + 1 ∧
        v.time.cls = told.1)) ∧
    (t.master = true ∨ t.takenOver = true → ∃ v, exec .announceTimer s = .next v ∧ ∀ q < 8, (s.port q).state = .connected →
      ∃ g, (v.port q).syncOut = (s.port q).syncOut ++ [g] ∧ g.extractLsb' 4 2 = 2 ∧ (g.extractLsb' 28 2) = BitVec.ofNat 2 t.cls ∧
        g.extractLsb' 18 10 = BitVec.ofNat 10 s.devId ∧ g.extractLsb' 14 4 = 0) ∧
    (PlainFollower s → OnlyAnnounce s k → t.role = .follower → ∃ v, exec (.announceTimeout p) s = .next v ∧ (v.port k).announced = none ∧
      v.time.role = .holdover ∧ v.time.upstream = none ∧ v.time.c = t.c ∧ v.time.value = t.value) ∧
    (s.straps.tbkup = true → s.straps.tmstr = false → t.takenOver = false → OnlyAnnounce s 8 →
      ∃ v, exec .backupTakeover s = .next v ∧ v.time.role = .backup ∧ v.time.cls = 2 ∧ v.time.source = s.devId ∧ v.time.value = t.value ∧ v.time.c = t.c) ∧
    (s.straps.tbkup = false → exec .backupTakeover s = .next s) ∧
    (t.master = false →
      exec (.tb10mInEdge true) s = .next { s with time := { t with ext10 := some (t.ext10.getD s.now), ext10Last := some s.now,
                                                                     ext10Valid := t.ext10Valid || decide (t.ext10.getD s.now + 10 ^ 9 ≤ s.now) } } ∧
      exec (.tb10mInEdge false) s = .next { s with time := { t with ext10 := none, ext10Last := some s.now, ext10Valid := false } } ∧
      exec .tb10mInLoss s = .next { s with time := { t with ext10 := none, ext10Valid := false } } ∧
      exec .tbPpsInLoss s = .next { s with time := { t with pps := 0, ppsValid := false } } ∧
      (s.usesExternal = false → ∀ l, t.ppsLast = some l → s.now ≤ l + 10 ^ 9 + 1000 → l + 10 ^ 9 ≤ s.now + 1000 →
        exec .tbPpsInEdge s = .next { s with time := { t with ppsLast := some s.now, pps := t.pps + 1, ppsValid := t.ppsValid || decide (3 ≤ t.pps + 1) } })) ∧
    (s.dev = .config → s.startStep = 9 → t.upstream = none →
      (s.usesExternal = true → s.externalValid = false → t.master = false → t.takenOver = false → ∃ v, exec .externalWaitTimeout s = .next v ∧
        v.time.role = .master1 ∧ v.time.master = true ∧ v.startStep = 10 ∧ LastEvent s v (srcId 25 1) 0x39 1) ∧
      (s.usesExternal = false → ∃ v, exec .noSourceTimeout s = .next v ∧ v.startStep = 10 ∧ (s.straps.tmstr = true → v.time.master = true) ∧
        v.dev = if s.anyContained then .degraded else .live)) ∧
    (s.startStep ≠ 9 → exec .externalWaitTimeout s = .next s ∧ exec .noSourceTimeout s = .next s) ∧
    (0 < pulses → s.outputsOn = true → exec (.epsPulse i) s =
      .next { s with eps := s.eps.setIfInBounds i.toNat (pulses - 1), outbox := s.outbox ++ [.epsPulse i.toNat] }) ∧
    (pulses = 0 ∨ s.outputsOn = false → exec (.epsPulse i) s = .next s)

/-- R315 to R317, R329, Table 16.2: a download is collected while more segments follow, and with the last acts as a write over CAN, an
upload as a read, its bytes in the response on 0x580 + node-ID; a transfer that times out is an abort; the NMT commands start and stop the
port or re-initialise it with a boot-up message, and leave everything else as it is; the heartbeat shows the NMT state. (The restored 0x1014
and 0x1017 are log entry 17's reading.) -/
def Obligations.CanPort : Prop :=
  ∀ (index : BitVec 16) (sub : BitVec 8) (data : List (BitVec 8)) (s : State) (o : ObjInfo),
    let ix := index.toNat
    let k := sub.toNat
    let bytes := natToBytes o.bytes (s.obj ix k)
    let key := 256 * ix + k
    let serves := s.dictOpen = true ∧ s.can.stopped = false
    let all := (match s.can.transfers.find? (fun x => x.1 == key) with | some x => x.2 | none => []) ++ data
    let others := s.can.transfers.filter (fun x => x.1 != key)
    let closed := { s with can := { s.can with transfers := others } }
    let ends := fun (i : Instr) => (s.dictOpen = true → exec i s = .next { s with can := { s.can with stopped := false } })
    let resets := fun (i : Instr) => ∃ v, exec i s = .next v ∧ v.can.stopped = false ∧ v.can.transfers = [] ∧ v.can.rates = s.can.rates ∧ v.obj 0x1014 0 = unwritten ∧
      v.obj 0x1017 0 = s.nvValue 0x1017 0 ∧ v.outbox.getLast? = some (.bootUp s.nodeId) ∧ v.dev = s.dev ∧ v.flights = s.flights ∧
      v.engines = s.engines ∧ v.clusters = s.clusters ∧ v.ports = s.ports ∧ v.domains = s.domains ∧ v.col = s.col ∧
      (s.txn.owner = some .can → 1 ≤ s.txn.status → s.txn.status ≤ 3 → v.txn.status = 5 ∧ v.txn.staged = []) ∧
      (s.txn.owner ≠ some .can → v.txn = s.txn)
    let beats := fun (n : Nat) => exec .heartbeat s = .next { s with outbox := s.outbox ++ [.heartbeat s.nodeId n] }
    (serves → exec (.usdoDownload index sub (.last data)) s = exec (.objectWrite .can index sub all) closed ∧
      exec (.usdoDownload index sub (.segment data)) s = .next { s with can := { s.can with transfers := others ++ [(key, all)] } }) ∧
    (Reachable s .can →
      (objInfo ix k = some o → o.cls = .lv → PlainObject ix → ValueOf s ix k o all →
        exec (.usdoDownload index sub (.last data)) s = .next (accepted (closed.setObj ix k (bytesToNat all)) .can)) ∧
      (objInfo ix k = some o → o.cls ≠ .wo → PlainObject ix → s.col.armed = false →
        exec (.usdoUpload index sub) s =
          .next { s with reply := some { path := .can, abort := 0, bytes := bytes }, outbox := s.outbox ++ [.usdo (0x580 + s.nodeId) 0 bytes] }) ∧
      (objInfo ix k = some o → o.cls = .wo → Aborted (.usdoUpload index sub) s .can ix k 0x06010001) ∧
      (objInfo ix k = none → Aborted (.usdoUpload index sub) s .can ix k (if objIndex ix then 0x06090011 else 0x06020000)) ∧
      ∀ l, s.can.transfers = (key, l) :: others → ∃ v, exec .usdoTimeout s = .next v ∧ v.can.transfers = others ∧ v.objs = s.objs ∧
        v.outbox = s.outbox ++ [.usdo (0x580 + s.nodeId) 0x05040000 []] ∧
        ∃ e, v.col.detected = s.col.detected ++ [e] ∧ e.src = srcId 25 3 ∧ e.code = 0x40 ∧ e.level = 2 ∧ e.d0 = key ∧ e.d1 = 0x05040000) ∧
    (s.can.transfers = [] → exec .usdoTimeout s = .next s) ∧
    (¬ serves → exec (.usdoUpload index sub) s = .next s ∧ ∀ d, exec (.usdoDownload index sub d) s = .next s) ∧
    (serves → s.fw.held = true →
      exec (.usdoUpload index sub) s = .next { s with fw := { s.fw with heldAccesses := s.fw.heldAccesses ++ [.canRead ix k] } }) ∧
    ends .nmtStart ∧ ends .nmtEnterPreOperational ∧
    (s.dictOpen = true → exec .nmtStop s = .next { s with can := { s.can with stopped := true, transfers := [] } } ∧ resets .nmtResetCommunication ∧
      resets .nmtResetNode) ∧
    (s.dictOpen = false → ∀ i ∈ [Instr.nmtStart, .nmtEnterPreOperational, .nmtStop, .nmtResetCommunication, .nmtResetNode, .heartbeat],
      exec i s = .next s) ∧
    (s.dictOpen = true → s.obj 0x1017 0 ≠ 0 → (s.can.stopped = true → beats 4) ∧ (s.can.stopped = false → s.dev = .config → beats 0x7F) ∧
      (s.can.stopped = false → s.dev = .live ∨ s.dev = .degraded → beats 5)) ∧
    (s.obj 0x1017 0 = 0 → exec .heartbeat s = .next s)

/-- R8, R318, R319, R336, R337, R340, Tables 16.3, 16.4, 17.2, 17.3, 17.5: a mailbox read puts the object's bytes and length into the
mailbox, a write collects chunks and writes the object with the last; a chunk out of place, or another access between chunks, refuses and
discards the write; an operation other than 1 and 2 is refused; a busy mailbox ignores and counts writes; the registers take aligned writes
and reads of 4 or 8 bytes, write-only and reserved ones read zero; a vector unmasked with its pending bit set is sent; a write of
configuration space sets the base address that it names. (The MSI-X entry and the offsets of configuration space are log entry 6's.) -/
def Obligations.MailboxAndRegisters : Prop :=
  ∀ (cmd : BitVec 32) (offset : BitVec 16) (size : Nat) (value : BitVec 64) (s : State) (o : ObjInfo) (key : Nat) (before : List (BitVec 8))
    (i : Fin 15) (c : Fin 8),
    let m := s.host.mb
    let ix := m.object.1
    let k := m.object.2
    let op := cmd.extractLsb' 0 2
    let inRange := 1 ≤ m.len.toNat ∧ m.len.toNat ≤ 4096
    let a := offset.toNat
    let w := exec (.registerWrite (.bar0 offset) size value) s
    let low : BitVec 32 := value.truncate 32
    let counted := ∃ v, w = .next v ∧ v.obj 0x3500 4 = satInc 32 (s.obj 0x3500 4) ∧ v.host = s.host
    (op = 2 → exec (.mailboxRead cmd) s = .next s) ∧
    (op = 1 → exec (.mailboxWrite cmd) s = .next s) ∧
    (op = 1 ∨ op = 2 →
      let x := if op = 1 then Instr.mailboxRead cmd else .mailboxWrite cmd
      (Served s .pcie → m.busy = false →
        (op = 1 → m.collect = none → inRange → m.offset = 0 → objInfo ix k = some o → o.cls ≠ .wo → PlainObject ix → s.col.armed = false →
          MbEnds x s cmd 0 (fun v => v.host.mb.total = BitVec.ofNat 32 o.bytes ∧
            ∀ j < min o.bytes m.len.toNat, tget 0 v.host.mb.data j = s.obj ix k / 256 ^ j % 256)) ∧
        (op = 1 → m.collect = none → inRange → m.offset = 0 → objInfo ix k = none →
          MbEnds x s cmd (if objIndex ix then 0x06090011 else 0x06020000) (fun v => v.host.mb.data = m.data)) ∧
        (op = 2 → m.collect = none → inRange → m.offset = 0 → cmd.getLsbD 2 = true → objInfo ix k = some o → o.cls = .lv → PlainObject ix →
          ValueOf s ix k o m.chunk → ∃ v, exec x s = .next v ∧ MbDone s v cmd 0 ∧ v.objs = (s.setObj ix k (bytesToNat m.chunk)).objs ∧
            v.obj ix k = bytesToNat m.chunk) ∧
        (op = 2 → m.collect = none → inRange → m.offset = 0 → cmd.getLsbD 2 = false → (ix, k) ≠ (0x2190, 1) →
          MbEnds x s cmd 0 (fun v => v.host.mb.collect = some (256 * ix + k, m.chunk))) ∧
        (op = 2 → m.collect = some (256 * ix + k, before) → inRange → m.offset.toNat = before.length → cmd.getLsbD 2 = false → (ix, k) ≠ (0x2190, 1) →
          MbEnds x s cmd 0 (fun v => v.host.mb.collect = some (256 * ix + k, before ++ m.chunk))) ∧
        (op = 2 → m.collect = some (key, before) → key ≠ 256 * ix + k ∨ m.offset.toNat ≠ before.length →
          MbEnds x s cmd 0x06070010 (fun v => v.host.mb.collect = none)) ∧
        (op = 1 → m.collect = some (key, before) → MbEnds x s cmd 0x06070010 (fun v => v.host.mb.collect = none))) ∧
      (s.hostServes = true → m.busy = true → ∃ v, exec x s = .next v ∧ v.obj 0x3500 4 = satInc 32 (s.obj 0x3500 4) ∧ v.host = s.host) ∧
      (s.hostServes = true → m.busy = false → s.fw.bootMode = true → MbEnds x s cmd 0x08000022 (fun v => v.host.mb.data = m.data)) ∧
      (s.hostServes = true → m.busy = false → s.fw.bootMode = false → s.dictOpen = true → s.fw.held = true → ∃ v, exec x s = .next v ∧
        v.host.mb.busy = true ∧ v.fw.heldAccesses = s.fw.heldAccesses ++ [.mailbox cmd] ∧ v.objs = s.objs) ∧
      (s.hostServes = false → exec x s = .next (unsupported s))) ∧
    (Served s .pcie → m.busy = false → op = 0 ∨ op = 3 → ∀ x ∈ [Instr.mailboxRead cmd, .mailboxWrite cmd],
      MbEnds x s cmd 0x05040001 (fun v => v.txn = s.txn ∧ v.host.mb.collect = none)) ∧
    (s.configServes = false → exec (.registerWrite (.config offset) size value) s = .next s) ∧
    (s.configServes = true → ∀ (b : Fin 3) (high : Bool), a = 0x10 + 8 * b.val + 4 * high.toNat →
      exec (.registerWrite (.config offset) 4 value) s = .next { s with host := { s.host with
        bars := s.host.bars.set b (setHalf (s.host.bars.get b) high low &&& barMask b.val) } }) ∧
    (s.hostServes = false → w = .next (unsupported s)) ∧
    (s.hostServes = true →
      ((size ≠ 4 ∨ a % 4 ≠ 0) → (size ≠ 8 ∨ a % 8 ≠ 0) → w = .next (unsupported s)) ∧
      (size = 4 → m.busy = false →
        (a = 0x104 → w = .next { s with host := { s.host with mb := { m with index := low &&& 0xFFFFFF } } }) ∧
        (a = 0x108 → w = .next { s with host := { s.host with mb := { m with len := low } } }) ∧
        (a = 0x10C → w = .next { s with host := { s.host with mb := { m with offset := low } } }) ∧
        (0x1000 ≤ a → a < 0x2000 → a % 4 = 0 → ∃ v, w = .next v ∧ (∀ j < 4, tget 0 v.host.mb.data (a - 0x1000 + j) = (low.extractLsb' (8 * j) 8).toNat) ∧
          ∀ z, z < a - 0x1000 ∨ a - 0x1000 + 4 ≤ z → tget 0 v.host.mb.data z = tget 0 m.data z)) ∧
      (size = 4 → a % 4 = 0 → m.busy = true → 0x100 < a → a < 0x2000 → counted) ∧
      (size = 8 → a = 0x40 + 8 * i.val → w = .next { s with host := { s.host with aperture := s.host.aperture.set i (value.truncate 35) } }) ∧
      (size = 8 → a = 0x2000 + 0x80 * c.val → w = .next (s.setDma c.val { s.dma c.val with base := value &&& 0xFFFFFFFFFFFFFFE0#64 })) ∧
      (size = 4 → a = 0x2008 + 0x80 * c.val → 1 ≤ (value.extractLsb' 0 5).toNat → (value.extractLsb' 0 5).toNat ≤ 16 →
        w = .next (s.setDma c.val { s.dma c.val with size := value.extractLsb' 0 5 })) ∧
      (size = 4 → low = cmd → a = 0x100 → (op = 1 → w = exec (.mailboxRead cmd) s) ∧ (op = 2 → w = exec (.mailboxWrite cmd) s)) ∧
      (size = 4 → a = 0x200C + 0x80 * c.val → w = exec (.dmaDoorbell (BitVec.ofNat 3 c.val) (value.truncate 16)) s) ∧
      (size = 4 → a % 4 = 0 → (a < 0x40 ∧ a ≠ 8) ∨ 0xB8 ≤ a ∧ a < 0x100 ∨ 0x2400 ≤ a → w = .next s) ∧
      ((size ≠ 4 ∨ a % 4 ≠ 0) → (size ≠ 8 ∨ a % 8 ≠ 0) → s.readBar0 a size = none) ∧
      (a % 4 = 0 → a = 8 ∨ a = 0x100 ∨ 0xB8 ≤ a ∧ a < 0x100 ∨ 0x2400 ≤ a → s.readBar0 a 4 = some 0) ∧
      s.readBar0 0x110 4 = some ((m.seq ++ 0#14 ++ BitVec.ofBool m.done ++ BitVec.ofBool m.busy).zeroExtend 64) ∧
      s.readBar0 0x114 4 = some (m.abort.zeroExtend 64) ∧
      (a < 0x400 → a % 16 = 12 →
        (value.getLsbD 0 = true → exec (.registerWrite (.bar4 offset) 4 value) s =
          .next { s with host := { s.host with unmasked := s.host.unmasked &&& ~~~(1#64 <<< (a / 16)) } }) ∧
        (value.getLsbD 0 = false → s.host.pendingBits.getLsbD (a / 16) = true → tget 0 s.host.sentTick (a / 16) ≠ s.now / 1000 + 1 →
          ∃ v, exec (.registerWrite (.bar4 offset) 4 value) s = .next v ∧ v.outbox = s.outbox ++ [s.host.message (a / 16)] ∧
            v.host.pendingBits.getLsbD (a / 16) = false ∧ v.host.unmasked.getLsbD (a / 16) = true)))

/-- R219, R223, R335, R338, R339, R341 to R344, R352: the slots of the window; a read of good slots completes with their bytes, one with a
failing slot with Completer Abort and event 0x40; a write with a failing slot or poisoned is discarded whole, a good one writes its words;
in boot mode the window is the image RAM. A DMA channel follows its registers, moves the descriptor at its tail, completes it and goes round
the ring; a broken rule or a failure stops it in error, a poisoned line does not, and six words that fill a line are stored without a read
of it; a transaction whose pool has no credits ends with TMO. (The status of a poisoned or short write is free; that a transfer is served
whole in one command is log entry 62's choice.) -/
def Obligations.HostTraffic : Prop :=
  ∀ (offset : BitVec 36) (n : Nat) (data : List (Option (BitVec 8))) (bytes : List (BitVec 8)) (s u : State) (f : Nat → Word) (j e w q k r : Nat)
    (c : BitVec 3) (head : BitVec 16) (on : Bool) (desc : BitVec 256) (words : List Word),
    let o := offset.toNat
    let slots := slotsOf o n
    let slot := fun i => s.slotWord (o / 8 + i)
    let reads := fun i (r : Sum Nat Word) => ∀ a b, (pooled s a b).hostReadWord (srcId 22 0) (slot i false) = (r, pooled s a b)
    let moves := fun i (r : Sum Nat Word) => ∀ a b,
      (pooled s a b).hostReadWord (srcId 22 (1 + c.toNat)) (s.descriptorWord (descriptorOf desc) i) = (r, pooled s a b)
    let normal := s.hostServes = true ∧ s.dictOpen = true ∧ s.fw.bootMode = false
    let x := s.dma c.toNat
    let takes := fun (i : Instr) (y : Dma) => exec i s = .next (s.setDma c.toNat (settledDma y))
    let d := descriptorOf desc
    let done := Instr.dmaDescriptorComplete c desc words
    let runs := x.state = 1 ∧ x.enable = true ∧ x.error = false ∧ x.pause = false ∧ x.head ≠ x.tail ∧ s.hostServes = true
    let next := settledDma { x with tail := BitVec.ofNat 16 ((x.tail.toNat + 1) % 2 ^ x.size.toNat), completed := satInc 32 x.completed }
    let stops := fun (code : Nat) => ∃ v, exec done s = .next v ∧ DmaStops s v c.toNat code 0 d.space d.offset ∧ SameMemory s v
    (15 * 2 ^ 29 + 2 ^ 24 ≤ k → ∀ b, s.slotWord k b = .status 6) ∧
    (q < 32 → w < 2 ^ 19 → s.serving q = false → ∀ b, s.slotWord (15 * 2 ^ 29 + q * 2 ^ 19 + w) b = .status 3) ∧
    (q < 32 → w < 2 ^ 19 → s.serving q = true → entryState (s.routeEntry 44 1 (s.logicalCluster q)) = 1 →
      ∀ b, s.slotWord (15 * 2 ^ 29 + q * 2 ^ 19 + w) b = .store q w) ∧
    (∀ i : Fin 15, k < 2 ^ 29 → w = s.host.aperture[i].toNat + k →
      (28991029248 ≤ w → ∀ b, s.slotWord (i.val * 2 ^ 29 + k) b = .status 6) ∧
      (w < 28991029248 → s.regionAt w = none → ∀ b, s.slotWord (i.val * 2 ^ 29 + k) b = .status 5) ∧
      (w < 28991029248 → s.regionAt w = some r → (s.region r).host = false → ∀ b, s.slotWord (i.val * 2 ^ 29 + k) b = .status 5) ∧
      (w < 28991029248 → s.regionAt w = some r → (s.region r).host = true → (s.region r).kind = 1 ∨ (s.region r).kind = 2 →
        entryState (s.routeEntry 44 3 (2 + stackOf (w / 6))) = 1 → s.hbmServes (stackOf (w / 6)) = true →
        ∀ b, s.slotWord (i.val * 2 ^ 29 + k) b = .hbm w)) ∧
    (s.hostServes = false → exec (.bar2Read offset n) s = .next { s with outbox := s.outbox ++ [.unsupported] } ∧
      exec (.bar2Write offset data false) s = .next (unsupported s) ∧ exec (.dmaDoorbell c head) s = .next (unsupported s) ∧
      exec (.dmaEnable c on) s = .next (unsupported s) ∧ exec (.dmaPause c on) s = .next (unsupported s) ∧
      exec (.dmaErrorClear c) s = .next (unsupported s) ∧ exec done s = .next s) ∧
    (normal →
      ((∀ i < slots, reads i (.inr (f i)) ∧ PoolReady s (slot i false) 1) → ∃ a b, exec (.bar2Read offset n) s = .next { pooled s a b with
        outbox := s.outbox ++ [.completion ((((List.range slots).flatMap (fun i => natToBytes 8 (f i).toNat)).drop (o % 8)).take n)] }) ∧
      (0 < slots → PoolEmpty s (slot 0 false) 1 → ∃ v, exec (.bar2Read offset n) s = .next v ∧ v.outbox = s.outbox ++ [.completerAbort] ∧ SameMemory s v ∧
        ∃ z, v.col.detected = s.col.detected ++ [z] ∧ z.src = srcId 22 0 ∧ z.code = 0x40 ∧ z.level = 2 ∧ z.d0 = 8 * (o / 8) % 2 ^ 40 ∧ z.d1 = 2) ∧
      (j < slots → (∀ i < j, reads i (.inr (f i))) → (∀ i ≤ j, PoolReady s (slot i false) 1) → reads j (.inl e) → ∃ v, exec (.bar2Read offset n) s = .next v ∧
        v.outbox = s.outbox ++ [.completerAbort] ∧ SameMemory s v ∧
        ∃ z, v.col.detected = s.col.detected ++ [z] ∧ z.src = srcId 22 0 ∧ z.code = 0x40 ∧ z.level = 2 ∧ z.d0 = 8 * (o / 8 + j) % 2 ^ 40 ∧ z.d1 = e % 2 ^ 40) ∧
      (j < slotsOf o data.length → (∀ i < j, s.slotFault o (o / 8 + i) data = 0) → s.slotWord (o / 8 + j) true = .status e → e ≠ 0 → e ≠ 16 →
        ∃ v, exec (.bar2Write offset data false) s = .next v ∧ SameMemory s v ∧
          ∃ z, v.col.detected = s.col.detected ++ [z] ∧ z.src = srcId 22 0 ∧ z.code = 0x40 ∧ z.level = 2 ∧ z.d0 = 8 * (o / 8 + j) % 2 ^ 40 ∧ z.d1 = e % 2 ^ 40) ∧
      (bytes.length = 8 → o % 8 = 0 →
        (PoolReady s (slot 0 true) (writeFlits 1) →
          (slot 0 true = .store q w → s.retiredBank q (w % 16) = false → ∃ a b,
            exec (.bar2Write offset (bytes.map some) false) s = .next ((pooled s a b).writeStore q w (BitVec.ofNat 36 (bytesToNat bytes)))) ∧
          (slot 0 true = .store q w → s.retiredBank q (w % 16) = true → ∃ v, exec (.bar2Write offset (bytes.map some) false) s = .next v ∧
            SameMemory s v ∧ LastEvent s v (srcId 22 0) 0x40 2) ∧
          (slot 0 true = .hbm w → (∀ a b, (pooled s a b).writeHbm w [BitVec.ofNat 36 (bytesToNat bytes)] (srcId 22 0) 2 = (.done, pooled u a b)) →
            ∃ a b, exec (.bar2Write offset (bytes.map some) false) s = .next (pooled u a b))) ∧
        (slot 0 true = .store q w ∨ slot 0 true = .hbm w → PoolEmpty s (slot 0 true) (writeFlits 1) →
          ∃ v, exec (.bar2Write offset (bytes.map some) false) s = .next v ∧ SameMemory s v ∧ LastEvent s v (srcId 22 0) 0x40 2))) ∧
    (s.hostServes = true → ∃ v, exec (.bar2Write offset data true) s = .next v ∧ SameMemory s v ∧ v.host.aer = s.host.aer ||| 4 ∧
      LastEvent s v (srcId 22 0) 0x40 2) ∧
    (s.hostServes = true → s.fw.bootMode = true →
      (o + n ≤ 2 ^ 23 → exec (.bar2Read offset n) s = .next { s with outbox := s.outbox ++
        [.completion ((List.range n).map (fun i => BitVec.ofNat 8 (tget 0 s.fw.ram (o + i))))] }) ∧
      (o + bytes.length ≤ 2 ^ 23 → ∃ v, exec (.bar2Write offset (bytes.map some) false) s = .next v ∧ v.host = s.host ∧
        ∀ z, tget 0 v.fw.ram z = if o ≤ z ∧ z < o + bytes.length then (bytes.getD (z - o) 0).toNat else tget 0 s.fw.ram z)) ∧
    (s.hostServes = true → takes (.dmaDoorbell c head) { x with head := head } ∧ takes (.dmaEnable c on) { x with enable := on } ∧
      takes (.dmaPause c on) { x with pause := on } ∧ takes (.dmaErrorClear c) { x with error := false }) ∧
    (x.state ≠ 1 → exec done s = .next s) ∧
    (runs →
      (d.length = 0 ∨ d.reserved = true ∨ (d.space ≠ 1 ∧ d.space ≠ 2 ∧ d.space ≠ 8) → stops 6) ∧
      (d.reserved = false → 0 < d.length →
        (d.space = 1 → d.offset < 2 ^ 34 → d.offset / 2 ^ 24 % 1024 = 0 → d.offset % 2 ^ 19 + d.length ≤ 2 ^ 19 →
          s.physicalCluster (d.offset / 2 ^ 19 % 32) s.noc.gen = some q → (s.domain q).state ≠ .live → stops 5) ∧
        (d.space = 2 → 28991029248 < d.offset + d.length → stops 6) ∧
        (d.space = 8 → d.offset < 2 ^ 26 → d.offset % 2 ^ 17 + d.length ≤ 2 ^ 17 → s.hostEngine (d.offset / 2 ^ 17) = false → stops 5)) ∧
      (s.descriptorFault d = 0 → d.toHost = true → d.interrupt = false → 0 < d.length →
        ((∀ i < d.length, moves i (.inr (f i)) ∧ PoolReady s (s.descriptorWord d i) 1) → ∃ a b,
          exec done s = .next { (pooled s a b).setDma c.toNat next with outbox := s.outbox ++
            [.hostWrite d.host.toNat ((List.range d.length).map f), .descriptorStatus c.toNat 0 d.length] }) ∧
        (2 ≤ e → e < 16 → moves 0 (.inl e) → PoolReady s (s.descriptorWord d 0) 1 → stops e) ∧
        (PoolEmpty s (s.descriptorWord d 0) 1 → stops 2)) ∧
      (s.descriptorFault d = 0 → d.toHost = false → 0 < d.length → PoolEmpty s (s.descriptorWord d 0) (writeFlits d.length) → stops 2) ∧
      (s.descriptorFault d = 0 → d.toHost = false → d.interrupt = false → d.length = 1 → PoolReady s (s.descriptorWord d 0) (writeFlits 1) →
        (s.descriptorWord d 0 = .loc q w → s.retiredPage q w = false → ∃ v, exec done s = .next v ∧
          v.engines = (s.writeLocal q w 15 (words.getD 0 0)).engines ∧ v.dma c.toNat = next ∧ Output.descriptorStatus c.toNat 0 1 ∈ v.outbox) ∧
        (s.descriptorWord d 0 = .hbm w → (∀ a b, (pooled s a b).writeHbm w [words.getD 0 0] (srcId 22 (1 + c.toNat)) 2 = (.poisoned, pooled u a b)) →
          u.host = s.host → u.domains = s.domains → ∃ v, exec done s = .next v ∧ v.dma c.toNat = next ∧ Output.descriptorStatus c.toNat 1 1 ∈ v.outbox ∧ v.hbm = u.hbm)) ∧
      (s.descriptorFault d = 0 → d.toHost = false → d.interrupt = false → d.length = 6 → w % 6 = 0 → s.retiredRow (w / 6) = false →
        (∀ i < 6, s.descriptorWord d i = .hbm (w + i)) → PoolReady s (.hbm w) (writeFlits 6) →
        ∃ v, exec done s = .next v ∧ v.dma c.toNat = next ∧ Output.descriptorStatus c.toNat 0 6 ∈ v.outbox ∧ v.col.detected = s.col.detected ∧
          v.hbm = (s.setHbmLine (w / 6) (encodeLine (w / 6) (words.getD 5 0 ++ words.getD 4 0 ++ words.getD 3 0 ++ words.getD 2 0 ++
            words.getD 1 0 ++ words.getD 0 0) 0)).hbm))

/-- R345 to R352, R335, Tables 17.7 to 17.9: PORST_N falling resets the part but for what is kept; rising, it samples the straps and
starts up to the boot source that they name; PERST_N, a hot reset, link down and FLR reach the host interface alone; the link trains once both
pins are high; in D3hot no channel runs; a valid boot image is started, from the host, or from the logbook when no partner gives one. -/
def Obligations.ResetsAndStartUp : Prop :=
  ∀ (s : State) (straps : Straps) (tests : SelfTest) (generation lanes : BitVec 8) (on : Bool) (length : BitVec 24),
    let rise := exec (.porstNRise straps tests) s
    let cold := s.dev = .off ∧ CleanStart tests
    let preferred := if s.fw.preferred then 1 else 0
    let other := if s.fw.preferred then 0 else 1
    let logbook := straps.bootsrc = 0 ∨ straps.bootsrc = 3
    let resets := fun (i : Instr) => ∃ v, exec i s = .next v ∧ HostReset s v ∧ v.host.link = if s.hostMayTrain = true then 1 else 0
    let ram := (List.range length.toNat).map (fun i => BitVec.ofNat 8 (tget 0 s.fw.ram i))
    (s.porst = false → ∃ v, exec .porstNFall s = .next v ∧ PoweredOff s v) ∧
    (s.porst = true → exec .porstNFall s = .next s) ∧
    (s.dev ≠ .off → rise = .next s) ∧
    (s.dev = .off → ∃ v, rise = .next v ∧ v.straps = straps ∧ v.porst = false ∧ controls v.tap.instr = false ∧ v.dev ≠ .off) ∧
    (s.dev = .off → tests.railBad = true → ∃ v, rise = .next v ∧ v.dev = .reset ∧ v.startStep = 3) ∧
    (s.dev = .off → tests.railBad = false → tests.failed = [] → tests.alwaysOn = true → ∃ v, rise = .next v ∧ v.dev ≠ .live ∧ v.dev ≠ .degraded ∧
      ∃ e ∈ v.col.detected, e.src = srcId 29 3 ∧ e.code = 8 ∧ e.level = 4) ∧
    (cold → straps.tmstr = true → straps.tbkup = true → ∃ v, rise = .next v ∧ ∃ e ∈ v.col.detected, e.src = srcId 25 1 ∧ e.level = 1) ∧
    (cold → logbook → (s.slot preferred).state = 1 → ∃ v, rise = .next v ∧ v.dictOpen = true ∧ v.fw.running = preferred ∧ .bootUp v.nodeId ∈ v.outbox) ∧
    (cold → logbook → (s.slot preferred).state ≠ 1 → (s.slot other).state = 1 → ∃ v, rise = .next v ∧ v.dictOpen = true ∧ v.fw.running = other ∧
      ∃ e ∈ v.col.detected, e.src = srcId 25 4 ∧ e.level = 2) ∧
    (cold → straps.bootsrc = 1 ∨ logbook ∧ (s.slot 0).state ≠ 1 ∧ (s.slot 1).state ≠ 1 → ∃ v, rise = .next v ∧ v.fw.bootMode = true ∧
      v.dictOpen = false ∧ v.host.bootStatus = 0) ∧
    (cold → straps.bootsrc = 2 → ∃ v, rise = .next v ∧ v.fw.peerBoot = true ∧ v.dictOpen = false) ∧
    (∃ v, exec (.perstN true) s = .next v ∧ HostReset s v ∧ v.host.perst = true ∧ v.host.link = 0) ∧
    (s.porst = false → s.dev ≠ .off → s.dev ≠ .reset → (s.domain 38).state = .live → (s.domain 38).contained = false →
      exec (.perstN false) s = .next { s with host := { s.host with perst := false, link := 1, speed := 0 } }) ∧
    (s.host.link ≠ 0 → resets .hotReset ∧ resets .linkDown) ∧
    (s.host.link ≠ 0 → ∃ v, exec .flr s = .next v ∧ HostReset s v ∧ v.host.link = s.host.link ∧ v.host.speed = s.host.speed ∧
      v.obj 0x3500 3 = satInc 32 (s.obj 0x3500 3)) ∧
    (s.host.link ≠ 0 → ∃ v, exec (.pciePowerStateChange on) s = .next v ∧ v.host.d3hot = on ∧ v.host.mb = s.host.mb ∧ v.objs = s.objs ∧
      (on = true → ∀ c < 8, (v.dma c).state ≠ 1)) ∧
    (s.host.link = 0 → ∀ i ∈ [Instr.hotReset, .linkDown, .flr, .pciePowerStateChange on, .pcieLinkUp generation lanes], exec i s = .next s) ∧
    (s.host.link = 1 → s.hostMayTrain = true →
      let offered := 1 ≤ generation.toNat ∧ generation.toNat ≤ 5 ∧ (lanes = 1 ∨ lanes = 2 ∨ lanes = 4 ∨ lanes = 8 ∨ lanes = 16)
      (offered → exec (.pcieLinkUp generation lanes) s = .next { s with host := { s.host with link := 2, speed := lanes ++ generation } }) ∧
      (¬ offered → exec (.pcieLinkUp generation lanes) s = .next s)) ∧
    (s.hostServes = true → s.fw.bootMode = true →
      (length.toNat ≤ 2 ^ 23 → imageValid ram = true → ∃ v, exec (.bootGo length) s = .next v ∧ v.host.bootStatus = 2 ∧ v.fw.running = 2 ∧
        v.fw.version = imageVersion ram ∧ v.fw.bootMode = false ∧ v.dictOpen = true) ∧
      (length.toNat ≤ 2 ^ 23 → imageValid ram = false → exec (.bootGo length) s = .next { s with host := { s.host with bootStatus := 3 } })) ∧
    (s.hostServes = true → s.fw.bootMode = false → exec (.bootGo length) s = .next s) ∧
    (s.fw.peerBoot = true → (s.slot preferred).state = 1 → ∃ v, exec .peerBootTimeout s = .next v ∧ v.fw.running = preferred ∧
      v.fw.peerBoot = false ∧ v.dictOpen = true) ∧
    (s.fw.peerBoot = false → exec .peerBootTimeout s = .next s)

/-- R354, R355, Tables 17.10, 17.11: at the quiet point the switch holds accesses; without one within its bound the update fails; the new
image that reports ready becomes preferred and runs; one that does not, or a watchdog expiry, brings the old or preferred slot back with
an event, the third expiry within 10 s with a level-4 failure. -/
def Obligations.FirmwareSwitch : Prop :=
  ∀ (s : State),
    let preferred := if s.fw.preferred then 1 else 0
    let other := if s.fw.preferred then 0 else 1
    let recent := (s.fw.expiries.filter (fun t => decide (s.now < t + 10 ^ 10))).length
    let restarted := fun v : State => v.fw.held = true ∧ v.fw.reloading = true ∧ v.fw.preferred = s.fw.preferred ∧ v.objs = s.objs ∧ v.engines = s.engines ∧
      (s.txn.status = 1 → v.txn.status = 5) ∧ (s.txn.status ≠ 1 → v.txn = s.txn) ∧ v.fw.update = if s.fw.update = 4 then 6 else s.fw.update
    (s.dictOpen = true → s.fw.held = false → s.fw.update = 3 →
      (s.quiet = true → ∃ v, exec .quietPoint s = .next v ∧ v.fw.update = 4 ∧ v.fw.held = true ∧ v.fw.preferred = s.fw.preferred ∧ v.objs = s.objs) ∧
      (s.txn.status = 1 ∨ s.txn.status = 2 ∨ s.txn.status = 3 ∨ s.noc.drain ≠ 0 ∨ s.host.mb.busy = true ∨
          (∃ d < 40, (s.domain d).state = .drain ∨ (s.domain d).state = .quiesce ∨ (s.domain d).state = .power) →
        exec .quietPoint s = .next s ∧ ∃ v, exec .quietPointTimeout s = .next v ∧ v.fw.update = 6 ∧ v.fw.held = false ∧ v.fw.running = s.fw.running)) ∧
    (s.fw.update ≠ 3 → exec .quietPoint s = .next s ∧ exec .quietPointTimeout s = .next s) ∧
    (s.fw.held = true → s.fw.heldAccesses = [] → s.fw.deferred = [] →
      (s.fw.reloading = false → s.fw.update = 4 → (s.slot other).state = 1 → ∃ v, exec .firmwareReady s = .next v ∧ v.fw.held = false ∧
        v.fw.preferred = !s.fw.preferred ∧ v.fw.running = other ∧ v.fw.version = (s.slot other).versionOf ∧ v.fw.update = 5 ∧
        (s.host.unmasked.getLsbD 14 = false → v.host.pendingBits.getLsbD 14 = true)) ∧
      (s.fw.reloading = true → ∃ v, exec .firmwareReady s = .next v ∧ v.fw.held = false ∧ v.fw.preferred = s.fw.preferred ∧ v.fw.running = preferred ∧
        v.fw.update = s.fw.update)) ∧
    (s.fw.held = false → exec .firmwareReady s = .next s ∧ exec .readyTimeout s = .next s) ∧
    (s.fw.held = true → s.fw.reloading = false → ∃ v, exec .readyTimeout s = .next v ∧ v.fw.update = 6 ∧ v.fw.reloading = true ∧
      v.fw.preferred = s.fw.preferred ∧ LastUnder s v (srcId 25 0) 2) ∧
    (s.dictOpen = true → recent < 2 → ∃ v, exec .watchdogExpiry s = .next v ∧ restarted v ∧ LastUnder s v (srcId 25 0) 2) ∧
    (s.dictOpen = true → 2 ≤ recent → ∃ v, exec .watchdogExpiry s = .next v ∧ restarted v ∧
      (∃ e ∈ v.col.detected, e.src = srcId 25 0 ∧ e.level = 2) ∧ ∃ e ∈ v.col.detected, e.src = srcId 29 3 ∧ e.level = 4) ∧
    (s.dictOpen = false → exec .watchdogExpiry s = .next s)

/-- R346, R369 to R371, Table 18.9: the TAP's commands change the TAP alone; IDCODE reads 0x2512_0A7B; an instruction that takes control of
the pins does so only while PORST_N is low and acts as BYPASS otherwise; when PORST_N rises, one that is in control gives way to BYPASS and
start-up proceeds; a TAP reset reaches no functional logic. -/
def Obligations.BoundaryScan : Prop :=
  ∀ (cells pins : List Bool) (s : State),
    let taps := fun (i : Instr) (t : Tap) => exec i s = .next { s with tap := t }
    let rows := [(Instr.extest cells, TapInstr.extest, cells), (.extestPulse cells, .pulse, cells), (.extestTrain cells, .train, cells),
                 (.clamp, .clamp, s.tap.cells), (.highz, .highz, s.tap.cells)]
    (∀ r ∈ rows, (s.porst = true → taps r.1 { s.tap with instr := r.2.1, cells := r.2.2 }) ∧ (s.porst = false → taps r.1 { s.tap with instr := .bypass })) ∧
    taps .bypass { s.tap with instr := .bypass } ∧
    taps (.samplePreload pins cells) { instr := .sample, captured := pins, cells := cells } ∧
    taps .tapReset { instr := .idcode, captured := [], cells := [] } ∧
    exec .idcode s = .next { s with tap := { s.tap with instr := .idcode }, outbox := s.outbox ++ [.tdo 0x25120A7B] } ∧
    (s.dev = .off → s.porst = true → ∀ (straps : Straps) (tests : SelfTest), ∃ v, exec (.porstNRise straps tests) s = .next v ∧
      v.porst = false ∧ v.tap = (if controls s.tap.instr = true then { s.tap with instr := .bypass } else s.tap) ∧
      v.straps = straps ∧ v.dev ≠ .off)

/-- A step takes the command at the front of the queue and runs it on the state with the rest of the queue; a command of any form completes
in every state; on an empty queue one nanosecond of the time base passes, its value rising by 2³² + c (R264; the idle step is log entry 2's
choice). -/
def Obligations.StepRunsFront : Prop :=
  ∀ (c : Instr) (rest : List Instr) (s : State),
    step { s with pending := c :: rest } = exec c { s with pending := rest } ∧ (∃ v, exec c s = .next v) ∧
    ∃ v, step { s with pending := [] } = .next v ∧ v.time.value = s.time.value + BitVec.ofInt 96 (2 ^ 32 + s.time.c) ∧
      v = { s with pending := [], time := { s.time with value := v.time.value }, col := v.col } ∧ v.col.detected = s.col.detected ∧ v.col.ring = s.col.ring

/-- R345, R346, Tables 1.4, 16.8, 17.3, 17.5, 17.7: after power-on reset the part is OFF with PORST_N low; registers, stores and counters read
zero, memory lists nothing, objects stand at their defaults, no command waits; and no TAP instruction controls the pins in vain. -/
def Obligations.ResetValues : Prop :=
  let s := State.reset
  s.dev = .off ∧ s.porst = true ∧ s.pending = [] ∧ TapQuiet s ∧ s.memoryWf = true ∧ s.outbox = [] ∧ s.txn.status = 0 ∧ s.txn.owner = none ∧
  (∀ g < 512, let x := s.core g
    x.a = 0 ∧ x.h = 0 ∧ x.x = 0 ∧ x.y = 0 ∧ x.b = 0 ∧ x.l = 0 ∧ x.c = 0 ∧ x.pc = 0 ∧ x.f = 0 ∧ x.v = 0 ∧ x.ep = 0 ∧ x.win = 0 ∧ x.fsr = 0 ∧ x.tcause = 0 ∧
    x.tpc = 0 ∧ x.handler = false ∧ x.fpq = [] ∧ x.act = none ∧ x.stopped = false ∧ (∀ i : Fin 64, x.mb[i] = 0) ∧ (s.engine g).mem = [] ∧
    (s.tu g).ready = [] ∧ (s.tu g).credits = 4096) ∧ (∀ c < 32, (s.cluster c).store = []) ∧
  (∀ f < 32, (s.flight f).state = .idle ∧ s.obj (0x2800 + f) 3 = 8 ∧ s.obj (0x2800 + f) 4 = 2048) ∧
  (∀ c < 32, s.obj (0x2210 + c) 2 = 3000) ∧ (∀ p < 8, (s.port p).state = .disabled ∧ s.obj (0x2C20 + p) 2 = 1 ∧ s.obj (0x2C20 + p) 0xA = 300) ∧
  (∀ i : Fin 15, s.host.aperture[i].toNat = i.val * 2 ^ 29) ∧ (∀ c < 8, (s.dma c).head = 0 ∧ (s.dma c).tail = 0 ∧ (s.dma c).size = 1 ∧ (s.dma c).state = 0) ∧
  (∀ k < 32, s.obj (0x3040 + k % 30) (k + 1) = 16 + 1000 * 2 ^ 16 + 0x02 * 2 ^ 32 + 0x0F * 2 ^ 40 + 0x6F * 2 ^ 48) ∧
  s.hbm = [] ∧ s.bog = [] ∧ s.host.link = 0 ∧ s.can.stopped = false ∧ s.fw.update = 0

/-- R371, the queue's order and the form of memory: every step, of whatever command, in every state, takes exactly the front of the
queue, leaves no TAP instruction in control of the pins while PORST_N is high if none was, and keeps the canonical form of every local
store, matching store, cluster store and of HBM. -/
def Obligations.EveryStepKeeps : Prop :=
  ∀ s t : State, step s = .next t →
    t.pending = s.pending.drop 1 ∧ (TapQuiet s → TapQuiet t) ∧ (s.memoryWf = true → t.memoryWf = true)
end

