-- ==== Sys2Proof/Laws/Table.lean ====
section
/-! SUPPORT. What reading a sparse table after storing in it gives, and that storing keeps the canonical form. -/

namespace Sys2Proof.Machine

-- One theorem at a time: proofs that wait for one another each hold a thread and its stack.
set_option Elab.async false

variable {α : Type}

theorem tget_tset_same (d : α) (k : Nat) (v : α) (t : Tab α) : tget d (tset k v t) k = v := by
  induction t with
  | nil => simp [tset, tget]
  | cons x t ih => obtain ⟨j, y⟩ := x; simp only [tset]; split_ifs <;> simp_all [tget]; omega

theorem tget_tset_other (d : α) (k j : Nat) (v : α) (t : Tab α) (h : j ≠ k) : tget d (tset k v t) j = tget d t j := by
  induction t with
  | nil => simp [tset, tget, h.symm]
  | cons x t ih =>
    obtain ⟨i, y⟩ := x; simp only [tset]; split_ifs with h1 h2
    · simp [tget, Ne.symm h]
    · subst h2; simp [tget, Ne.symm h]
    · simp [tget, ih]

theorem tget_terase_same (d : α) (k : Nat) (t : Tab α) : tget d (terase k t) k = d := by
  induction t with
  | nil => rfl
  | cons x t ih =>
    obtain ⟨j, y⟩ := x
    by_cases h : k = j
    · simp [terase, h ▸ ih, h]
    · simp [terase, h, tget, ih, Ne.symm h]

theorem tget_terase_other (d : α) (k j : Nat) (t : Tab α) (h : j ≠ k) : tget d (terase k t) j = tget d t j := by
  induction t with
  | nil => rfl
  | cons x t ih =>
    obtain ⟨i, y⟩ := x
    by_cases hk : k = i
    · subst hk; simp [terase, tget, ih, Ne.symm h]
    · simp [terase, hk, tget, ih]

variable [DecidableEq α]

@[simp] theorem tget_tput_same (d : α) (k : Nat) (v : α) (t : Tab α) : tget d (tput d k v t) k = v := by
  unfold tput; split_ifs with h
  · rw [tget_terase_same, h]
  · exact tget_tset_same d k v t

theorem tget_tput_other (d : α) (k j : Nat) (v : α) (t : Tab α) (h : j ≠ k) : tget d (tput d k v t) j = tget d t j := by
  unfold tput; split_ifs
  · exact tget_terase_other d k j t h
  · exact tget_tset_other d k j v t h

/-- Reading any key after a store. -/
theorem tget_tput (d : α) (k j : Nat) (v : α) (t : Tab α) : tget d (tput d k v t) j = if j = k then v else tget d t j := by
  split_ifs with h
  · rw [h, tget_tput_same]
  · exact tget_tput_other d k j v t h

/-- A key's reading does not depend on what an unlisted key reads as when both agree there. -/
theorem tget_tput_dep (d : Nat → α) (k j : Nat) (v : α) (t : Tab α) :
    tget (d j) (tput (d k) k v t) j = if j = k then v else tget (d j) t j := by
  split_ifs with h
  · rw [h, tget_tput_same]
  · unfold tput; split_ifs
    · exact tget_terase_other (d j) k j t h
    · exact tget_tset_other (d j) k j v t h

/-! ### The canonical form -/

theorem tabWfFrom_weaken (d : Nat → α) (a b : Nat) (t : Tab α) (h : a ≤ b) (w : tabWfFrom d (some b) t = true) :
    tabWfFrom d (some a) t = true := by
  cases t with
  | nil => rfl
  | cons x t => obtain ⟨k, v⟩ := x; simp_all [tabWfFrom]; omega

theorem tabWfFrom_none (d : Nat → α) (a : Nat) (t : Tab α) (w : tabWfFrom d (some a) t = true) : tabWfFrom d none t = true := by
  cases t with
  | nil => rfl
  | cons x t => obtain ⟨k, v⟩ := x; simp_all [tabWfFrom]

theorem terase_wf (d : Nat → α) (lo : Option Nat) (k : Nat) (t : Tab α) (w : tabWfFrom d lo t = true) :
    tabWfFrom d lo (terase k t) = true := by
  induction t generalizing lo with
  | nil => exact w
  | cons x t ih =>
    obtain ⟨j, v⟩ := x
    simp only [tabWfFrom, Bool.and_eq_true] at w
    by_cases h : k = j
    · simp only [terase, h, if_true]
      have := ih (some j) w.2
      rw [h] at this
      cases lo with
      | none => exact tabWfFrom_none d j _ this
      | some l => exact tabWfFrom_weaken d l j _ (by simp at w; omega) this
    · simp only [terase, h, if_false, tabWfFrom, Bool.and_eq_true]
      exact ⟨w.1, ih (some j) w.2⟩

theorem tset_wf (d : Nat → α) (lo : Option Nat) (k : Nat) (v : α) (t : Tab α) (hv : v ≠ d k)
    (hl : ∀ l, lo = some l → l < k) (w : tabWfFrom d lo t = true) : tabWfFrom d lo (tset k v t) = true := by
  induction t generalizing lo with
  | nil => cases lo <;> simp_all [tset, tabWfFrom]
  | cons x t ih =>
    obtain ⟨j, y⟩ := x
    simp only [tabWfFrom, Bool.and_eq_true] at w
    simp only [tset]
    split_ifs with h1 h2
    · cases lo <;> simp_all [tabWfFrom]
    · subst h2; cases lo <;> simp_all [tabWfFrom]
    · simp only [tabWfFrom, Bool.and_eq_true]
      exact ⟨w.1, ih (some j) (by simp; omega) w.2⟩

/-- Storing keeps the canonical form, the key's unlisted reading being what the table's form says of it. -/
theorem tput_wf (d : Nat → α) (k : Nat) (v : α) (t : Tab α) (w : tabWf d t = true) : tabWf d (tput (d k) k v t) = true := by
  unfold tput tabWf at *; split_ifs with h
  · exact terase_wf d none k t w
  · exact tset_wf d none k v t h (by simp) w

/-- Entries left out keep the canonical form. -/
theorem filter_wf (d : Nat → α) (lo : Option Nat) (p : Nat × α → Bool) (t : Tab α) (w : tabWfFrom d lo t = true) :
    tabWfFrom d lo (t.filter p) = true := by
  induction t generalizing lo with
  | nil => exact w
  | cons x t ih =>
    obtain ⟨j, v⟩ := x
    simp only [tabWfFrom, Bool.and_eq_true] at w
    by_cases h : p (j, v)
    · simp only [List.filter_cons, h, if_true, tabWfFrom, Bool.and_eq_true]
      exact ⟨w.1, ih (some j) w.2⟩
    · simp only [List.filter_cons, h]
      have := ih (some j) w.2
      cases lo with
      | none => exact tabWfFrom_none d j _ this
      | some l => exact tabWfFrom_weaken d l j _ (by simp at w; omega) this

end Sys2Proof.Machine
end

