-- ==== Sys2Proof/Laws/AlwaysOn.lean ====
section
/-! SUPPORT. What the always-on stores and the count of discarded packets do to the state. -/

namespace Sys2Proof.Machine

-- One theorem at a time: proofs that wait for one another each hold a thread and its stack.
set_option Elab.async false

variable (s : State)

/-! ### Always-on SRAM (R192, R195) -/

/-- A group without a wrong bit reads well and changes nothing, unless an injection meets the dictionary's array. -/
theorem State.readAonGroup_clean {array : Nat} (word n : Nat) (h : s.aon = []) (q : array ≠ 0 ∨ s.col.armed = false) :
    s.readAonGroup array word n = (false, s) := by
  have quiet : (if array = 0 then s.injectMask (aonSource array) 0 else none) = none := by
    split_ifs with a
    · simp [State.injectMask, q.resolve_left (not_not_intro a)]
    · rfl
  have sound : wrongGroup 0 = .clean := by decide
  simp only [State.readAonGroup, quiet, h, tget, sound]

/-- So does a word. -/
theorem State.readAon_clean {array : Nat} (word : Nat) (h : s.aon = []) (q : array ≠ 0 ∨ s.col.armed = false) :
    s.readAon array word = (false, s) := by
  simp only [State.readAon, s.readAonGroup_clean word _ h q, Bool.or_self]

/-- Writing a word leaves sound stores as they are. -/
theorem State.freshAon_clean (array word : Nat) (h : s.aon = []) : s.freshAon array word = s := by
  simp [State.freshAon, h]

/-! ### Discarded packets (R222, R256, R280) -/

/-- Every count but the source's own stands. -/
theorem State.discarded_discard (src k : Nat) :
    tget 0 (s.discard src).noc.discarded k = if k = src then tget 0 s.noc.discarded src + 1 else tget 0 s.noc.discarded k := by
  simp only [State.discard, tget_tput]

/-- Nothing but the network's record changes. -/
theorem State.discard_noc (src : Nat) : { s.discard src with noc := s.noc } = s := rfl

end Sys2Proof.Machine
end

