-- ==== Sys2Proof/Laws/State.lean ====
section
/-! SUPPORT. What each update of the state leaves as it was, one lemma per field, and what reading a unit back gives. -/

namespace Sys2Proof.Machine

-- One theorem at a time: proofs that wait for one another each hold a thread and its stack.
set_option Elab.async false

variable (s : State)

/-! ### Reading a unit back -/

theorem State.engine_setEngine (g h : Nat) (e : Engine) : (s.setEngine g e).engine h = if h = g then e else s.engine h :=
  tget_tput Engine.reset g h e s.engines
@[simp] theorem State.engine_setEngine_same (g : Nat) (e : Engine) : (s.setEngine g e).engine g = e := by
  simp [State.engine_setEngine]
theorem State.engine_setCore (g h : Nat) (c : Core) :
    (s.setCore g c).engine h = if h = g then { s.engine g with core := c } else s.engine h :=
  tget_tput Engine.reset g h _ s.engines
theorem State.engine_setTu (g h : Nat) (t : TokenUnit) :
    (s.setTu g t).engine h = if h = g then { s.engine g with tu := t } else s.engine h :=
  tget_tput Engine.reset g h _ s.engines
@[simp] theorem State.core_setCore (g : Nat) (c : Core) : (s.setCore g c).core g = c := by
  simp [State.core, State.engine_setCore]
theorem State.core_setCore_other (g h : Nat) (c : Core) (n : h ≠ g) : (s.setCore g c).core h = s.core h := by
  simp [State.core, State.engine_setCore, n]
@[simp] theorem State.tu_setCore (g h : Nat) (c : Core) : (s.setCore g c).tu h = s.tu h := by
  simp only [State.tu, State.engine_setCore]; split_ifs with n <;> simp [n]
@[simp] theorem State.tu_setTu (g : Nat) (t : TokenUnit) : (s.setTu g t).tu g = t := by
  simp [State.tu, State.engine_setTu]
theorem State.tu_setTu_other (g h : Nat) (t : TokenUnit) (n : h ≠ g) : (s.setTu g t).tu h = s.tu h := by
  simp [State.tu, State.engine_setTu, n]
@[simp] theorem State.core_setTu (g h : Nat) (t : TokenUnit) : (s.setTu g t).core h = s.core h := by
  simp only [State.core, State.engine_setTu]; split_ifs with n <;> simp [n]
theorem State.cluster_setCluster (c d : Nat) (x : Cluster) : (s.setCluster c x).cluster d = if d = c then x else s.cluster d :=
  tget_tput Cluster.reset c d x s.clusters
@[simp] theorem State.cluster_setCluster_same (c : Nat) (x : Cluster) : (s.setCluster c x).cluster c = x := by
  simp [State.cluster_setCluster]
theorem State.flight_setFlight (f h : Nat) (x : Flight) : (s.setFlight f x).flight h = if h = f then x else s.flight h :=
  tget_tput Flight.reset f h x s.flights
@[simp] theorem State.flight_setFlight_same (f : Nat) (x : Flight) : (s.setFlight f x).flight f = x := by
  simp [State.flight_setFlight]
theorem State.domain_setDomain (d e : Nat) (x : Domain) : (s.setDomain d x).domain e = if e = d then x else s.domain e :=
  tget_tput Domain.reset d e x s.domains
@[simp] theorem State.domain_setDomain_same (d : Nat) (x : Domain) : (s.setDomain d x).domain d = x := by
  simp [State.domain_setDomain]
theorem State.port_setPort (p q : Nat) (x : Port) : (s.setPort p x).port q = if q = p then x else s.port q :=
  tget_tput Port.reset p q x s.ports
@[simp] theorem State.port_setPort_same (p : Nat) (x : Port) : (s.setPort p x).port p = x := by
  simp [State.port_setPort]
@[simp] theorem State.obj_setObj_same (ix sub v : Nat) : (s.setObj ix sub v).obj ix sub = v :=
  tget_tput_same _ _ v s.objs
theorem State.obj_setObj_other (ix sub v jx tub : Nat) (h : 256 * jx + tub ≠ 256 * ix + sub) : (s.setObj ix sub v).obj jx tub = s.obj jx tub := by
  unfold State.obj State.setObj
  rw [tget_tput_dep objDefault, if_neg h]

/-! ### Fields an update leaves -/

@[simp] theorem State.setEngine_pending (g : Nat) (e : Engine) : (s.setEngine g e).pending = s.pending := rfl
@[simp] theorem State.setEngine_dev (g : Nat) (e : Engine) : (s.setEngine g e).dev = s.dev := rfl
@[simp] theorem State.setEngine_startStep (g : Nat) (e : Engine) : (s.setEngine g e).startStep = s.startStep := rfl
@[simp] theorem State.setEngine_aonFailed (g : Nat) (e : Engine) : (s.setEngine g e).aonFailed = s.aonFailed := rfl
@[simp] theorem State.setEngine_porst (g : Nat) (e : Engine) : (s.setEngine g e).porst = s.porst := rfl
@[simp] theorem State.setEngine_straps (g : Nat) (e : Engine) : (s.setEngine g e).straps = s.straps := rfl
@[simp] theorem State.setEngine_upperId (g : Nat) (e : Engine) : (s.setEngine g e).upperId = s.upperId := rfl
@[simp] theorem State.setEngine_objs (g : Nat) (e : Engine) : (s.setEngine g e).objs = s.objs := rfl
@[simp] theorem State.setEngine_retired (g : Nat) (e : Engine) : (s.setEngine g e).retired = s.retired := rfl
@[simp] theorem State.setEngine_unretired (g : Nat) (e : Engine) : (s.setEngine g e).unretired = s.unretired := rfl
@[simp] theorem State.setEngine_clusters (g : Nat) (e : Engine) : (s.setEngine g e).clusters = s.clusters := rfl
@[simp] theorem State.setEngine_flights (g : Nat) (e : Engine) : (s.setEngine g e).flights = s.flights := rfl
@[simp] theorem State.setEngine_hbm (g : Nat) (e : Engine) : (s.setEngine g e).hbm = s.hbm := rfl
@[simp] theorem State.setEngine_hbmGone (g : Nat) (e : Engine) : (s.setEngine g e).hbmGone = s.hbmGone := rfl
@[simp] theorem State.setEngine_hbmQ (g : Nat) (e : Engine) : (s.setEngine g e).hbmQ = s.hbmQ := rfl
@[simp] theorem State.setEngine_hbmDredge (g : Nat) (e : Engine) : (s.setEngine g e).hbmDredge = s.hbmDredge := rfl
@[simp] theorem State.setEngine_hbmHot (g : Nat) (e : Engine) : (s.setEngine g e).hbmHot = s.hbmHot := rfl
@[simp] theorem State.setEngine_hbmLaps (g : Nat) (e : Engine) : (s.setEngine g e).hbmLaps = s.hbmLaps := rfl
@[simp] theorem State.setEngine_noc (g : Nat) (e : Engine) : (s.setEngine g e).noc = s.noc := rfl
@[simp] theorem State.setEngine_bogIn (g : Nat) (e : Engine) : (s.setEngine g e).bogIn = s.bogIn := rfl
@[simp] theorem State.setEngine_bog (g : Nat) (e : Engine) : (s.setEngine g e).bog = s.bog := rfl
@[simp] theorem State.setEngine_bogRecomp (g : Nat) (e : Engine) : (s.setEngine g e).bogRecomp = s.bogRecomp := rfl
@[simp] theorem State.setEngine_bogStray (g : Nat) (e : Engine) : (s.setEngine g e).bogStray = s.bogStray := rfl
@[simp] theorem State.setEngine_svcRsp (g : Nat) (e : Engine) : (s.setEngine g e).svcRsp = s.svcRsp := rfl
@[simp] theorem State.setEngine_svcReq (g : Nat) (e : Engine) : (s.setEngine g e).svcReq = s.svcReq := rfl
@[simp] theorem State.setEngine_devIn (g : Nat) (e : Engine) : (s.setEngine g e).devIn = s.devIn := rfl
@[simp] theorem State.setEngine_probes (g : Nat) (e : Engine) : (s.setEngine g e).probes = s.probes := rfl
@[simp] theorem State.setEngine_col (g : Nat) (e : Engine) : (s.setEngine g e).col = s.col := rfl
@[simp] theorem State.setEngine_ports (g : Nat) (e : Engine) : (s.setEngine g e).ports = s.ports := rfl
@[simp] theorem State.setEngine_time (g : Nat) (e : Engine) : (s.setEngine g e).time = s.time := rfl
@[simp] theorem State.setEngine_domains (g : Nat) (e : Engine) : (s.setEngine g e).domains = s.domains := rfl
@[simp] theorem State.setEngine_capSamples (g : Nat) (e : Engine) : (s.setEngine g e).capSamples = s.capSamples := rfl
@[simp] theorem State.setEngine_hotSecond (g : Nat) (e : Engine) : (s.setEngine g e).hotSecond = s.hotSecond := rfl
@[simp] theorem State.setEngine_temps (g : Nat) (e : Engine) : (s.setEngine g e).temps = s.temps := rfl
@[simp] theorem State.setEngine_power (g : Nat) (e : Engine) : (s.setEngine g e).power = s.power := rfl
@[simp] theorem State.setEngine_tripped (g : Nat) (e : Engine) : (s.setEngine g e).tripped = s.tripped := rfl
@[simp] theorem State.setEngine_txn (g : Nat) (e : Engine) : (s.setEngine g e).txn = s.txn := rfl
@[simp] theorem State.setEngine_reply (g : Nat) (e : Engine) : (s.setEngine g e).reply = s.reply := rfl
@[simp] theorem State.setEngine_host (g : Nat) (e : Engine) : (s.setEngine g e).host = s.host := rfl
@[simp] theorem State.setEngine_can (g : Nat) (e : Engine) : (s.setEngine g e).can = s.can := rfl
@[simp] theorem State.setEngine_fw (g : Nat) (e : Engine) : (s.setEngine g e).fw = s.fw := rfl
@[simp] theorem State.setEngine_trace (g : Nat) (e : Engine) : (s.setEngine g e).trace = s.trace := rfl
@[simp] theorem State.setEngine_tap (g : Nat) (e : Engine) : (s.setEngine g e).tap = s.tap := rfl
@[simp] theorem State.setEngine_eps (g : Nat) (e : Engine) : (s.setEngine g e).eps = s.eps := rfl
@[simp] theorem State.setEngine_outbox (g : Nat) (e : Engine) : (s.setEngine g e).outbox = s.outbox := rfl
@[simp] theorem State.setEngine_free (g : Nat) (e : Engine) : (s.setEngine g e).free = s.free := rfl
@[simp] theorem State.setEngine_chipLaps (g : Nat) (e : Engine) : (s.setEngine g e).chipLaps = s.chipLaps := rfl
@[simp] theorem State.setEngine_bogChains (g : Nat) (e : Engine) : (s.setEngine g e).bogChains = s.bogChains := rfl
@[simp] theorem State.setEngine_aon (g : Nat) (e : Engine) : (s.setEngine g e).aon = s.aon := rfl
@[simp] theorem State.setCore_pending (g : Nat) (c : Core) : (s.setCore g c).pending = s.pending := rfl
@[simp] theorem State.setCore_dev (g : Nat) (c : Core) : (s.setCore g c).dev = s.dev := rfl
@[simp] theorem State.setCore_startStep (g : Nat) (c : Core) : (s.setCore g c).startStep = s.startStep := rfl
@[simp] theorem State.setCore_aonFailed (g : Nat) (c : Core) : (s.setCore g c).aonFailed = s.aonFailed := rfl
@[simp] theorem State.setCore_porst (g : Nat) (c : Core) : (s.setCore g c).porst = s.porst := rfl
@[simp] theorem State.setCore_straps (g : Nat) (c : Core) : (s.setCore g c).straps = s.straps := rfl
@[simp] theorem State.setCore_upperId (g : Nat) (c : Core) : (s.setCore g c).upperId = s.upperId := rfl
@[simp] theorem State.setCore_objs (g : Nat) (c : Core) : (s.setCore g c).objs = s.objs := rfl
@[simp] theorem State.setCore_retired (g : Nat) (c : Core) : (s.setCore g c).retired = s.retired := rfl
@[simp] theorem State.setCore_unretired (g : Nat) (c : Core) : (s.setCore g c).unretired = s.unretired := rfl
@[simp] theorem State.setCore_clusters (g : Nat) (c : Core) : (s.setCore g c).clusters = s.clusters := rfl
@[simp] theorem State.setCore_flights (g : Nat) (c : Core) : (s.setCore g c).flights = s.flights := rfl
@[simp] theorem State.setCore_hbm (g : Nat) (c : Core) : (s.setCore g c).hbm = s.hbm := rfl
@[simp] theorem State.setCore_hbmGone (g : Nat) (c : Core) : (s.setCore g c).hbmGone = s.hbmGone := rfl
@[simp] theorem State.setCore_hbmQ (g : Nat) (c : Core) : (s.setCore g c).hbmQ = s.hbmQ := rfl
@[simp] theorem State.setCore_hbmDredge (g : Nat) (c : Core) : (s.setCore g c).hbmDredge = s.hbmDredge := rfl
@[simp] theorem State.setCore_hbmHot (g : Nat) (c : Core) : (s.setCore g c).hbmHot = s.hbmHot := rfl
@[simp] theorem State.setCore_hbmLaps (g : Nat) (c : Core) : (s.setCore g c).hbmLaps = s.hbmLaps := rfl
@[simp] theorem State.setCore_noc (g : Nat) (c : Core) : (s.setCore g c).noc = s.noc := rfl
@[simp] theorem State.setCore_bogIn (g : Nat) (c : Core) : (s.setCore g c).bogIn = s.bogIn := rfl
@[simp] theorem State.setCore_bog (g : Nat) (c : Core) : (s.setCore g c).bog = s.bog := rfl
@[simp] theorem State.setCore_bogRecomp (g : Nat) (c : Core) : (s.setCore g c).bogRecomp = s.bogRecomp := rfl
@[simp] theorem State.setCore_bogStray (g : Nat) (c : Core) : (s.setCore g c).bogStray = s.bogStray := rfl
@[simp] theorem State.setCore_svcRsp (g : Nat) (c : Core) : (s.setCore g c).svcRsp = s.svcRsp := rfl
@[simp] theorem State.setCore_svcReq (g : Nat) (c : Core) : (s.setCore g c).svcReq = s.svcReq := rfl
@[simp] theorem State.setCore_devIn (g : Nat) (c : Core) : (s.setCore g c).devIn = s.devIn := rfl
@[simp] theorem State.setCore_probes (g : Nat) (c : Core) : (s.setCore g c).probes = s.probes := rfl
@[simp] theorem State.setCore_col (g : Nat) (c : Core) : (s.setCore g c).col = s.col := rfl
@[simp] theorem State.setCore_ports (g : Nat) (c : Core) : (s.setCore g c).ports = s.ports := rfl
@[simp] theorem State.setCore_time (g : Nat) (c : Core) : (s.setCore g c).time = s.time := rfl
@[simp] theorem State.setCore_domains (g : Nat) (c : Core) : (s.setCore g c).domains = s.domains := rfl
@[simp] theorem State.setCore_capSamples (g : Nat) (c : Core) : (s.setCore g c).capSamples = s.capSamples := rfl
@[simp] theorem State.setCore_hotSecond (g : Nat) (c : Core) : (s.setCore g c).hotSecond = s.hotSecond := rfl
@[simp] theorem State.setCore_temps (g : Nat) (c : Core) : (s.setCore g c).temps = s.temps := rfl
@[simp] theorem State.setCore_power (g : Nat) (c : Core) : (s.setCore g c).power = s.power := rfl
@[simp] theorem State.setCore_tripped (g : Nat) (c : Core) : (s.setCore g c).tripped = s.tripped := rfl
@[simp] theorem State.setCore_txn (g : Nat) (c : Core) : (s.setCore g c).txn = s.txn := rfl
@[simp] theorem State.setCore_reply (g : Nat) (c : Core) : (s.setCore g c).reply = s.reply := rfl
@[simp] theorem State.setCore_host (g : Nat) (c : Core) : (s.setCore g c).host = s.host := rfl
@[simp] theorem State.setCore_can (g : Nat) (c : Core) : (s.setCore g c).can = s.can := rfl
@[simp] theorem State.setCore_fw (g : Nat) (c : Core) : (s.setCore g c).fw = s.fw := rfl
@[simp] theorem State.setCore_trace (g : Nat) (c : Core) : (s.setCore g c).trace = s.trace := rfl
@[simp] theorem State.setCore_tap (g : Nat) (c : Core) : (s.setCore g c).tap = s.tap := rfl
@[simp] theorem State.setCore_eps (g : Nat) (c : Core) : (s.setCore g c).eps = s.eps := rfl
@[simp] theorem State.setCore_outbox (g : Nat) (c : Core) : (s.setCore g c).outbox = s.outbox := rfl
@[simp] theorem State.setCore_free (g : Nat) (c : Core) : (s.setCore g c).free = s.free := rfl
@[simp] theorem State.setCore_chipLaps (g : Nat) (c : Core) : (s.setCore g c).chipLaps = s.chipLaps := rfl
@[simp] theorem State.setCore_bogChains (g : Nat) (c : Core) : (s.setCore g c).bogChains = s.bogChains := rfl
@[simp] theorem State.setCore_aon (g : Nat) (c : Core) : (s.setCore g c).aon = s.aon := rfl
@[simp] theorem State.setTu_pending (g : Nat) (t : TokenUnit) : (s.setTu g t).pending = s.pending := rfl
@[simp] theorem State.setTu_dev (g : Nat) (t : TokenUnit) : (s.setTu g t).dev = s.dev := rfl
@[simp] theorem State.setTu_startStep (g : Nat) (t : TokenUnit) : (s.setTu g t).startStep = s.startStep := rfl
@[simp] theorem State.setTu_aonFailed (g : Nat) (t : TokenUnit) : (s.setTu g t).aonFailed = s.aonFailed := rfl
@[simp] theorem State.setTu_porst (g : Nat) (t : TokenUnit) : (s.setTu g t).porst = s.porst := rfl
@[simp] theorem State.setTu_straps (g : Nat) (t : TokenUnit) : (s.setTu g t).straps = s.straps := rfl
@[simp] theorem State.setTu_upperId (g : Nat) (t : TokenUnit) : (s.setTu g t).upperId = s.upperId := rfl
@[simp] theorem State.setTu_objs (g : Nat) (t : TokenUnit) : (s.setTu g t).objs = s.objs := rfl
@[simp] theorem State.setTu_retired (g : Nat) (t : TokenUnit) : (s.setTu g t).retired = s.retired := rfl
@[simp] theorem State.setTu_unretired (g : Nat) (t : TokenUnit) : (s.setTu g t).unretired = s.unretired := rfl
@[simp] theorem State.setTu_clusters (g : Nat) (t : TokenUnit) : (s.setTu g t).clusters = s.clusters := rfl
@[simp] theorem State.setTu_flights (g : Nat) (t : TokenUnit) : (s.setTu g t).flights = s.flights := rfl
@[simp] theorem State.setTu_hbm (g : Nat) (t : TokenUnit) : (s.setTu g t).hbm = s.hbm := rfl
@[simp] theorem State.setTu_hbmGone (g : Nat) (t : TokenUnit) : (s.setTu g t).hbmGone = s.hbmGone := rfl
@[simp] theorem State.setTu_hbmQ (g : Nat) (t : TokenUnit) : (s.setTu g t).hbmQ = s.hbmQ := rfl
@[simp] theorem State.setTu_hbmDredge (g : Nat) (t : TokenUnit) : (s.setTu g t).hbmDredge = s.hbmDredge := rfl
@[simp] theorem State.setTu_hbmHot (g : Nat) (t : TokenUnit) : (s.setTu g t).hbmHot = s.hbmHot := rfl
@[simp] theorem State.setTu_hbmLaps (g : Nat) (t : TokenUnit) : (s.setTu g t).hbmLaps = s.hbmLaps := rfl
@[simp] theorem State.setTu_noc (g : Nat) (t : TokenUnit) : (s.setTu g t).noc = s.noc := rfl
@[simp] theorem State.setTu_bogIn (g : Nat) (t : TokenUnit) : (s.setTu g t).bogIn = s.bogIn := rfl
@[simp] theorem State.setTu_bog (g : Nat) (t : TokenUnit) : (s.setTu g t).bog = s.bog := rfl
@[simp] theorem State.setTu_bogRecomp (g : Nat) (t : TokenUnit) : (s.setTu g t).bogRecomp = s.bogRecomp := rfl
@[simp] theorem State.setTu_bogStray (g : Nat) (t : TokenUnit) : (s.setTu g t).bogStray = s.bogStray := rfl
@[simp] theorem State.setTu_svcRsp (g : Nat) (t : TokenUnit) : (s.setTu g t).svcRsp = s.svcRsp := rfl
@[simp] theorem State.setTu_svcReq (g : Nat) (t : TokenUnit) : (s.setTu g t).svcReq = s.svcReq := rfl
@[simp] theorem State.setTu_devIn (g : Nat) (t : TokenUnit) : (s.setTu g t).devIn = s.devIn := rfl
@[simp] theorem State.setTu_probes (g : Nat) (t : TokenUnit) : (s.setTu g t).probes = s.probes := rfl
@[simp] theorem State.setTu_col (g : Nat) (t : TokenUnit) : (s.setTu g t).col = s.col := rfl
@[simp] theorem State.setTu_ports (g : Nat) (t : TokenUnit) : (s.setTu g t).ports = s.ports := rfl
@[simp] theorem State.setTu_time (g : Nat) (t : TokenUnit) : (s.setTu g t).time = s.time := rfl
@[simp] theorem State.setTu_domains (g : Nat) (t : TokenUnit) : (s.setTu g t).domains = s.domains := rfl
@[simp] theorem State.setTu_capSamples (g : Nat) (t : TokenUnit) : (s.setTu g t).capSamples = s.capSamples := rfl
@[simp] theorem State.setTu_hotSecond (g : Nat) (t : TokenUnit) : (s.setTu g t).hotSecond = s.hotSecond := rfl
@[simp] theorem State.setTu_temps (g : Nat) (t : TokenUnit) : (s.setTu g t).temps = s.temps := rfl
@[simp] theorem State.setTu_power (g : Nat) (t : TokenUnit) : (s.setTu g t).power = s.power := rfl
@[simp] theorem State.setTu_tripped (g : Nat) (t : TokenUnit) : (s.setTu g t).tripped = s.tripped := rfl
@[simp] theorem State.setTu_txn (g : Nat) (t : TokenUnit) : (s.setTu g t).txn = s.txn := rfl
@[simp] theorem State.setTu_reply (g : Nat) (t : TokenUnit) : (s.setTu g t).reply = s.reply := rfl
@[simp] theorem State.setTu_host (g : Nat) (t : TokenUnit) : (s.setTu g t).host = s.host := rfl
@[simp] theorem State.setTu_can (g : Nat) (t : TokenUnit) : (s.setTu g t).can = s.can := rfl
@[simp] theorem State.setTu_fw (g : Nat) (t : TokenUnit) : (s.setTu g t).fw = s.fw := rfl
@[simp] theorem State.setTu_trace (g : Nat) (t : TokenUnit) : (s.setTu g t).trace = s.trace := rfl
@[simp] theorem State.setTu_tap (g : Nat) (t : TokenUnit) : (s.setTu g t).tap = s.tap := rfl
@[simp] theorem State.setTu_eps (g : Nat) (t : TokenUnit) : (s.setTu g t).eps = s.eps := rfl
@[simp] theorem State.setTu_outbox (g : Nat) (t : TokenUnit) : (s.setTu g t).outbox = s.outbox := rfl
@[simp] theorem State.setTu_free (g : Nat) (t : TokenUnit) : (s.setTu g t).free = s.free := rfl
@[simp] theorem State.setTu_chipLaps (g : Nat) (t : TokenUnit) : (s.setTu g t).chipLaps = s.chipLaps := rfl
@[simp] theorem State.setTu_bogChains (g : Nat) (t : TokenUnit) : (s.setTu g t).bogChains = s.bogChains := rfl
@[simp] theorem State.setTu_aon (g : Nat) (t : TokenUnit) : (s.setTu g t).aon = s.aon := rfl
@[simp] theorem State.setCluster_pending (c : Nat) (x : Cluster) : (s.setCluster c x).pending = s.pending := rfl
@[simp] theorem State.setCluster_dev (c : Nat) (x : Cluster) : (s.setCluster c x).dev = s.dev := rfl
@[simp] theorem State.setCluster_startStep (c : Nat) (x : Cluster) : (s.setCluster c x).startStep = s.startStep := rfl
@[simp] theorem State.setCluster_aonFailed (c : Nat) (x : Cluster) : (s.setCluster c x).aonFailed = s.aonFailed := rfl
@[simp] theorem State.setCluster_porst (c : Nat) (x : Cluster) : (s.setCluster c x).porst = s.porst := rfl
@[simp] theorem State.setCluster_straps (c : Nat) (x : Cluster) : (s.setCluster c x).straps = s.straps := rfl
@[simp] theorem State.setCluster_upperId (c : Nat) (x : Cluster) : (s.setCluster c x).upperId = s.upperId := rfl
@[simp] theorem State.setCluster_objs (c : Nat) (x : Cluster) : (s.setCluster c x).objs = s.objs := rfl
@[simp] theorem State.setCluster_retired (c : Nat) (x : Cluster) : (s.setCluster c x).retired = s.retired := rfl
@[simp] theorem State.setCluster_unretired (c : Nat) (x : Cluster) : (s.setCluster c x).unretired = s.unretired := rfl
@[simp] theorem State.setCluster_engines (c : Nat) (x : Cluster) : (s.setCluster c x).engines = s.engines := rfl
@[simp] theorem State.setCluster_flights (c : Nat) (x : Cluster) : (s.setCluster c x).flights = s.flights := rfl
@[simp] theorem State.setCluster_hbm (c : Nat) (x : Cluster) : (s.setCluster c x).hbm = s.hbm := rfl
@[simp] theorem State.setCluster_hbmGone (c : Nat) (x : Cluster) : (s.setCluster c x).hbmGone = s.hbmGone := rfl
@[simp] theorem State.setCluster_hbmQ (c : Nat) (x : Cluster) : (s.setCluster c x).hbmQ = s.hbmQ := rfl
@[simp] theorem State.setCluster_hbmDredge (c : Nat) (x : Cluster) : (s.setCluster c x).hbmDredge = s.hbmDredge := rfl
@[simp] theorem State.setCluster_hbmHot (c : Nat) (x : Cluster) : (s.setCluster c x).hbmHot = s.hbmHot := rfl
@[simp] theorem State.setCluster_hbmLaps (c : Nat) (x : Cluster) : (s.setCluster c x).hbmLaps = s.hbmLaps := rfl
@[simp] theorem State.setCluster_noc (c : Nat) (x : Cluster) : (s.setCluster c x).noc = s.noc := rfl
@[simp] theorem State.setCluster_bogIn (c : Nat) (x : Cluster) : (s.setCluster c x).bogIn = s.bogIn := rfl
@[simp] theorem State.setCluster_bog (c : Nat) (x : Cluster) : (s.setCluster c x).bog = s.bog := rfl
@[simp] theorem State.setCluster_bogRecomp (c : Nat) (x : Cluster) : (s.setCluster c x).bogRecomp = s.bogRecomp := rfl
@[simp] theorem State.setCluster_bogStray (c : Nat) (x : Cluster) : (s.setCluster c x).bogStray = s.bogStray := rfl
@[simp] theorem State.setCluster_svcRsp (c : Nat) (x : Cluster) : (s.setCluster c x).svcRsp = s.svcRsp := rfl
@[simp] theorem State.setCluster_svcReq (c : Nat) (x : Cluster) : (s.setCluster c x).svcReq = s.svcReq := rfl
@[simp] theorem State.setCluster_devIn (c : Nat) (x : Cluster) : (s.setCluster c x).devIn = s.devIn := rfl
@[simp] theorem State.setCluster_probes (c : Nat) (x : Cluster) : (s.setCluster c x).probes = s.probes := rfl
@[simp] theorem State.setCluster_col (c : Nat) (x : Cluster) : (s.setCluster c x).col = s.col := rfl
@[simp] theorem State.setCluster_ports (c : Nat) (x : Cluster) : (s.setCluster c x).ports = s.ports := rfl
@[simp] theorem State.setCluster_time (c : Nat) (x : Cluster) : (s.setCluster c x).time = s.time := rfl
@[simp] theorem State.setCluster_domains (c : Nat) (x : Cluster) : (s.setCluster c x).domains = s.domains := rfl
@[simp] theorem State.setCluster_capSamples (c : Nat) (x : Cluster) : (s.setCluster c x).capSamples = s.capSamples := rfl
@[simp] theorem State.setCluster_hotSecond (c : Nat) (x : Cluster) : (s.setCluster c x).hotSecond = s.hotSecond := rfl
@[simp] theorem State.setCluster_temps (c : Nat) (x : Cluster) : (s.setCluster c x).temps = s.temps := rfl
@[simp] theorem State.setCluster_power (c : Nat) (x : Cluster) : (s.setCluster c x).power = s.power := rfl
@[simp] theorem State.setCluster_tripped (c : Nat) (x : Cluster) : (s.setCluster c x).tripped = s.tripped := rfl
@[simp] theorem State.setCluster_txn (c : Nat) (x : Cluster) : (s.setCluster c x).txn = s.txn := rfl
@[simp] theorem State.setCluster_reply (c : Nat) (x : Cluster) : (s.setCluster c x).reply = s.reply := rfl
@[simp] theorem State.setCluster_host (c : Nat) (x : Cluster) : (s.setCluster c x).host = s.host := rfl
@[simp] theorem State.setCluster_can (c : Nat) (x : Cluster) : (s.setCluster c x).can = s.can := rfl
@[simp] theorem State.setCluster_fw (c : Nat) (x : Cluster) : (s.setCluster c x).fw = s.fw := rfl
@[simp] theorem State.setCluster_trace (c : Nat) (x : Cluster) : (s.setCluster c x).trace = s.trace := rfl
@[simp] theorem State.setCluster_tap (c : Nat) (x : Cluster) : (s.setCluster c x).tap = s.tap := rfl
@[simp] theorem State.setCluster_eps (c : Nat) (x : Cluster) : (s.setCluster c x).eps = s.eps := rfl
@[simp] theorem State.setCluster_outbox (c : Nat) (x : Cluster) : (s.setCluster c x).outbox = s.outbox := rfl
@[simp] theorem State.setCluster_free (c : Nat) (x : Cluster) : (s.setCluster c x).free = s.free := rfl
@[simp] theorem State.setCluster_chipLaps (c : Nat) (x : Cluster) : (s.setCluster c x).chipLaps = s.chipLaps := rfl
@[simp] theorem State.setCluster_bogChains (c : Nat) (x : Cluster) : (s.setCluster c x).bogChains = s.bogChains := rfl
@[simp] theorem State.setCluster_aon (c : Nat) (x : Cluster) : (s.setCluster c x).aon = s.aon := rfl
@[simp] theorem State.setFlight_pending (f : Nat) (x : Flight) : (s.setFlight f x).pending = s.pending := rfl
@[simp] theorem State.setFlight_dev (f : Nat) (x : Flight) : (s.setFlight f x).dev = s.dev := rfl
@[simp] theorem State.setFlight_startStep (f : Nat) (x : Flight) : (s.setFlight f x).startStep = s.startStep := rfl
@[simp] theorem State.setFlight_aonFailed (f : Nat) (x : Flight) : (s.setFlight f x).aonFailed = s.aonFailed := rfl
@[simp] theorem State.setFlight_porst (f : Nat) (x : Flight) : (s.setFlight f x).porst = s.porst := rfl
@[simp] theorem State.setFlight_straps (f : Nat) (x : Flight) : (s.setFlight f x).straps = s.straps := rfl
@[simp] theorem State.setFlight_upperId (f : Nat) (x : Flight) : (s.setFlight f x).upperId = s.upperId := rfl
@[simp] theorem State.setFlight_objs (f : Nat) (x : Flight) : (s.setFlight f x).objs = s.objs := rfl
@[simp] theorem State.setFlight_retired (f : Nat) (x : Flight) : (s.setFlight f x).retired = s.retired := rfl
@[simp] theorem State.setFlight_unretired (f : Nat) (x : Flight) : (s.setFlight f x).unretired = s.unretired := rfl
@[simp] theorem State.setFlight_engines (f : Nat) (x : Flight) : (s.setFlight f x).engines = s.engines := rfl
@[simp] theorem State.setFlight_clusters (f : Nat) (x : Flight) : (s.setFlight f x).clusters = s.clusters := rfl
@[simp] theorem State.setFlight_hbm (f : Nat) (x : Flight) : (s.setFlight f x).hbm = s.hbm := rfl
@[simp] theorem State.setFlight_hbmGone (f : Nat) (x : Flight) : (s.setFlight f x).hbmGone = s.hbmGone := rfl
@[simp] theorem State.setFlight_hbmQ (f : Nat) (x : Flight) : (s.setFlight f x).hbmQ = s.hbmQ := rfl
@[simp] theorem State.setFlight_hbmDredge (f : Nat) (x : Flight) : (s.setFlight f x).hbmDredge = s.hbmDredge := rfl
@[simp] theorem State.setFlight_hbmHot (f : Nat) (x : Flight) : (s.setFlight f x).hbmHot = s.hbmHot := rfl
@[simp] theorem State.setFlight_hbmLaps (f : Nat) (x : Flight) : (s.setFlight f x).hbmLaps = s.hbmLaps := rfl
@[simp] theorem State.setFlight_noc (f : Nat) (x : Flight) : (s.setFlight f x).noc = s.noc := rfl
@[simp] theorem State.setFlight_bogIn (f : Nat) (x : Flight) : (s.setFlight f x).bogIn = s.bogIn := rfl
@[simp] theorem State.setFlight_bog (f : Nat) (x : Flight) : (s.setFlight f x).bog = s.bog := rfl
@[simp] theorem State.setFlight_bogRecomp (f : Nat) (x : Flight) : (s.setFlight f x).bogRecomp = s.bogRecomp := rfl
@[simp] theorem State.setFlight_bogStray (f : Nat) (x : Flight) : (s.setFlight f x).bogStray = s.bogStray := rfl
@[simp] theorem State.setFlight_svcRsp (f : Nat) (x : Flight) : (s.setFlight f x).svcRsp = s.svcRsp := rfl
@[simp] theorem State.setFlight_svcReq (f : Nat) (x : Flight) : (s.setFlight f x).svcReq = s.svcReq := rfl
@[simp] theorem State.setFlight_devIn (f : Nat) (x : Flight) : (s.setFlight f x).devIn = s.devIn := rfl
@[simp] theorem State.setFlight_probes (f : Nat) (x : Flight) : (s.setFlight f x).probes = s.probes := rfl
@[simp] theorem State.setFlight_col (f : Nat) (x : Flight) : (s.setFlight f x).col = s.col := rfl
@[simp] theorem State.setFlight_ports (f : Nat) (x : Flight) : (s.setFlight f x).ports = s.ports := rfl
@[simp] theorem State.setFlight_time (f : Nat) (x : Flight) : (s.setFlight f x).time = s.time := rfl
@[simp] theorem State.setFlight_domains (f : Nat) (x : Flight) : (s.setFlight f x).domains = s.domains := rfl
@[simp] theorem State.setFlight_capSamples (f : Nat) (x : Flight) : (s.setFlight f x).capSamples = s.capSamples := rfl
@[simp] theorem State.setFlight_hotSecond (f : Nat) (x : Flight) : (s.setFlight f x).hotSecond = s.hotSecond := rfl
@[simp] theorem State.setFlight_temps (f : Nat) (x : Flight) : (s.setFlight f x).temps = s.temps := rfl
@[simp] theorem State.setFlight_power (f : Nat) (x : Flight) : (s.setFlight f x).power = s.power := rfl
@[simp] theorem State.setFlight_tripped (f : Nat) (x : Flight) : (s.setFlight f x).tripped = s.tripped := rfl
@[simp] theorem State.setFlight_txn (f : Nat) (x : Flight) : (s.setFlight f x).txn = s.txn := rfl
@[simp] theorem State.setFlight_reply (f : Nat) (x : Flight) : (s.setFlight f x).reply = s.reply := rfl
@[simp] theorem State.setFlight_host (f : Nat) (x : Flight) : (s.setFlight f x).host = s.host := rfl
@[simp] theorem State.setFlight_can (f : Nat) (x : Flight) : (s.setFlight f x).can = s.can := rfl
@[simp] theorem State.setFlight_fw (f : Nat) (x : Flight) : (s.setFlight f x).fw = s.fw := rfl
@[simp] theorem State.setFlight_trace (f : Nat) (x : Flight) : (s.setFlight f x).trace = s.trace := rfl
@[simp] theorem State.setFlight_tap (f : Nat) (x : Flight) : (s.setFlight f x).tap = s.tap := rfl
@[simp] theorem State.setFlight_eps (f : Nat) (x : Flight) : (s.setFlight f x).eps = s.eps := rfl
@[simp] theorem State.setFlight_outbox (f : Nat) (x : Flight) : (s.setFlight f x).outbox = s.outbox := rfl
@[simp] theorem State.setFlight_free (f : Nat) (x : Flight) : (s.setFlight f x).free = s.free := rfl
@[simp] theorem State.setFlight_chipLaps (f : Nat) (x : Flight) : (s.setFlight f x).chipLaps = s.chipLaps := rfl
@[simp] theorem State.setFlight_bogChains (f : Nat) (x : Flight) : (s.setFlight f x).bogChains = s.bogChains := rfl
@[simp] theorem State.setFlight_aon (f : Nat) (x : Flight) : (s.setFlight f x).aon = s.aon := rfl
@[simp] theorem State.setDomain_pending (d : Nat) (x : Domain) : (s.setDomain d x).pending = s.pending := rfl
@[simp] theorem State.setDomain_dev (d : Nat) (x : Domain) : (s.setDomain d x).dev = s.dev := rfl
@[simp] theorem State.setDomain_startStep (d : Nat) (x : Domain) : (s.setDomain d x).startStep = s.startStep := rfl
@[simp] theorem State.setDomain_aonFailed (d : Nat) (x : Domain) : (s.setDomain d x).aonFailed = s.aonFailed := rfl
@[simp] theorem State.setDomain_porst (d : Nat) (x : Domain) : (s.setDomain d x).porst = s.porst := rfl
@[simp] theorem State.setDomain_straps (d : Nat) (x : Domain) : (s.setDomain d x).straps = s.straps := rfl
@[simp] theorem State.setDomain_upperId (d : Nat) (x : Domain) : (s.setDomain d x).upperId = s.upperId := rfl
@[simp] theorem State.setDomain_objs (d : Nat) (x : Domain) : (s.setDomain d x).objs = s.objs := rfl
@[simp] theorem State.setDomain_retired (d : Nat) (x : Domain) : (s.setDomain d x).retired = s.retired := rfl
@[simp] theorem State.setDomain_unretired (d : Nat) (x : Domain) : (s.setDomain d x).unretired = s.unretired := rfl
@[simp] theorem State.setDomain_engines (d : Nat) (x : Domain) : (s.setDomain d x).engines = s.engines := rfl
@[simp] theorem State.setDomain_clusters (d : Nat) (x : Domain) : (s.setDomain d x).clusters = s.clusters := rfl
@[simp] theorem State.setDomain_flights (d : Nat) (x : Domain) : (s.setDomain d x).flights = s.flights := rfl
@[simp] theorem State.setDomain_hbm (d : Nat) (x : Domain) : (s.setDomain d x).hbm = s.hbm := rfl
@[simp] theorem State.setDomain_hbmGone (d : Nat) (x : Domain) : (s.setDomain d x).hbmGone = s.hbmGone := rfl
@[simp] theorem State.setDomain_hbmQ (d : Nat) (x : Domain) : (s.setDomain d x).hbmQ = s.hbmQ := rfl
@[simp] theorem State.setDomain_hbmDredge (d : Nat) (x : Domain) : (s.setDomain d x).hbmDredge = s.hbmDredge := rfl
@[simp] theorem State.setDomain_hbmHot (d : Nat) (x : Domain) : (s.setDomain d x).hbmHot = s.hbmHot := rfl
@[simp] theorem State.setDomain_hbmLaps (d : Nat) (x : Domain) : (s.setDomain d x).hbmLaps = s.hbmLaps := rfl
@[simp] theorem State.setDomain_noc (d : Nat) (x : Domain) : (s.setDomain d x).noc = s.noc := rfl
@[simp] theorem State.setDomain_bogIn (d : Nat) (x : Domain) : (s.setDomain d x).bogIn = s.bogIn := rfl
@[simp] theorem State.setDomain_bog (d : Nat) (x : Domain) : (s.setDomain d x).bog = s.bog := rfl
@[simp] theorem State.setDomain_bogRecomp (d : Nat) (x : Domain) : (s.setDomain d x).bogRecomp = s.bogRecomp := rfl
@[simp] theorem State.setDomain_bogStray (d : Nat) (x : Domain) : (s.setDomain d x).bogStray = s.bogStray := rfl
@[simp] theorem State.setDomain_svcRsp (d : Nat) (x : Domain) : (s.setDomain d x).svcRsp = s.svcRsp := rfl
@[simp] theorem State.setDomain_svcReq (d : Nat) (x : Domain) : (s.setDomain d x).svcReq = s.svcReq := rfl
@[simp] theorem State.setDomain_devIn (d : Nat) (x : Domain) : (s.setDomain d x).devIn = s.devIn := rfl
@[simp] theorem State.setDomain_probes (d : Nat) (x : Domain) : (s.setDomain d x).probes = s.probes := rfl
@[simp] theorem State.setDomain_col (d : Nat) (x : Domain) : (s.setDomain d x).col = s.col := rfl
@[simp] theorem State.setDomain_ports (d : Nat) (x : Domain) : (s.setDomain d x).ports = s.ports := rfl
@[simp] theorem State.setDomain_time (d : Nat) (x : Domain) : (s.setDomain d x).time = s.time := rfl
@[simp] theorem State.setDomain_capSamples (d : Nat) (x : Domain) : (s.setDomain d x).capSamples = s.capSamples := rfl
@[simp] theorem State.setDomain_hotSecond (d : Nat) (x : Domain) : (s.setDomain d x).hotSecond = s.hotSecond := rfl
@[simp] theorem State.setDomain_temps (d : Nat) (x : Domain) : (s.setDomain d x).temps = s.temps := rfl
@[simp] theorem State.setDomain_power (d : Nat) (x : Domain) : (s.setDomain d x).power = s.power := rfl
@[simp] theorem State.setDomain_tripped (d : Nat) (x : Domain) : (s.setDomain d x).tripped = s.tripped := rfl
@[simp] theorem State.setDomain_txn (d : Nat) (x : Domain) : (s.setDomain d x).txn = s.txn := rfl
@[simp] theorem State.setDomain_reply (d : Nat) (x : Domain) : (s.setDomain d x).reply = s.reply := rfl
@[simp] theorem State.setDomain_host (d : Nat) (x : Domain) : (s.setDomain d x).host = s.host := rfl
@[simp] theorem State.setDomain_can (d : Nat) (x : Domain) : (s.setDomain d x).can = s.can := rfl
@[simp] theorem State.setDomain_fw (d : Nat) (x : Domain) : (s.setDomain d x).fw = s.fw := rfl
@[simp] theorem State.setDomain_trace (d : Nat) (x : Domain) : (s.setDomain d x).trace = s.trace := rfl
@[simp] theorem State.setDomain_tap (d : Nat) (x : Domain) : (s.setDomain d x).tap = s.tap := rfl
@[simp] theorem State.setDomain_eps (d : Nat) (x : Domain) : (s.setDomain d x).eps = s.eps := rfl
@[simp] theorem State.setDomain_outbox (d : Nat) (x : Domain) : (s.setDomain d x).outbox = s.outbox := rfl
@[simp] theorem State.setDomain_free (d : Nat) (x : Domain) : (s.setDomain d x).free = s.free := rfl
@[simp] theorem State.setDomain_chipLaps (d : Nat) (x : Domain) : (s.setDomain d x).chipLaps = s.chipLaps := rfl
@[simp] theorem State.setDomain_bogChains (d : Nat) (x : Domain) : (s.setDomain d x).bogChains = s.bogChains := rfl
@[simp] theorem State.setDomain_aon (d : Nat) (x : Domain) : (s.setDomain d x).aon = s.aon := rfl
@[simp] theorem State.setPort_pending (p : Nat) (x : Port) : (s.setPort p x).pending = s.pending := rfl
@[simp] theorem State.setPort_dev (p : Nat) (x : Port) : (s.setPort p x).dev = s.dev := rfl
@[simp] theorem State.setPort_startStep (p : Nat) (x : Port) : (s.setPort p x).startStep = s.startStep := rfl
@[simp] theorem State.setPort_aonFailed (p : Nat) (x : Port) : (s.setPort p x).aonFailed = s.aonFailed := rfl
@[simp] theorem State.setPort_porst (p : Nat) (x : Port) : (s.setPort p x).porst = s.porst := rfl
@[simp] theorem State.setPort_straps (p : Nat) (x : Port) : (s.setPort p x).straps = s.straps := rfl
@[simp] theorem State.setPort_upperId (p : Nat) (x : Port) : (s.setPort p x).upperId = s.upperId := rfl
@[simp] theorem State.setPort_objs (p : Nat) (x : Port) : (s.setPort p x).objs = s.objs := rfl
@[simp] theorem State.setPort_retired (p : Nat) (x : Port) : (s.setPort p x).retired = s.retired := rfl
@[simp] theorem State.setPort_unretired (p : Nat) (x : Port) : (s.setPort p x).unretired = s.unretired := rfl
@[simp] theorem State.setPort_engines (p : Nat) (x : Port) : (s.setPort p x).engines = s.engines := rfl
@[simp] theorem State.setPort_clusters (p : Nat) (x : Port) : (s.setPort p x).clusters = s.clusters := rfl
@[simp] theorem State.setPort_flights (p : Nat) (x : Port) : (s.setPort p x).flights = s.flights := rfl
@[simp] theorem State.setPort_hbm (p : Nat) (x : Port) : (s.setPort p x).hbm = s.hbm := rfl
@[simp] theorem State.setPort_hbmGone (p : Nat) (x : Port) : (s.setPort p x).hbmGone = s.hbmGone := rfl
@[simp] theorem State.setPort_hbmQ (p : Nat) (x : Port) : (s.setPort p x).hbmQ = s.hbmQ := rfl
@[simp] theorem State.setPort_hbmDredge (p : Nat) (x : Port) : (s.setPort p x).hbmDredge = s.hbmDredge := rfl
@[simp] theorem State.setPort_hbmHot (p : Nat) (x : Port) : (s.setPort p x).hbmHot = s.hbmHot := rfl
@[simp] theorem State.setPort_hbmLaps (p : Nat) (x : Port) : (s.setPort p x).hbmLaps = s.hbmLaps := rfl
@[simp] theorem State.setPort_noc (p : Nat) (x : Port) : (s.setPort p x).noc = s.noc := rfl
@[simp] theorem State.setPort_bogIn (p : Nat) (x : Port) : (s.setPort p x).bogIn = s.bogIn := rfl
@[simp] theorem State.setPort_bog (p : Nat) (x : Port) : (s.setPort p x).bog = s.bog := rfl
@[simp] theorem State.setPort_bogRecomp (p : Nat) (x : Port) : (s.setPort p x).bogRecomp = s.bogRecomp := rfl
@[simp] theorem State.setPort_bogStray (p : Nat) (x : Port) : (s.setPort p x).bogStray = s.bogStray := rfl
@[simp] theorem State.setPort_svcRsp (p : Nat) (x : Port) : (s.setPort p x).svcRsp = s.svcRsp := rfl
@[simp] theorem State.setPort_svcReq (p : Nat) (x : Port) : (s.setPort p x).svcReq = s.svcReq := rfl
@[simp] theorem State.setPort_devIn (p : Nat) (x : Port) : (s.setPort p x).devIn = s.devIn := rfl
@[simp] theorem State.setPort_probes (p : Nat) (x : Port) : (s.setPort p x).probes = s.probes := rfl
@[simp] theorem State.setPort_col (p : Nat) (x : Port) : (s.setPort p x).col = s.col := rfl
@[simp] theorem State.setPort_time (p : Nat) (x : Port) : (s.setPort p x).time = s.time := rfl
@[simp] theorem State.setPort_domains (p : Nat) (x : Port) : (s.setPort p x).domains = s.domains := rfl
@[simp] theorem State.setPort_capSamples (p : Nat) (x : Port) : (s.setPort p x).capSamples = s.capSamples := rfl
@[simp] theorem State.setPort_hotSecond (p : Nat) (x : Port) : (s.setPort p x).hotSecond = s.hotSecond := rfl
@[simp] theorem State.setPort_temps (p : Nat) (x : Port) : (s.setPort p x).temps = s.temps := rfl
@[simp] theorem State.setPort_power (p : Nat) (x : Port) : (s.setPort p x).power = s.power := rfl
@[simp] theorem State.setPort_tripped (p : Nat) (x : Port) : (s.setPort p x).tripped = s.tripped := rfl
@[simp] theorem State.setPort_txn (p : Nat) (x : Port) : (s.setPort p x).txn = s.txn := rfl
@[simp] theorem State.setPort_reply (p : Nat) (x : Port) : (s.setPort p x).reply = s.reply := rfl
@[simp] theorem State.setPort_host (p : Nat) (x : Port) : (s.setPort p x).host = s.host := rfl
@[simp] theorem State.setPort_can (p : Nat) (x : Port) : (s.setPort p x).can = s.can := rfl
@[simp] theorem State.setPort_fw (p : Nat) (x : Port) : (s.setPort p x).fw = s.fw := rfl
@[simp] theorem State.setPort_trace (p : Nat) (x : Port) : (s.setPort p x).trace = s.trace := rfl
@[simp] theorem State.setPort_tap (p : Nat) (x : Port) : (s.setPort p x).tap = s.tap := rfl
@[simp] theorem State.setPort_eps (p : Nat) (x : Port) : (s.setPort p x).eps = s.eps := rfl
@[simp] theorem State.setPort_outbox (p : Nat) (x : Port) : (s.setPort p x).outbox = s.outbox := rfl
@[simp] theorem State.setPort_free (p : Nat) (x : Port) : (s.setPort p x).free = s.free := rfl
@[simp] theorem State.setPort_chipLaps (p : Nat) (x : Port) : (s.setPort p x).chipLaps = s.chipLaps := rfl
@[simp] theorem State.setPort_bogChains (p : Nat) (x : Port) : (s.setPort p x).bogChains = s.bogChains := rfl
@[simp] theorem State.setPort_aon (p : Nat) (x : Port) : (s.setPort p x).aon = s.aon := rfl
@[simp] theorem State.setObj_pending (ix sub v : Nat) : (s.setObj ix sub v).pending = s.pending := rfl
@[simp] theorem State.setObj_dev (ix sub v : Nat) : (s.setObj ix sub v).dev = s.dev := rfl
@[simp] theorem State.setObj_startStep (ix sub v : Nat) : (s.setObj ix sub v).startStep = s.startStep := rfl
@[simp] theorem State.setObj_aonFailed (ix sub v : Nat) : (s.setObj ix sub v).aonFailed = s.aonFailed := rfl
@[simp] theorem State.setObj_porst (ix sub v : Nat) : (s.setObj ix sub v).porst = s.porst := rfl
@[simp] theorem State.setObj_straps (ix sub v : Nat) : (s.setObj ix sub v).straps = s.straps := rfl
@[simp] theorem State.setObj_upperId (ix sub v : Nat) : (s.setObj ix sub v).upperId = s.upperId := rfl
@[simp] theorem State.setObj_retired (ix sub v : Nat) : (s.setObj ix sub v).retired = s.retired := rfl
@[simp] theorem State.setObj_unretired (ix sub v : Nat) : (s.setObj ix sub v).unretired = s.unretired := rfl
@[simp] theorem State.setObj_engines (ix sub v : Nat) : (s.setObj ix sub v).engines = s.engines := rfl
@[simp] theorem State.setObj_clusters (ix sub v : Nat) : (s.setObj ix sub v).clusters = s.clusters := rfl
@[simp] theorem State.setObj_flights (ix sub v : Nat) : (s.setObj ix sub v).flights = s.flights := rfl
@[simp] theorem State.setObj_hbm (ix sub v : Nat) : (s.setObj ix sub v).hbm = s.hbm := rfl
@[simp] theorem State.setObj_hbmGone (ix sub v : Nat) : (s.setObj ix sub v).hbmGone = s.hbmGone := rfl
@[simp] theorem State.setObj_hbmQ (ix sub v : Nat) : (s.setObj ix sub v).hbmQ = s.hbmQ := rfl
@[simp] theorem State.setObj_hbmDredge (ix sub v : Nat) : (s.setObj ix sub v).hbmDredge = s.hbmDredge := rfl
@[simp] theorem State.setObj_hbmHot (ix sub v : Nat) : (s.setObj ix sub v).hbmHot = s.hbmHot := rfl
@[simp] theorem State.setObj_hbmLaps (ix sub v : Nat) : (s.setObj ix sub v).hbmLaps = s.hbmLaps := rfl
@[simp] theorem State.setObj_noc (ix sub v : Nat) : (s.setObj ix sub v).noc = s.noc := rfl
@[simp] theorem State.setObj_bogIn (ix sub v : Nat) : (s.setObj ix sub v).bogIn = s.bogIn := rfl
@[simp] theorem State.setObj_bog (ix sub v : Nat) : (s.setObj ix sub v).bog = s.bog := rfl
@[simp] theorem State.setObj_bogRecomp (ix sub v : Nat) : (s.setObj ix sub v).bogRecomp = s.bogRecomp := rfl
@[simp] theorem State.setObj_bogStray (ix sub v : Nat) : (s.setObj ix sub v).bogStray = s.bogStray := rfl
@[simp] theorem State.setObj_svcRsp (ix sub v : Nat) : (s.setObj ix sub v).svcRsp = s.svcRsp := rfl
@[simp] theorem State.setObj_svcReq (ix sub v : Nat) : (s.setObj ix sub v).svcReq = s.svcReq := rfl
@[simp] theorem State.setObj_devIn (ix sub v : Nat) : (s.setObj ix sub v).devIn = s.devIn := rfl
@[simp] theorem State.setObj_probes (ix sub v : Nat) : (s.setObj ix sub v).probes = s.probes := rfl
@[simp] theorem State.setObj_col (ix sub v : Nat) : (s.setObj ix sub v).col = s.col := rfl
@[simp] theorem State.setObj_ports (ix sub v : Nat) : (s.setObj ix sub v).ports = s.ports := rfl
@[simp] theorem State.setObj_time (ix sub v : Nat) : (s.setObj ix sub v).time = s.time := rfl
@[simp] theorem State.setObj_domains (ix sub v : Nat) : (s.setObj ix sub v).domains = s.domains := rfl
@[simp] theorem State.setObj_capSamples (ix sub v : Nat) : (s.setObj ix sub v).capSamples = s.capSamples := rfl
@[simp] theorem State.setObj_hotSecond (ix sub v : Nat) : (s.setObj ix sub v).hotSecond = s.hotSecond := rfl
@[simp] theorem State.setObj_temps (ix sub v : Nat) : (s.setObj ix sub v).temps = s.temps := rfl
@[simp] theorem State.setObj_power (ix sub v : Nat) : (s.setObj ix sub v).power = s.power := rfl
@[simp] theorem State.setObj_tripped (ix sub v : Nat) : (s.setObj ix sub v).tripped = s.tripped := rfl
@[simp] theorem State.setObj_txn (ix sub v : Nat) : (s.setObj ix sub v).txn = s.txn := rfl
@[simp] theorem State.setObj_reply (ix sub v : Nat) : (s.setObj ix sub v).reply = s.reply := rfl
@[simp] theorem State.setObj_host (ix sub v : Nat) : (s.setObj ix sub v).host = s.host := rfl
@[simp] theorem State.setObj_can (ix sub v : Nat) : (s.setObj ix sub v).can = s.can := rfl
@[simp] theorem State.setObj_fw (ix sub v : Nat) : (s.setObj ix sub v).fw = s.fw := rfl
@[simp] theorem State.setObj_trace (ix sub v : Nat) : (s.setObj ix sub v).trace = s.trace := rfl
@[simp] theorem State.setObj_tap (ix sub v : Nat) : (s.setObj ix sub v).tap = s.tap := rfl
@[simp] theorem State.setObj_eps (ix sub v : Nat) : (s.setObj ix sub v).eps = s.eps := rfl
@[simp] theorem State.setObj_outbox (ix sub v : Nat) : (s.setObj ix sub v).outbox = s.outbox := rfl
@[simp] theorem State.setObj_free (ix sub v : Nat) : (s.setObj ix sub v).free = s.free := rfl
@[simp] theorem State.setObj_chipLaps (ix sub v : Nat) : (s.setObj ix sub v).chipLaps = s.chipLaps := rfl
@[simp] theorem State.setObj_bogChains (ix sub v : Nat) : (s.setObj ix sub v).bogChains = s.bogChains := rfl
@[simp] theorem State.setObj_aon (ix sub v : Nat) : (s.setObj ix sub v).aon = s.aon := rfl
@[simp] theorem State.put_pending (o : Output) : (s.put o).pending = s.pending := rfl
@[simp] theorem State.put_dev (o : Output) : (s.put o).dev = s.dev := rfl
@[simp] theorem State.put_startStep (o : Output) : (s.put o).startStep = s.startStep := rfl
@[simp] theorem State.put_aonFailed (o : Output) : (s.put o).aonFailed = s.aonFailed := rfl
@[simp] theorem State.put_porst (o : Output) : (s.put o).porst = s.porst := rfl
@[simp] theorem State.put_straps (o : Output) : (s.put o).straps = s.straps := rfl
@[simp] theorem State.put_upperId (o : Output) : (s.put o).upperId = s.upperId := rfl
@[simp] theorem State.put_objs (o : Output) : (s.put o).objs = s.objs := rfl
@[simp] theorem State.put_retired (o : Output) : (s.put o).retired = s.retired := rfl
@[simp] theorem State.put_unretired (o : Output) : (s.put o).unretired = s.unretired := rfl
@[simp] theorem State.put_engines (o : Output) : (s.put o).engines = s.engines := rfl
@[simp] theorem State.put_clusters (o : Output) : (s.put o).clusters = s.clusters := rfl
@[simp] theorem State.put_flights (o : Output) : (s.put o).flights = s.flights := rfl
@[simp] theorem State.put_hbm (o : Output) : (s.put o).hbm = s.hbm := rfl
@[simp] theorem State.put_hbmGone (o : Output) : (s.put o).hbmGone = s.hbmGone := rfl
@[simp] theorem State.put_hbmQ (o : Output) : (s.put o).hbmQ = s.hbmQ := rfl
@[simp] theorem State.put_hbmDredge (o : Output) : (s.put o).hbmDredge = s.hbmDredge := rfl
@[simp] theorem State.put_hbmHot (o : Output) : (s.put o).hbmHot = s.hbmHot := rfl
@[simp] theorem State.put_hbmLaps (o : Output) : (s.put o).hbmLaps = s.hbmLaps := rfl
@[simp] theorem State.put_noc (o : Output) : (s.put o).noc = s.noc := rfl
@[simp] theorem State.put_bogIn (o : Output) : (s.put o).bogIn = s.bogIn := rfl
@[simp] theorem State.put_bog (o : Output) : (s.put o).bog = s.bog := rfl
@[simp] theorem State.put_bogRecomp (o : Output) : (s.put o).bogRecomp = s.bogRecomp := rfl
@[simp] theorem State.put_bogStray (o : Output) : (s.put o).bogStray = s.bogStray := rfl
@[simp] theorem State.put_svcRsp (o : Output) : (s.put o).svcRsp = s.svcRsp := rfl
@[simp] theorem State.put_svcReq (o : Output) : (s.put o).svcReq = s.svcReq := rfl
@[simp] theorem State.put_devIn (o : Output) : (s.put o).devIn = s.devIn := rfl
@[simp] theorem State.put_probes (o : Output) : (s.put o).probes = s.probes := rfl
@[simp] theorem State.put_col (o : Output) : (s.put o).col = s.col := rfl
@[simp] theorem State.put_ports (o : Output) : (s.put o).ports = s.ports := rfl
@[simp] theorem State.put_time (o : Output) : (s.put o).time = s.time := rfl
@[simp] theorem State.put_domains (o : Output) : (s.put o).domains = s.domains := rfl
@[simp] theorem State.put_capSamples (o : Output) : (s.put o).capSamples = s.capSamples := rfl
@[simp] theorem State.put_hotSecond (o : Output) : (s.put o).hotSecond = s.hotSecond := rfl
@[simp] theorem State.put_temps (o : Output) : (s.put o).temps = s.temps := rfl
@[simp] theorem State.put_power (o : Output) : (s.put o).power = s.power := rfl
@[simp] theorem State.put_tripped (o : Output) : (s.put o).tripped = s.tripped := rfl
@[simp] theorem State.put_txn (o : Output) : (s.put o).txn = s.txn := rfl
@[simp] theorem State.put_reply (o : Output) : (s.put o).reply = s.reply := rfl
@[simp] theorem State.put_host (o : Output) : (s.put o).host = s.host := rfl
@[simp] theorem State.put_can (o : Output) : (s.put o).can = s.can := rfl
@[simp] theorem State.put_fw (o : Output) : (s.put o).fw = s.fw := rfl
@[simp] theorem State.put_trace (o : Output) : (s.put o).trace = s.trace := rfl
@[simp] theorem State.put_tap (o : Output) : (s.put o).tap = s.tap := rfl
@[simp] theorem State.put_eps (o : Output) : (s.put o).eps = s.eps := rfl
@[simp] theorem State.put_free (o : Output) : (s.put o).free = s.free := rfl
@[simp] theorem State.put_chipLaps (o : Output) : (s.put o).chipLaps = s.chipLaps := rfl
@[simp] theorem State.put_bogChains (o : Output) : (s.put o).bogChains = s.bogChains := rfl
@[simp] theorem State.put_aon (o : Output) : (s.put o).aon = s.aon := rfl
@[simp] theorem State.raiseFull_pending (src code level a b : Nat) (i d : Bool) : (s.raiseFull src code level a b i d).pending = s.pending := rfl
@[simp] theorem State.raiseFull_dev (src code level a b : Nat) (i d : Bool) : (s.raiseFull src code level a b i d).dev = s.dev := rfl
@[simp] theorem State.raiseFull_startStep (src code level a b : Nat) (i d : Bool) : (s.raiseFull src code level a b i d).startStep = s.startStep := rfl
@[simp] theorem State.raiseFull_aonFailed (src code level a b : Nat) (i d : Bool) : (s.raiseFull src code level a b i d).aonFailed = s.aonFailed := rfl
@[simp] theorem State.raiseFull_porst (src code level a b : Nat) (i d : Bool) : (s.raiseFull src code level a b i d).porst = s.porst := rfl
@[simp] theorem State.raiseFull_straps (src code level a b : Nat) (i d : Bool) : (s.raiseFull src code level a b i d).straps = s.straps := rfl
@[simp] theorem State.raiseFull_upperId (src code level a b : Nat) (i d : Bool) : (s.raiseFull src code level a b i d).upperId = s.upperId := rfl
@[simp] theorem State.raiseFull_objs (src code level a b : Nat) (i d : Bool) : (s.raiseFull src code level a b i d).objs = s.objs := rfl
@[simp] theorem State.raiseFull_retired (src code level a b : Nat) (i d : Bool) : (s.raiseFull src code level a b i d).retired = s.retired := rfl
@[simp] theorem State.raiseFull_unretired (src code level a b : Nat) (i d : Bool) : (s.raiseFull src code level a b i d).unretired = s.unretired := rfl
@[simp] theorem State.raiseFull_engines (src code level a b : Nat) (i d : Bool) : (s.raiseFull src code level a b i d).engines = s.engines := rfl
@[simp] theorem State.raiseFull_clusters (src code level a b : Nat) (i d : Bool) : (s.raiseFull src code level a b i d).clusters = s.clusters := rfl
@[simp] theorem State.raiseFull_flights (src code level a b : Nat) (i d : Bool) : (s.raiseFull src code level a b i d).flights = s.flights := rfl
@[simp] theorem State.raiseFull_hbm (src code level a b : Nat) (i d : Bool) : (s.raiseFull src code level a b i d).hbm = s.hbm := rfl
@[simp] theorem State.raiseFull_hbmGone (src code level a b : Nat) (i d : Bool) : (s.raiseFull src code level a b i d).hbmGone = s.hbmGone := rfl
@[simp] theorem State.raiseFull_hbmQ (src code level a b : Nat) (i d : Bool) : (s.raiseFull src code level a b i d).hbmQ = s.hbmQ := rfl
@[simp] theorem State.raiseFull_hbmDredge (src code level a b : Nat) (i d : Bool) : (s.raiseFull src code level a b i d).hbmDredge = s.hbmDredge := rfl
@[simp] theorem State.raiseFull_hbmHot (src code level a b : Nat) (i d : Bool) : (s.raiseFull src code level a b i d).hbmHot = s.hbmHot := rfl
@[simp] theorem State.raiseFull_hbmLaps (src code level a b : Nat) (i d : Bool) : (s.raiseFull src code level a b i d).hbmLaps = s.hbmLaps := rfl
@[simp] theorem State.raiseFull_noc (src code level a b : Nat) (i d : Bool) : (s.raiseFull src code level a b i d).noc = s.noc := rfl
@[simp] theorem State.raiseFull_bogIn (src code level a b : Nat) (i d : Bool) : (s.raiseFull src code level a b i d).bogIn = s.bogIn := rfl
@[simp] theorem State.raiseFull_bog (src code level a b : Nat) (i d : Bool) : (s.raiseFull src code level a b i d).bog = s.bog := rfl
@[simp] theorem State.raiseFull_bogRecomp (src code level a b : Nat) (i d : Bool) : (s.raiseFull src code level a b i d).bogRecomp = s.bogRecomp := rfl
@[simp] theorem State.raiseFull_bogStray (src code level a b : Nat) (i d : Bool) : (s.raiseFull src code level a b i d).bogStray = s.bogStray := rfl
@[simp] theorem State.raiseFull_svcRsp (src code level a b : Nat) (i d : Bool) : (s.raiseFull src code level a b i d).svcRsp = s.svcRsp := rfl
@[simp] theorem State.raiseFull_svcReq (src code level a b : Nat) (i d : Bool) : (s.raiseFull src code level a b i d).svcReq = s.svcReq := rfl
@[simp] theorem State.raiseFull_devIn (src code level a b : Nat) (i d : Bool) : (s.raiseFull src code level a b i d).devIn = s.devIn := rfl
@[simp] theorem State.raiseFull_probes (src code level a b : Nat) (i d : Bool) : (s.raiseFull src code level a b i d).probes = s.probes := rfl
@[simp] theorem State.raiseFull_ports (src code level a b : Nat) (i d : Bool) : (s.raiseFull src code level a b i d).ports = s.ports := rfl
@[simp] theorem State.raiseFull_time (src code level a b : Nat) (i d : Bool) : (s.raiseFull src code level a b i d).time = s.time := rfl
@[simp] theorem State.raiseFull_domains (src code level a b : Nat) (i d : Bool) : (s.raiseFull src code level a b i d).domains = s.domains := rfl
@[simp] theorem State.raiseFull_capSamples (src code level a b : Nat) (i d : Bool) : (s.raiseFull src code level a b i d).capSamples = s.capSamples := rfl
@[simp] theorem State.raiseFull_hotSecond (src code level a b : Nat) (i d : Bool) : (s.raiseFull src code level a b i d).hotSecond = s.hotSecond := rfl
@[simp] theorem State.raiseFull_temps (src code level a b : Nat) (i d : Bool) : (s.raiseFull src code level a b i d).temps = s.temps := rfl
@[simp] theorem State.raiseFull_power (src code level a b : Nat) (i d : Bool) : (s.raiseFull src code level a b i d).power = s.power := rfl
@[simp] theorem State.raiseFull_tripped (src code level a b : Nat) (i d : Bool) : (s.raiseFull src code level a b i d).tripped = s.tripped := rfl
@[simp] theorem State.raiseFull_txn (src code level a b : Nat) (i d : Bool) : (s.raiseFull src code level a b i d).txn = s.txn := rfl
@[simp] theorem State.raiseFull_reply (src code level a b : Nat) (i d : Bool) : (s.raiseFull src code level a b i d).reply = s.reply := rfl
@[simp] theorem State.raiseFull_host (src code level a b : Nat) (i d : Bool) : (s.raiseFull src code level a b i d).host = s.host := rfl
@[simp] theorem State.raiseFull_can (src code level a b : Nat) (i d : Bool) : (s.raiseFull src code level a b i d).can = s.can := rfl
@[simp] theorem State.raiseFull_fw (src code level a b : Nat) (i d : Bool) : (s.raiseFull src code level a b i d).fw = s.fw := rfl
@[simp] theorem State.raiseFull_trace (src code level a b : Nat) (i d : Bool) : (s.raiseFull src code level a b i d).trace = s.trace := rfl
@[simp] theorem State.raiseFull_tap (src code level a b : Nat) (i d : Bool) : (s.raiseFull src code level a b i d).tap = s.tap := rfl
@[simp] theorem State.raiseFull_eps (src code level a b : Nat) (i d : Bool) : (s.raiseFull src code level a b i d).eps = s.eps := rfl
@[simp] theorem State.raiseFull_outbox (src code level a b : Nat) (i d : Bool) : (s.raiseFull src code level a b i d).outbox = s.outbox := rfl
@[simp] theorem State.raiseFull_free (src code level a b : Nat) (i d : Bool) : (s.raiseFull src code level a b i d).free = s.free := rfl
@[simp] theorem State.raiseFull_chipLaps (src code level a b : Nat) (i d : Bool) : (s.raiseFull src code level a b i d).chipLaps = s.chipLaps := rfl
@[simp] theorem State.raiseFull_bogChains (src code level a b : Nat) (i d : Bool) : (s.raiseFull src code level a b i d).bogChains = s.bogChains := rfl
@[simp] theorem State.raiseFull_aon (src code level a b : Nat) (i d : Bool) : (s.raiseFull src code level a b i d).aon = s.aon := rfl
@[simp] theorem State.raise_pending (src code level a b : Nat) : (s.raise src code level a b).pending = s.pending := rfl
@[simp] theorem State.raise_dev (src code level a b : Nat) : (s.raise src code level a b).dev = s.dev := rfl
@[simp] theorem State.raise_startStep (src code level a b : Nat) : (s.raise src code level a b).startStep = s.startStep := rfl
@[simp] theorem State.raise_aonFailed (src code level a b : Nat) : (s.raise src code level a b).aonFailed = s.aonFailed := rfl
@[simp] theorem State.raise_porst (src code level a b : Nat) : (s.raise src code level a b).porst = s.porst := rfl
@[simp] theorem State.raise_straps (src code level a b : Nat) : (s.raise src code level a b).straps = s.straps := rfl
@[simp] theorem State.raise_upperId (src code level a b : Nat) : (s.raise src code level a b).upperId = s.upperId := rfl
@[simp] theorem State.raise_objs (src code level a b : Nat) : (s.raise src code level a b).objs = s.objs := rfl
@[simp] theorem State.raise_retired (src code level a b : Nat) : (s.raise src code level a b).retired = s.retired := rfl
@[simp] theorem State.raise_unretired (src code level a b : Nat) : (s.raise src code level a b).unretired = s.unretired := rfl
@[simp] theorem State.raise_engines (src code level a b : Nat) : (s.raise src code level a b).engines = s.engines := rfl
@[simp] theorem State.raise_clusters (src code level a b : Nat) : (s.raise src code level a b).clusters = s.clusters := rfl
@[simp] theorem State.raise_flights (src code level a b : Nat) : (s.raise src code level a b).flights = s.flights := rfl
@[simp] theorem State.raise_hbm (src code level a b : Nat) : (s.raise src code level a b).hbm = s.hbm := rfl
@[simp] theorem State.raise_hbmGone (src code level a b : Nat) : (s.raise src code level a b).hbmGone = s.hbmGone := rfl
@[simp] theorem State.raise_hbmQ (src code level a b : Nat) : (s.raise src code level a b).hbmQ = s.hbmQ := rfl
@[simp] theorem State.raise_hbmDredge (src code level a b : Nat) : (s.raise src code level a b).hbmDredge = s.hbmDredge := rfl
@[simp] theorem State.raise_hbmHot (src code level a b : Nat) : (s.raise src code level a b).hbmHot = s.hbmHot := rfl
@[simp] theorem State.raise_hbmLaps (src code level a b : Nat) : (s.raise src code level a b).hbmLaps = s.hbmLaps := rfl
@[simp] theorem State.raise_noc (src code level a b : Nat) : (s.raise src code level a b).noc = s.noc := rfl
@[simp] theorem State.raise_bogIn (src code level a b : Nat) : (s.raise src code level a b).bogIn = s.bogIn := rfl
@[simp] theorem State.raise_bog (src code level a b : Nat) : (s.raise src code level a b).bog = s.bog := rfl
@[simp] theorem State.raise_bogRecomp (src code level a b : Nat) : (s.raise src code level a b).bogRecomp = s.bogRecomp := rfl
@[simp] theorem State.raise_bogStray (src code level a b : Nat) : (s.raise src code level a b).bogStray = s.bogStray := rfl
@[simp] theorem State.raise_svcRsp (src code level a b : Nat) : (s.raise src code level a b).svcRsp = s.svcRsp := rfl
@[simp] theorem State.raise_svcReq (src code level a b : Nat) : (s.raise src code level a b).svcReq = s.svcReq := rfl
@[simp] theorem State.raise_devIn (src code level a b : Nat) : (s.raise src code level a b).devIn = s.devIn := rfl
@[simp] theorem State.raise_probes (src code level a b : Nat) : (s.raise src code level a b).probes = s.probes := rfl
@[simp] theorem State.raise_ports (src code level a b : Nat) : (s.raise src code level a b).ports = s.ports := rfl
@[simp] theorem State.raise_time (src code level a b : Nat) : (s.raise src code level a b).time = s.time := rfl
@[simp] theorem State.raise_domains (src code level a b : Nat) : (s.raise src code level a b).domains = s.domains := rfl
@[simp] theorem State.raise_capSamples (src code level a b : Nat) : (s.raise src code level a b).capSamples = s.capSamples := rfl
@[simp] theorem State.raise_hotSecond (src code level a b : Nat) : (s.raise src code level a b).hotSecond = s.hotSecond := rfl
@[simp] theorem State.raise_temps (src code level a b : Nat) : (s.raise src code level a b).temps = s.temps := rfl
@[simp] theorem State.raise_power (src code level a b : Nat) : (s.raise src code level a b).power = s.power := rfl
@[simp] theorem State.raise_tripped (src code level a b : Nat) : (s.raise src code level a b).tripped = s.tripped := rfl
@[simp] theorem State.raise_txn (src code level a b : Nat) : (s.raise src code level a b).txn = s.txn := rfl
@[simp] theorem State.raise_reply (src code level a b : Nat) : (s.raise src code level a b).reply = s.reply := rfl
@[simp] theorem State.raise_host (src code level a b : Nat) : (s.raise src code level a b).host = s.host := rfl
@[simp] theorem State.raise_can (src code level a b : Nat) : (s.raise src code level a b).can = s.can := rfl
@[simp] theorem State.raise_fw (src code level a b : Nat) : (s.raise src code level a b).fw = s.fw := rfl
@[simp] theorem State.raise_trace (src code level a b : Nat) : (s.raise src code level a b).trace = s.trace := rfl
@[simp] theorem State.raise_tap (src code level a b : Nat) : (s.raise src code level a b).tap = s.tap := rfl
@[simp] theorem State.raise_eps (src code level a b : Nat) : (s.raise src code level a b).eps = s.eps := rfl
@[simp] theorem State.raise_outbox (src code level a b : Nat) : (s.raise src code level a b).outbox = s.outbox := rfl
@[simp] theorem State.raise_free (src code level a b : Nat) : (s.raise src code level a b).free = s.free := rfl
@[simp] theorem State.raise_chipLaps (src code level a b : Nat) : (s.raise src code level a b).chipLaps = s.chipLaps := rfl
@[simp] theorem State.raise_bogChains (src code level a b : Nat) : (s.raise src code level a b).bogChains = s.bogChains := rfl
@[simp] theorem State.raise_aon (src code level a b : Nat) : (s.raise src code level a b).aon = s.aon := rfl

/-! ### Units an update leaves -/

@[simp] theorem State.setEngine_cluster (g : Nat) (e : Engine) (h : Nat) : (s.setEngine g e).cluster h = s.cluster h := rfl
@[simp] theorem State.setEngine_flight (g : Nat) (e : Engine) (h : Nat) : (s.setEngine g e).flight h = s.flight h := rfl
@[simp] theorem State.setEngine_domain (g : Nat) (e : Engine) (h : Nat) : (s.setEngine g e).domain h = s.domain h := rfl
@[simp] theorem State.setEngine_port (g : Nat) (e : Engine) (h : Nat) : (s.setEngine g e).port h = s.port h := rfl
@[simp] theorem State.setEngine_obj (g : Nat) (e : Engine) (jx tub : Nat) : (s.setEngine g e).obj jx tub = s.obj jx tub := rfl
@[simp] theorem State.setEngine_now (g : Nat) (e : Engine) : (s.setEngine g e).now = s.now := rfl
@[simp] theorem State.setCore_cluster (g : Nat) (c : Core) (h : Nat) : (s.setCore g c).cluster h = s.cluster h := rfl
@[simp] theorem State.setCore_flight (g : Nat) (c : Core) (h : Nat) : (s.setCore g c).flight h = s.flight h := rfl
@[simp] theorem State.setCore_domain (g : Nat) (c : Core) (h : Nat) : (s.setCore g c).domain h = s.domain h := rfl
@[simp] theorem State.setCore_port (g : Nat) (c : Core) (h : Nat) : (s.setCore g c).port h = s.port h := rfl
@[simp] theorem State.setCore_obj (g : Nat) (c : Core) (jx tub : Nat) : (s.setCore g c).obj jx tub = s.obj jx tub := rfl
@[simp] theorem State.setCore_now (g : Nat) (c : Core) : (s.setCore g c).now = s.now := rfl
@[simp] theorem State.setTu_cluster (g : Nat) (t : TokenUnit) (h : Nat) : (s.setTu g t).cluster h = s.cluster h := rfl
@[simp] theorem State.setTu_flight (g : Nat) (t : TokenUnit) (h : Nat) : (s.setTu g t).flight h = s.flight h := rfl
@[simp] theorem State.setTu_domain (g : Nat) (t : TokenUnit) (h : Nat) : (s.setTu g t).domain h = s.domain h := rfl
@[simp] theorem State.setTu_port (g : Nat) (t : TokenUnit) (h : Nat) : (s.setTu g t).port h = s.port h := rfl
@[simp] theorem State.setTu_obj (g : Nat) (t : TokenUnit) (jx tub : Nat) : (s.setTu g t).obj jx tub = s.obj jx tub := rfl
@[simp] theorem State.setTu_now (g : Nat) (t : TokenUnit) : (s.setTu g t).now = s.now := rfl
@[simp] theorem State.setCluster_engine (c : Nat) (x : Cluster) (h : Nat) : (s.setCluster c x).engine h = s.engine h := rfl
@[simp] theorem State.setCluster_core (c : Nat) (x : Cluster) (h : Nat) : (s.setCluster c x).core h = s.core h := rfl
@[simp] theorem State.setCluster_tu (c : Nat) (x : Cluster) (h : Nat) : (s.setCluster c x).tu h = s.tu h := rfl
@[simp] theorem State.setCluster_flight (c : Nat) (x : Cluster) (h : Nat) : (s.setCluster c x).flight h = s.flight h := rfl
@[simp] theorem State.setCluster_domain (c : Nat) (x : Cluster) (h : Nat) : (s.setCluster c x).domain h = s.domain h := rfl
@[simp] theorem State.setCluster_port (c : Nat) (x : Cluster) (h : Nat) : (s.setCluster c x).port h = s.port h := rfl
@[simp] theorem State.setCluster_obj (c : Nat) (x : Cluster) (jx tub : Nat) : (s.setCluster c x).obj jx tub = s.obj jx tub := rfl
@[simp] theorem State.setCluster_now (c : Nat) (x : Cluster) : (s.setCluster c x).now = s.now := rfl
@[simp] theorem State.setFlight_engine (f : Nat) (x : Flight) (h : Nat) : (s.setFlight f x).engine h = s.engine h := rfl
@[simp] theorem State.setFlight_core (f : Nat) (x : Flight) (h : Nat) : (s.setFlight f x).core h = s.core h := rfl
@[simp] theorem State.setFlight_tu (f : Nat) (x : Flight) (h : Nat) : (s.setFlight f x).tu h = s.tu h := rfl
@[simp] theorem State.setFlight_cluster (f : Nat) (x : Flight) (h : Nat) : (s.setFlight f x).cluster h = s.cluster h := rfl
@[simp] theorem State.setFlight_domain (f : Nat) (x : Flight) (h : Nat) : (s.setFlight f x).domain h = s.domain h := rfl
@[simp] theorem State.setFlight_port (f : Nat) (x : Flight) (h : Nat) : (s.setFlight f x).port h = s.port h := rfl
@[simp] theorem State.setFlight_obj (f : Nat) (x : Flight) (jx tub : Nat) : (s.setFlight f x).obj jx tub = s.obj jx tub := rfl
@[simp] theorem State.setFlight_now (f : Nat) (x : Flight) : (s.setFlight f x).now = s.now := rfl
@[simp] theorem State.setDomain_engine (d : Nat) (x : Domain) (h : Nat) : (s.setDomain d x).engine h = s.engine h := rfl
@[simp] theorem State.setDomain_core (d : Nat) (x : Domain) (h : Nat) : (s.setDomain d x).core h = s.core h := rfl
@[simp] theorem State.setDomain_tu (d : Nat) (x : Domain) (h : Nat) : (s.setDomain d x).tu h = s.tu h := rfl
@[simp] theorem State.setDomain_cluster (d : Nat) (x : Domain) (h : Nat) : (s.setDomain d x).cluster h = s.cluster h := rfl
@[simp] theorem State.setDomain_flight (d : Nat) (x : Domain) (h : Nat) : (s.setDomain d x).flight h = s.flight h := rfl
@[simp] theorem State.setDomain_port (d : Nat) (x : Domain) (h : Nat) : (s.setDomain d x).port h = s.port h := rfl
@[simp] theorem State.setDomain_obj (d : Nat) (x : Domain) (jx tub : Nat) : (s.setDomain d x).obj jx tub = s.obj jx tub := rfl
@[simp] theorem State.setDomain_now (d : Nat) (x : Domain) : (s.setDomain d x).now = s.now := rfl
@[simp] theorem State.setPort_engine (p : Nat) (x : Port) (h : Nat) : (s.setPort p x).engine h = s.engine h := rfl
@[simp] theorem State.setPort_core (p : Nat) (x : Port) (h : Nat) : (s.setPort p x).core h = s.core h := rfl
@[simp] theorem State.setPort_tu (p : Nat) (x : Port) (h : Nat) : (s.setPort p x).tu h = s.tu h := rfl
@[simp] theorem State.setPort_cluster (p : Nat) (x : Port) (h : Nat) : (s.setPort p x).cluster h = s.cluster h := rfl
@[simp] theorem State.setPort_flight (p : Nat) (x : Port) (h : Nat) : (s.setPort p x).flight h = s.flight h := rfl
@[simp] theorem State.setPort_domain (p : Nat) (x : Port) (h : Nat) : (s.setPort p x).domain h = s.domain h := rfl
@[simp] theorem State.setPort_obj (p : Nat) (x : Port) (jx tub : Nat) : (s.setPort p x).obj jx tub = s.obj jx tub := rfl
@[simp] theorem State.setPort_now (p : Nat) (x : Port) : (s.setPort p x).now = s.now := rfl
@[simp] theorem State.setObj_engine (ix sub v : Nat) (h : Nat) : (s.setObj ix sub v).engine h = s.engine h := rfl
@[simp] theorem State.setObj_core (ix sub v : Nat) (h : Nat) : (s.setObj ix sub v).core h = s.core h := rfl
@[simp] theorem State.setObj_tu (ix sub v : Nat) (h : Nat) : (s.setObj ix sub v).tu h = s.tu h := rfl
@[simp] theorem State.setObj_cluster (ix sub v : Nat) (h : Nat) : (s.setObj ix sub v).cluster h = s.cluster h := rfl
@[simp] theorem State.setObj_flight (ix sub v : Nat) (h : Nat) : (s.setObj ix sub v).flight h = s.flight h := rfl
@[simp] theorem State.setObj_domain (ix sub v : Nat) (h : Nat) : (s.setObj ix sub v).domain h = s.domain h := rfl
@[simp] theorem State.setObj_port (ix sub v : Nat) (h : Nat) : (s.setObj ix sub v).port h = s.port h := rfl
@[simp] theorem State.setObj_now (ix sub v : Nat) : (s.setObj ix sub v).now = s.now := rfl
@[simp] theorem State.put_engine (o : Output) (h : Nat) : (s.put o).engine h = s.engine h := rfl
@[simp] theorem State.put_core (o : Output) (h : Nat) : (s.put o).core h = s.core h := rfl
@[simp] theorem State.put_tu (o : Output) (h : Nat) : (s.put o).tu h = s.tu h := rfl
@[simp] theorem State.put_cluster (o : Output) (h : Nat) : (s.put o).cluster h = s.cluster h := rfl
@[simp] theorem State.put_flight (o : Output) (h : Nat) : (s.put o).flight h = s.flight h := rfl
@[simp] theorem State.put_domain (o : Output) (h : Nat) : (s.put o).domain h = s.domain h := rfl
@[simp] theorem State.put_port (o : Output) (h : Nat) : (s.put o).port h = s.port h := rfl
@[simp] theorem State.put_obj (o : Output) (jx tub : Nat) : (s.put o).obj jx tub = s.obj jx tub := rfl
@[simp] theorem State.put_now (o : Output) : (s.put o).now = s.now := rfl
@[simp] theorem State.raiseFull_engine (src code level a b : Nat) (i d : Bool) (h : Nat) : (s.raiseFull src code level a b i d).engine h = s.engine h := rfl
@[simp] theorem State.raiseFull_core (src code level a b : Nat) (i d : Bool) (h : Nat) : (s.raiseFull src code level a b i d).core h = s.core h := rfl
@[simp] theorem State.raiseFull_tu (src code level a b : Nat) (i d : Bool) (h : Nat) : (s.raiseFull src code level a b i d).tu h = s.tu h := rfl
@[simp] theorem State.raiseFull_cluster (src code level a b : Nat) (i d : Bool) (h : Nat) : (s.raiseFull src code level a b i d).cluster h = s.cluster h := rfl
@[simp] theorem State.raiseFull_flight (src code level a b : Nat) (i d : Bool) (h : Nat) : (s.raiseFull src code level a b i d).flight h = s.flight h := rfl
@[simp] theorem State.raiseFull_domain (src code level a b : Nat) (i d : Bool) (h : Nat) : (s.raiseFull src code level a b i d).domain h = s.domain h := rfl
@[simp] theorem State.raiseFull_port (src code level a b : Nat) (i d : Bool) (h : Nat) : (s.raiseFull src code level a b i d).port h = s.port h := rfl
@[simp] theorem State.raiseFull_obj (src code level a b : Nat) (i d : Bool) (jx tub : Nat) : (s.raiseFull src code level a b i d).obj jx tub = s.obj jx tub := rfl
@[simp] theorem State.raiseFull_now (src code level a b : Nat) (i d : Bool) : (s.raiseFull src code level a b i d).now = s.now := rfl
@[simp] theorem State.raise_engine (src code level a b : Nat) (h : Nat) : (s.raise src code level a b).engine h = s.engine h := rfl
@[simp] theorem State.raise_core (src code level a b : Nat) (h : Nat) : (s.raise src code level a b).core h = s.core h := rfl
@[simp] theorem State.raise_tu (src code level a b : Nat) (h : Nat) : (s.raise src code level a b).tu h = s.tu h := rfl
@[simp] theorem State.raise_cluster (src code level a b : Nat) (h : Nat) : (s.raise src code level a b).cluster h = s.cluster h := rfl
@[simp] theorem State.raise_flight (src code level a b : Nat) (h : Nat) : (s.raise src code level a b).flight h = s.flight h := rfl
@[simp] theorem State.raise_domain (src code level a b : Nat) (h : Nat) : (s.raise src code level a b).domain h = s.domain h := rfl
@[simp] theorem State.raise_port (src code level a b : Nat) (h : Nat) : (s.raise src code level a b).port h = s.port h := rfl
@[simp] theorem State.raise_obj (src code level a b : Nat) (jx tub : Nat) : (s.raise src code level a b).obj jx tub = s.obj jx tub := rfl
@[simp] theorem State.raise_now (src code level a b : Nat) : (s.raise src code level a b).now = s.now := rfl

end Sys2Proof.Machine
end

