-- ==== Sys2Proof/Laws/Issue.lean ====
section
/-! SUPPORT. What a read of the local store can do, and what an instruction that stands at the PC makes of the state. -/

namespace Sys2Proof.Machine

-- One theorem at a time: proofs that wait for one another each hold a thread and its stack.
set_option Elab.async false

open Sys2Proof.Safety

/-- `t` differs from `s` in the dictionary counters and the collector alone. -/
def State.Noted (s t : State) : Prop := ∃ o c, t = { s with objs := o, col := c }

theorem State.Noted.refl (s : State) : s.Noted s := ⟨s.objs, s.col, rfl⟩

theorem State.Noted.trans {s t u : State} (h : s.Noted t) (k : t.Noted u) : s.Noted u := by
  obtain ⟨o, c, rfl⟩ := h
  obtain ⟨o', c', rfl⟩ := k
  exact ⟨o', c', rfl⟩

theorem State.noted_setObj (s : State) (ix sub v : Nat) : s.Noted (s.setObj ix sub v) := ⟨_, s.col, rfl⟩

theorem State.noted_raiseFull (s : State) (src code level d0 d1 : Nat) (i d : Bool) :
    s.Noted (s.raiseFull src code level d0 d1 i d) := ⟨s.objs, _, rfl⟩

theorem State.noted_injectDone (s : State) (d : Bool) : s.Noted (s.injectDone d) := by
  unfold State.injectDone
  cases d <;> simp only [State.bump] <;> split_ifs <;> exact ⟨_, _, rfl⟩

theorem State.noted_bumpCorrection (s : State) (k : Nat) : s.Noted (s.bumpCorrection k) := ⟨_, s.col, rfl⟩

theorem State.noted_checkNonet (s : State) (src chk k adr n : Nat) (g : BitVec 14) :
    s.Noted (s.checkNonet src chk k adr n g).2 := by
  unfold State.checkNonet
  simp only
  split
  · split
    · exact .refl s
    · exact (s.noted_bumpCorrection k).trans (State.noted_raiseFull ..)
    · exact .refl s
    · exact .refl s
  · split
    · exact s.noted_injectDone _
    · exact ((s.noted_injectDone _).trans (State.noted_bumpCorrection _ k)).trans (State.noted_raiseFull ..)
    · exact s.noted_injectDone _
    · exact s.noted_injectDone _

theorem State.noted_checkCell {w : Nat} (s : State) (src chk k adr : Nat) (inside : BitVec 5) (cell : BitVec w) (n : Nat) :
    s.Noted (s.checkCell src chk k adr inside cell n).2 := by
  induction n with
  | zero => exact .refl s
  | succ n ih =>
    have h := ih.trans (State.noted_checkNonet _ src chk k adr n (groupOf cell n))
    unfold State.checkCell
    simp only
    split_ifs <;> first | exact h | exact h.trans (State.noted_raiseFull ..)

/-- `t` differs from `s` in the dictionary counters, the collector and the correction buffers of engine `g` alone. -/
def State.Reread (s : State) (g : Nat) (t : State) : Prop :=
  (∃ q, ∀ k, t.engine k = if k = g then { s.engine g with corr := q } else s.engine k) ∧
  ∃ o c, { t with engines := s.engines } = { s with objs := o, col := c }

theorem State.Reread.refl (s : State) (g : Nat) : s.Reread g s :=
  ⟨⟨(s.engine g).corr, fun k => by split_ifs with h <;> simp [h]⟩, s.objs, s.col, rfl⟩

theorem State.Noted.reread {s t : State} (g : Nat) (h : s.Noted t) : s.Reread g t := by
  obtain ⟨o, c, rfl⟩ := h
  exact ⟨⟨(s.engine g).corr, fun k => by split_ifs with h <;> simp [h, State.engine]⟩, o, c, rfl⟩

theorem State.Reread.trans {s t u : State} {g : Nat} (h : s.Reread g t) (k : t.Reread g u) : s.Reread g u := by
  obtain ⟨⟨q, hq⟩, o, c, ho⟩ := h
  obtain ⟨⟨q', hq'⟩, o', c', ho'⟩ := k
  refine ⟨⟨q', fun j => ?_⟩, o', c', ?_⟩
  · rw [hq', hq, hq]; split_ifs <;> simp_all
  · have := congrArg (fun x : State => { x with engines := s.engines }) ho'
    simp only at this
    rw [this]
    have := congrArg (fun x : State => { x with objs := o', col := c' }) ho
    simpa using this

theorem State.reread_setCorr (s : State) (g : Nat) (q : Tab (Nat × Stored)) : s.Reread g (s.setEngine g { s.engine g with corr := q }) :=
  ⟨⟨q, fun k => by rw [State.engine_setEngine]⟩, s.objs, s.col, rfl⟩

/-- A local read changes nothing but correction counters, events, the injection and the engine's correction buffers. -/
theorem State.reread_readLocal (s : State) (g adr : Nat) (inside : BitVec 5) : s.Reread g (s.readLocal g adr inside).2 := by
  unfold State.readLocal
  split_ifs with h
  · exact .refl s g
  · have hn := s.noted_checkCell g (bankOf adr) (6 * g + bankOf adr) adr inside ((s.engine g).cell adr) 4
    simp only
    generalize s.checkCell g (bankOf adr) (6 * g + bankOf adr) adr inside ((s.engine g).cell adr) 4 = p at hn ⊢
    obtain ⟨o, t⟩ := p
    have ht : s.Reread g t := hn.reread g
    simp only
    split_ifs <;> first | exact ht | exact ht.trans (t.reread_setCorr g _)

theorem State.reread_engineRead (s : State) (g adr : Nat) (inside : BitVec 5) : s.Reread g (s.engineRead g adr inside).2 := by
  have h := s.reread_readLocal g adr inside
  unfold State.engineRead
  split
  · rename_i w t e; rw [e] at h; exact h
  · rename_i t e; rw [e] at h; exact h.trans ((t.noted_raiseFull ..).reread g)

theorem State.Reread.core {s t : State} {g : Nat} (h : s.Reread g t) (k : Nat) : t.core k = s.core k := by
  obtain ⟨⟨q, hq⟩, -⟩ := h
  unfold State.core
  rw [hq]; split_ifs with e <;> simp [e]

theorem State.Reread.mem {s t : State} {g : Nat} (h : s.Reread g t) (k : Nat) : (t.engine k).mem = (s.engine k).mem := by
  obtain ⟨⟨q, hq⟩, -⟩ := h
  rw [hq]; split_ifs with e <;> simp [e]

/-- An instruction that stands at the PC has the effect of its body, from the state its fetch leaves. -/
theorem issue_stands {s t : State} {g op : Nat} {w : Word} (h : Stands s g op w t) (body : Word → State → Eff) :
    issue g op body s = applyEff t g (body w t) := by
  unfold issue withFetch
  rw [if_pos ⟨h.issuing, by simp [h.inFlow]⟩, h.fetched]
  simp only [h.opcode, h.free, h.form, if_true, if_false, Bool.false_eq_true]

theorem stands_core {s t : State} {g op : Nat} {w : Word} (h : Stands s g op w t) (k : Nat) : t.core k = s.core k := by
  have := s.reread_readLocal g (s.core g).pc.toNat 31
  rw [h.fetched] at this
  exact this.core k

theorem coreBecomes_setCore (u : State) (g : Nat) (c : Core) : CoreBecomes u g c (u.setCore g c) :=
  ⟨fun k => by rw [State.engine_setCore], rfl⟩

theorem coreBecomes_setCore_setCore (u : State) (g : Nat) (c d : Core) : CoreBecomes u g d ((u.setCore g c).setCore g d) :=
  ⟨fun k => by rw [State.engine_setCore, State.engine_setCore, State.engine_setCore]; split_ifs <;> simp_all, rfl⟩

/-- The effect of a body that writes registers alone and completes. -/
theorem done_of_regEff {i : Instr} {s t u : State} {g op : Nat} {w : Word} {body : Word → State → Eff} {c : Core} {loads : List PendLoad}
    {flow : Flow} (h : Stands s g op w t) (hi : exec i s = .next (issue g op body s))
    (hb : body w t = .done (u.setCore g c) flow loads) : Done i s g u c flow loads := by
  refine ⟨_, hi, ?_⟩
  rw [issue_stands h, hb]
  have e : (s.core g).fpDue = false := by rw [← stands_core h]; exact h.noFpTrap
  simp only [applyEff, stands_core h, e, if_false, Bool.false_eq_true]
  simpa using coreBecomes_setCore_setCore u g c _

/-- The effect of a body that completes and leaves every register to its completion. -/
theorem done_of_next {i : Instr} {s t u : State} {g op : Nat} {w : Word} {body : Word → State → Eff} {loads : List PendLoad}
    {flow : Flow} (h : Stands s g op w t) (hi : exec i s = .next (issue g op body s))
    (hb : body w t = .done u flow loads) : Done i s g u (u.core g) flow loads := by
  refine ⟨_, hi, ?_⟩
  rw [issue_stands h, hb]
  have e : (s.core g).fpDue = false := by rw [← stands_core h]; exact h.noFpTrap
  simp only [applyEff, stands_core h, e, if_false, Bool.false_eq_true]
  exact coreBecomes_setCore u g _

/-- The operand of format M reaches the body. -/
theorem withOperand_eq {t u : State} {g : Nat} {w m : Word} (h : Operand t g w m u) (k : Word → State → Eff) :
    withOperand g w t k = k m u := by
  unfold Operand at h
  unfold withOperand
  split_ifs at h with h0 h7
  · obtain ⟨rfl, rfl⟩ := h; simp [h0, immM]
  · obtain ⟨rfl, rfl⟩ := h; simp [h7]
  · simp only
    rw [h]

theorem operand_core {t u : State} {g : Nat} {w m : Word} (h : Operand t g w m u) (k : Nat) : u.core k = t.core k := by
  unfold Operand at h
  split_ifs at h with h0 h7
  · rw [h.2]
  · rw [h.2]
  · have := t.reread_engineRead g ((t.core g).ea (modeOf w) (addrOf w)) 31
    rw [h] at this
    exact this.core k

end Sys2Proof.Machine
end

