-- ==== Sys2Proof/Laws/Memory.lean ====
section
/-! SUPPORT. The canonical form of memory: what it says of each unit, and that every operation over storage keeps it. -/

namespace Sys2Proof.Machine

-- One theorem at a time: proofs that wait for one another each hold a thread and its stack.
set_option Elab.async false

/-- The two stores of an engine in canonical form. -/
def storesWf (mem : Tab Stored) (store : Tab StoredEntry) : Bool :=
  tabWf (fun a => encodeWord a 0) mem && tabWf (fun i => encodeEntry i 0 false false) store

/-- All storage in canonical form, by the fields of State that hold it. -/
def memOk (engines : Tab Engine) (clusters : Tab Cluster) (hbm : Tab Line) (gone : Option Nat) : Bool :=
  tabWf (fun _ => Engine.reset) engines && engines.all (fun x => x.2.memoryWf) &&
    (tabWf (fun _ => Cluster.reset) clusters && clusters.all (fun x => x.2.memoryWf)) &&
    tabWf (fun l => match gone with | none => zeroLine l | some n => Config.freeLine n l) hbm

theorem Engine.memoryWf_eq (e : Engine) : e.memoryWf = storesWf e.mem e.tu.store := rfl

theorem Cluster.memoryWf_eq (x : Cluster) : x.memoryWf = tabWf (fun a => encodeWord a 0) x.store := rfl

theorem State.memoryWf_eq (s : State) : s.memoryWf = memOk s.engines s.clusters s.hbm s.hbmGone := rfl

/-! ### Tables whose values all satisfy a test -/

variable {α : Type}

theorem all_tget (p : α → Bool) (d : α) (t : Tab α) (h : t.all (fun x => p x.2) = true) (hd : p d = true) (k : Nat) :
    p (tget d t k) = true := by
  induction t with
  | nil => exact hd
  | cons x t ih =>
    obtain ⟨j, v⟩ := x; simp only [List.all_cons, Bool.and_eq_true] at h
    unfold tget; split_ifs
    · exact h.1
    · exact ih h.2

theorem all_terase (p : α → Bool) (k : Nat) (t : Tab α) (h : t.all (fun x => p x.2) = true) : (terase k t).all (fun x => p x.2) = true := by
  induction t with
  | nil => rfl
  | cons x t ih =>
    obtain ⟨j, v⟩ := x; simp only [List.all_cons, Bool.and_eq_true] at h
    unfold terase; split_ifs
    · exact ih h.2
    · simp only [List.all_cons, h.1, ih h.2, Bool.and_self]

theorem all_tset (p : α → Bool) (k : Nat) (v : α) (t : Tab α) (h : t.all (fun x => p x.2) = true) (hv : p v = true) :
    (tset k v t).all (fun x => p x.2) = true := by
  induction t with
  | nil => simp [tset, hv]
  | cons x t ih =>
    obtain ⟨j, y⟩ := x; simp only [List.all_cons, Bool.and_eq_true] at h
    unfold tset; split_ifs
    · simp only [List.all_cons, h.1, h.2, hv, Bool.and_self]
    · simp only [List.all_cons, h.2, hv, Bool.and_self]
    · simp only [List.all_cons, h.1, ih h.2, Bool.and_self]

theorem all_tput [DecidableEq α] (p : α → Bool) (d : α) (k : Nat) (v : α) (t : Tab α) (h : t.all (fun x => p x.2) = true)
    (hv : p v = true) : (tput d k v t).all (fun x => p x.2) = true := by
  unfold tput; split_ifs
  · exact all_terase p k t h
  · exact all_tset p k v t h hv

/-! ### Units in canonical form -/

theorem memOk_iff (e : Tab Engine) (c : Tab Cluster) (h : Tab Line) (n : Option Nat) : memOk e c h n = true ↔
    tabWf (fun _ => Engine.reset) e = true ∧ e.all (fun x => x.2.memoryWf) = true ∧ tabWf (fun _ => Cluster.reset) c = true ∧
      c.all (fun x => x.2.memoryWf) = true ∧ tabWf (fun l => match n with | none => zeroLine l | some n => Config.freeLine n l) h = true := by
  simp only [memOk, Bool.and_eq_true]; tauto

theorem memOk_reset : memOk [] [] [] none = true := by rfl

theorem memOk_noHbm (e : Tab Engine) (c : Tab Cluster) (h : Tab Line) (n m : Option Nat) (w : memOk e c h n = true) : memOk e c [] m = true := by
  rw [memOk_iff] at *; exact ⟨w.1, w.2.1, w.2.2.1, w.2.2.2.1, rfl⟩

theorem State.engine_memoryWf (s : State) (g : Nat) (w : s.memoryWf = true) : (s.engine g).memoryWf = true := by
  rw [State.memoryWf_eq, memOk_iff] at w
  exact all_tget Engine.memoryWf Engine.reset s.engines w.2.1 rfl g

theorem State.cluster_memoryWf (s : State) (c : Nat) (w : s.memoryWf = true) : (s.cluster c).memoryWf = true := by
  rw [State.memoryWf_eq, memOk_iff] at w
  exact all_tget Cluster.memoryWf Cluster.reset s.clusters w.2.2.2.1 rfl c

theorem State.tu_memoryWf (s : State) (g : Nat) (w : s.memoryWf = true) :
    tabWf (fun i => encodeEntry i 0 false false) (s.tu g).store = true := by
  have h := s.engine_memoryWf g w
  simp only [Engine.memoryWf, Bool.and_eq_true] at h; exact h.2

/-! ### Operations -/

theorem State.setEngine_memoryWf (s : State) (g : Nat) (e : Engine) (w : s.memoryWf = true) (h : e.memoryWf = true) :
    (s.setEngine g e).memoryWf = true := by
  rw [State.memoryWf_eq, memOk_iff] at *
  exact ⟨tput_wf (fun _ => Engine.reset) g e _ w.1, all_tput Engine.memoryWf _ g e _ w.2.1 h, w.2.2⟩

theorem State.setCluster_memoryWf (s : State) (c : Nat) (x : Cluster) (w : s.memoryWf = true) (h : x.memoryWf = true) :
    (s.setCluster c x).memoryWf = true := by
  rw [State.memoryWf_eq, memOk_iff] at *
  exact ⟨w.1, w.2.1, tput_wf (fun _ => Cluster.reset) c x _ w.2.2.1, all_tput Cluster.memoryWf _ c x _ w.2.2.2.1 h, w.2.2.2.2⟩

theorem State.setHbmLine_memoryWf (s : State) (l : Nat) (x : Line) (w : s.memoryWf = true) : (s.setHbmLine l x).memoryWf = true := by
  rw [State.memoryWf_eq, memOk_iff] at *
  exact ⟨w.1, w.2.1, w.2.2.1, w.2.2.2.1, tput_wf s.hbmDefault l x s.hbm w.2.2.2.2⟩

theorem State.setCore_memoryWf (s : State) (g : Nat) (c : Core) (w : s.memoryWf = true) : (s.setCore g c).memoryWf = true :=
  s.setEngine_memoryWf g _ w (s.engine_memoryWf g w)

theorem State.setTu_memoryWf (s : State) (g : Nat) (t : TokenUnit) (w : s.memoryWf = true)
    (h : tabWf (fun i => encodeEntry i 0 false false) t.store = true) : (s.setTu g t).memoryWf = true := by
  refine s.setEngine_memoryWf g _ w ?_
  have e := s.engine_memoryWf g w
  simp only [Engine.memoryWf, Bool.and_eq_true] at *; exact ⟨e.1, h⟩

theorem State.writeLocal_memoryWf (s : State) (g adr : Nat) (cover : BitVec 4) (v : Word) (w : s.memoryWf = true) :
    (s.writeLocal g adr cover v).memoryWf = true := by
  refine s.setEngine_memoryWf g _ w ?_
  have e := s.engine_memoryWf g w
  simp only [Engine.memoryWf, Bool.and_eq_true] at *
  exact ⟨tput_wf (fun a => encodeWord a 0) adr _ _ e.1, e.2⟩

theorem State.writeStore_memoryWf (s : State) (c adr : Nat) (v : Word) (w : s.memoryWf = true) : (s.writeStore c adr v).memoryWf = true :=
  s.setCluster_memoryWf c _ w (tput_wf (fun a => encodeWord a 0) adr _ _ (s.cluster_memoryWf c w))

/-- A local word written back from a correction buffer, whatever its bits. -/
theorem State.writeBackLocal_memoryWf (s : State) (g b : Nat) (w : s.memoryWf = true) : (s.writeBackLocal g b).memoryWf = true := by
  unfold State.writeBackLocal; dsimp only
  split
  · exact w
  · refine s.setEngine_memoryWf g _ w ?_
    have e := s.engine_memoryWf g w
    simp only [Engine.memoryWf, Bool.and_eq_true] at *
    exact ⟨tput_wf (fun a => encodeWord a 0) _ _ _ e.1, e.2⟩

theorem State.writeBackMatching_memoryWf (s : State) (g : Nat) (w : s.memoryWf = true) : (s.writeBackMatching g).memoryWf = true := by
  unfold State.writeBackMatching; dsimp only
  split
  · exact w
  · refine s.setEngine_memoryWf g _ w ?_
    have e := s.engine_memoryWf g w
    simp only [Engine.memoryWf, Bool.and_eq_true] at *
    exact ⟨e.1, tput_wf (fun i => encodeEntry i 0 false false) _ _ _ e.2⟩

theorem State.writeBackStore_memoryWf (s : State) (c b : Nat) (w : s.memoryWf = true) : (s.writeBackStore c b).memoryWf = true := by
  unfold State.writeBackStore; dsimp only
  split
  · exact w
  · exact s.setCluster_memoryWf c _ w (tput_wf (fun a => encodeWord a 0) _ _ _ (s.cluster_memoryWf c w))

theorem State.writeEntry_memoryWf (s : State) (g ix : Nat) (v : Word) (p m : Bool) (w : s.memoryWf = true) :
    (s.writeEntry g ix v p m).memoryWf = true := by
  refine s.setEngine_memoryWf g _ w ?_
  have e := s.engine_memoryWf g w
  simp only [Engine.memoryWf, Bool.and_eq_true] at *
  exact ⟨e.1, tput_wf (fun i => encodeEntry i 0 false false) _ _ _ e.2⟩

/-- The journals cleared by a load of a flight. -/
theorem State.clearJournal_memoryWf (s : State) (g : Nat) (w : s.memoryWf = true) : (s.clearJournal g).memoryWf = true := by
  refine s.setEngine_memoryWf g _ w ?_
  have e := s.engine_memoryWf g w
  simp only [Engine.memoryWf, Bool.and_eq_true] at *
  exact ⟨filter_wf _ none _ _ e.1, e.2⟩

/-- The stores a restart keeps or empties (R48). -/
theorem TokenUnit.restart_memoryWf (t : TokenUnit) (r : Nat) (f : Option Nat) (n : Nat) (k : Bool)
    (w : tabWf (fun i => encodeEntry i 0 false false) t.store = true) :
    tabWf (fun i => encodeEntry i 0 false false) (t.restart r f n k).store = true := by
  cases k
  · rfl
  · exact w

theorem State.resetEngine_memoryWf (s : State) (g : Nat) (w : s.memoryWf = true) : (s.resetEngine g).memoryWf = true :=
  s.setEngine_memoryWf g _ w rfl

/-- After reset nothing is listed. -/
theorem memoryWf_reset : State.reset.memoryWf = true := by rfl

end Sys2Proof.Machine
end

