-- ==== Sys2Proof/Laws/Keeps.lean ====
section
/-! SUPPORT. What the shared operations keep: the queue of commands, the TAP, PORST_N and the canonical form of memory. One lemma per
operation, each from those of the operations it calls; a statement about every step goes through them. -/

namespace Sys2Proof.Machine

-- One theorem at a time: proofs that wait for one another each hold a thread and its stack.
set_option Elab.async false

/-- `s` has the queue, the TAP and PORST_N that `k` names, and its memory is in canonical form. -/
def Keeps (k : List Instr × Bool × Tap) (s : State) : Prop :=
  s.pending = k.1 ∧ s.porst = k.2.1 ∧ s.tap = k.2.2 ∧ s.memoryWf = true

/-- The same by the fields it reads. -/
def KeepsOf (k : List Instr × Bool × Tap) (p : List Instr) (b : Bool) (t : Tap) (e : Tab Engine) (c : Tab Cluster) (h : Tab Line)
    (n : Option Nat) : Prop := p = k.1 ∧ b = k.2.1 ∧ t = k.2.2 ∧ memOk e c h n = true

theorem keeps_eq (k : List Instr × Bool × Tap) (s : State) :
    Keeps k s = KeepsOf k s.pending s.porst s.tap s.engines s.clusters s.hbm s.hbmGone := rfl

theorem keepsOf_noHbm (k : List Instr × Bool × Tap) (p : List Instr) (b : Bool) (t : Tap) (e : Tab Engine) (c : Tab Cluster)
    (h : Tab Line) (n m : Option Nat) (w : KeepsOf k p b t e c h n) : KeepsOf k p b t e c [] m :=
  ⟨w.1, w.2.1, w.2.2.1, memOk_noHbm e c h n m w.2.2.2⟩

/-- What an instruction's effect keeps. -/
def EffKeeps (k : List Instr × Bool × Tap) (e : Eff) : Prop :=
  match e with
  | .done s _ _ => Keeps k s
  | .trap _ _ _ s => Keeps k s
  | .stall => True
  | .halt s => Keeps k s

theorem effKeeps_done (k : List Instr × Bool × Tap) (s : State) (f : Flow) (l : List PendLoad) : EffKeeps k (.done s f l) = Keeps k s := rfl
theorem effKeeps_trap (k : List Instr × Bool × Tap) (c : BitVec 6) (p : BitVec 15) (i : Word) (s : State) :
    EffKeeps k (.trap c p i s) = Keeps k s := rfl
theorem effKeeps_stall (k : List Instr × Bool × Tap) : EffKeeps k .stall = True := rfl
theorem effKeeps_halt (k : List Instr × Bool × Tap) (s : State) : EffKeeps k (.halt s) = Keeps k s := rfl

/-! ### Units -/

theorem Keeps.memoryWf {k : List Instr × Bool × Tap} {s : State} (h : Keeps k s) : s.memoryWf = true := h.2.2.2

theorem foldl_keeps (k : List Instr × Bool × Tap) {α : Type} (f : State → α → State)
    (h : ∀ s a, Keeps k s → Keeps k (f s a)) (l : List α) (s : State) (w : Keeps k s) : Keeps k (l.foldl f s) := by
  induction l generalizing s with
  | nil => exact w
  | cons a l ih => rw [List.foldl_cons]; exact ih _ (h s a w)

/-- Fields that Keeps does not read do not matter. -/
theorem Keeps.of {κ : List Instr × Bool × Tap} {s t : State} (h : Keeps κ s) (hp : t.pending = s.pending) (hb : t.porst = s.porst)
    (ht : t.tap = s.tap) (he : t.engines = s.engines) (hc : t.clusters = s.clusters) (hh : t.hbm = s.hbm) (hg : t.hbmGone = s.hbmGone) :
    Keeps κ t := by rw [keeps_eq, hp, hb, ht, he, hc, hh, hg]; exact h

theorem keeps_ite {κ : List Instr × Bool × Tap} {c : Prop} [Decidable c] {s t : State} (hs : Keeps κ s) (ht : Keeps κ t) :
    Keeps κ (if c then s else t) := by split; exacts [hs, ht]

theorem Keeps.noc {κ : List Instr × Bool × Tap} {s : State} (h : Keeps κ s) (n : Noc) : Keeps κ { s with noc := n } := h

theorem Keeps.noHbm {κ : List Instr × Bool × Tap} {s : State} (h : Keeps κ s) (n : Option Nat) :
    Keeps κ { s with hbm := [], hbmGone := n } := keepsOf_noHbm κ _ _ _ _ _ _ _ _ h

theorem State.setEngine_keeps (κ : List Instr × Bool × Tap) (s : State) (g : Nat) (e : Engine) (h : e.memoryWf = true) (w : Keeps κ s) :
    Keeps κ (s.setEngine g e) := ⟨w.1, w.2.1, w.2.2.1, s.setEngine_memoryWf g e w.2.2.2 h⟩

theorem State.setCluster_keeps (κ : List Instr × Bool × Tap) (s : State) (c : Nat) (x : Cluster) (h : x.memoryWf = true) (w : Keeps κ s) :
    Keeps κ (s.setCluster c x) := ⟨w.1, w.2.1, w.2.2.1, s.setCluster_memoryWf c x w.2.2.2 h⟩

theorem State.setHbmLine_keeps (κ : List Instr × Bool × Tap) (s : State) (l : Nat) (x : Line) (w : Keeps κ s) :
    Keeps κ (s.setHbmLine l x) := ⟨w.1, w.2.1, w.2.2.1, s.setHbmLine_memoryWf l x w.2.2.2⟩

theorem State.setCore_keeps (κ : List Instr × Bool × Tap) (s : State) (g : Nat) (c : Core) (w : Keeps κ s) : Keeps κ (s.setCore g c) :=
  ⟨w.1, w.2.1, w.2.2.1, s.setCore_memoryWf g c w.2.2.2⟩

theorem State.setTu_keeps (κ : List Instr × Bool × Tap) (s : State) (g : Nat) (t : TokenUnit)
    (h : tabWf (fun i => encodeEntry i 0 false false) t.store = true) (w : Keeps κ s) : Keeps κ (s.setTu g t) :=
  ⟨w.1, w.2.1, w.2.2.1, s.setTu_memoryWf g t w.2.2.2 h⟩

theorem State.writeLocal_keeps (κ : List Instr × Bool × Tap) (s : State) (g adr : Nat) (cover : BitVec 4) (v : Word) (w : Keeps κ s) :
    Keeps κ (s.writeLocal g adr cover v) := ⟨w.1, w.2.1, w.2.2.1, s.writeLocal_memoryWf g adr cover v w.2.2.2⟩

theorem State.writeStore_keeps (κ : List Instr × Bool × Tap) (s : State) (c adr : Nat) (v : Word) (w : Keeps κ s) :
    Keeps κ (s.writeStore c adr v) := ⟨w.1, w.2.1, w.2.2.1, s.writeStore_memoryWf c adr v w.2.2.2⟩

theorem State.writeEntry_keeps (κ : List Instr × Bool × Tap) (s : State) (g ix : Nat) (v : Word) (p m : Bool) (w : Keeps κ s) :
    Keeps κ (s.writeEntry g ix v p m) := ⟨w.1, w.2.1, w.2.2.1, s.writeEntry_memoryWf g ix v p m w.2.2.2⟩

theorem State.clearJournal_keeps (κ : List Instr × Bool × Tap) (s : State) (g : Nat) (w : Keeps κ s) : Keeps κ (s.clearJournal g) :=
  ⟨w.1, w.2.1, w.2.2.1, s.clearJournal_memoryWf g w.2.2.2⟩

theorem State.resetEngine_keeps (κ : List Instr × Bool × Tap) (s : State) (g : Nat) (w : Keeps κ s) : Keeps κ (s.resetEngine g) :=
  ⟨w.1, w.2.1, w.2.2.1, s.resetEngine_memoryWf g w.2.2.2⟩

theorem State.writeBackLocal_keeps (κ : List Instr × Bool × Tap) (s : State) (g b : Nat) (w : Keeps κ s) : Keeps κ (s.writeBackLocal g b) := by
  have h := s.writeBackLocal_memoryWf g b w.2.2.2
  unfold State.writeBackLocal at *; dsimp only at *; split <;> simp_all [Keeps, State.setEngine]

theorem State.writeBackMatching_keeps (κ : List Instr × Bool × Tap) (s : State) (g : Nat) (w : Keeps κ s) : Keeps κ (s.writeBackMatching g) := by
  have h := s.writeBackMatching_memoryWf g w.2.2.2
  unfold State.writeBackMatching at *; dsimp only at *; split <;> simp_all [Keeps, State.setEngine]

theorem State.writeBackStore_keeps (κ : List Instr × Bool × Tap) (s : State) (c b : Nat) (w : Keeps κ s) : Keeps κ (s.writeBackStore c b) := by
  have h := s.writeBackStore_memoryWf c b w.2.2.2
  unfold State.writeBackStore at *; dsimp only at *; split <;> simp_all [Keeps, State.setCluster]

/-! ### Operations -/

grind_pattern State.setEngine_keeps => State.setEngine s g e, Keeps κ s
grind_pattern State.setCluster_keeps => State.setCluster s c x, Keeps κ s
grind_pattern State.setHbmLine_keeps => State.setHbmLine s l x, Keeps κ s
grind_pattern State.setCore_keeps => State.setCore s g c, Keeps κ s
grind_pattern State.setTu_keeps => State.setTu s g t, Keeps κ s
grind_pattern State.writeLocal_keeps => State.writeLocal s g adr cover v, Keeps κ s
grind_pattern State.writeStore_keeps => State.writeStore s c adr v, Keeps κ s
grind_pattern State.writeEntry_keeps => State.writeEntry s g ix v p m, Keeps κ s
grind_pattern State.clearJournal_keeps => State.clearJournal s g, Keeps κ s
grind_pattern State.resetEngine_keeps => State.resetEngine s g, Keeps κ s
grind_pattern State.writeBackLocal_keeps => State.writeBackLocal s g b, Keeps κ s
grind_pattern State.writeBackMatching_keeps => State.writeBackMatching s g, Keeps κ s
grind_pattern State.writeBackStore_keeps => State.writeBackStore s c b, Keeps κ s
grind_pattern foldl_keeps => List.foldl f s l, Keeps k s

theorem Eff.next_keeps (κ : List Instr × Bool × Tap) (s : State) (hκ : Keeps κ s) :
    EffKeeps κ (Eff.next s) := by
  unfold Eff.next; grind [effKeeps_done, effKeeps_trap, effKeeps_stall, effKeeps_halt, keeps_eq]

grind_pattern Eff.next_keeps => Eff.next s, Keeps κ s

theorem regEff_keeps (κ : List Instr × Bool × Tap) (s : State) (g : ℕ) (c : Core) (hκ : Keeps κ s) :
    EffKeeps κ (regEff s g c) := by
  unfold regEff; grind [effKeeps_done, effKeeps_trap, effKeeps_stall, effKeeps_halt, keeps_eq]

grind_pattern regEff_keeps => regEff s g c, Keeps κ s

theorem State.raiseFull_keeps (κ : List Instr × Bool × Tap) (s : State) (src : ℕ) (code : ℕ) (level : ℕ) (d0 : ℕ) (d1 : ℕ) (injected : Bool) (during : Bool) (hκ : Keeps κ s) :
    Keeps κ (State.raiseFull s src code level d0 d1 injected during) := by
  unfold State.raiseFull; grind [keeps_eq]

grind_pattern State.raiseFull_keeps => State.raiseFull s src code level d0 d1 injected during, Keeps κ s

theorem State.setObj_keeps (κ : List Instr × Bool × Tap) (s : State) (ix : ℕ) (sub : ℕ) (v : ℕ) (hκ : Keeps κ s) :
    Keeps κ (State.setObj s ix sub v) := by
  unfold State.setObj; grind [keeps_eq]

grind_pattern State.setObj_keeps => State.setObj s ix sub v, Keeps κ s

theorem State.bump_keeps (κ : List Instr × Bool × Tap) (s : State) (w : ℕ) (ix : ℕ) (sub : ℕ) (hκ : Keeps κ s) :
    Keeps κ (State.bump s w ix sub) := by
  unfold State.bump; grind [keeps_eq]

grind_pattern State.bump_keeps => State.bump s w ix sub, Keeps κ s

theorem State.injectDone_keeps (κ : List Instr × Bool × Tap) (s : State) (delivered : Bool) (hκ : Keeps κ s) :
    Keeps κ (State.injectDone s delivered) := by
  unfold State.injectDone; grind [keeps_eq]

grind_pattern State.injectDone_keeps => State.injectDone s delivered, Keeps κ s

theorem State.bumpCorrection_keeps (κ : List Instr × Bool × Tap) (s : State) (k : ℕ) (hκ : Keeps κ s) :
    Keeps κ (State.bumpCorrection s k) := by
  unfold State.bumpCorrection; grind [keeps_eq]

grind_pattern State.bumpCorrection_keeps => State.bumpCorrection s k, Keeps κ s

theorem State.raise_keeps (κ : List Instr × Bool × Tap) (s : State) (src : ℕ) (code : ℕ) (level : ℕ) (d0 : ℕ) (d1 : ℕ) (hκ : Keeps κ s) :
    Keeps κ (State.raise s src code level d0 d1) := by
  unfold State.raise; grind [keeps_eq]

grind_pattern State.raise_keeps => State.raise s src code level d0 d1, Keeps κ s

theorem State.checkNonet_keeps (κ : List Instr × Bool × Tap) (s : State) (src : ℕ) (chk : ℕ) (k : ℕ) (adr : ℕ) (n : ℕ) (g : BitVec 14) (hκ : Keeps κ s) :
    Keeps κ (State.checkNonet s src chk k adr n g).2 := by
  unfold State.checkNonet; grind [keeps_eq]

grind_pattern State.checkNonet_keeps => State.checkNonet s src chk k adr n g, Keeps κ s

theorem State.checkCell_keeps (κ : List Instr × Bool × Tap) {w : ℕ} (s : State) (src : ℕ) (chk : ℕ) (k : ℕ) (adr : ℕ) (inside : BitVec 5) (cell : BitVec w) (a : ℕ) (hκ : Keeps κ s) :
    Keeps κ (State.checkCell s src chk k adr inside cell a).2 := by
  fun_induction State.checkCell s src chk k adr inside cell a <;> grind [keeps_eq]

grind_pattern State.checkCell_keeps => State.checkCell s src chk k adr inside cell a, Keeps κ s

theorem State.readLocal_keeps (κ : List Instr × Bool × Tap) (s : State) (g : ℕ) (adr : ℕ) (inside : BitVec 5) (hκ : Keeps κ s) :
    Keeps κ (State.readLocal s g adr inside).2 := by
  unfold State.readLocal; grind [State.engine_memoryWf, → Keeps.memoryWf, Engine.memoryWf_eq, keeps_eq]

grind_pattern State.readLocal_keeps => State.readLocal s g adr inside, Keeps κ s

theorem State.engineRead_keeps (κ : List Instr × Bool × Tap) (s : State) (g : ℕ) (adr : ℕ) (inside : BitVec 5) (hκ : Keeps κ s) :
    Keeps κ (State.engineRead s g adr inside).2 := by
  unfold State.engineRead; grind [keeps_eq]

grind_pattern State.engineRead_keeps => State.engineRead s g adr inside, Keeps κ s

theorem addressEff_keeps (κ : List Instr × Bool × Tap) (s : State) (g : ℕ) (cause : ℕ) (adr : ℕ) (hκ : Keeps κ s) :
    EffKeeps κ (addressEff s g cause adr) := by
  unfold addressEff; grind [effKeeps_done, effKeeps_trap, effKeeps_stall, effKeeps_halt, keeps_eq]

grind_pattern addressEff_keeps => addressEff s g cause adr, Keeps κ s

theorem withOperand_keeps (κ : List Instr × Bool × Tap) (g : ℕ) (w : Sys2Proof.Word) (s : State) (k : Sys2Proof.Word → State → Eff) (hk : ∀ u0 u, Keeps κ u → EffKeeps κ (k u0 u)) (hκ : Keeps κ s) :
    EffKeeps κ (withOperand g w s k) := by
  unfold withOperand; grind [effKeeps_done, effKeeps_trap, effKeeps_stall, effKeeps_halt, keeps_eq]

grind_pattern withOperand_keeps => withOperand g w s k, Keeps κ s

theorem aluBody_keeps (κ : List Instr × Bool × Tap) (f : Core → Sys2Proof.Word → Core) (g : ℕ) (w : Sys2Proof.Word) (s : State) (hκ : Keeps κ s) :
    EffKeeps κ (aluBody f g w s) := by
  unfold aluBody; grind [effKeeps_done, effKeeps_trap, effKeeps_stall, effKeeps_halt, keeps_eq]

grind_pattern aluBody_keeps => aluBody f g w s, Keeps κ s

theorem unaryBody_keeps (κ : List Instr × Bool × Tap) (f : Core → Core) (g : ℕ) (_w : Sys2Proof.Word) (s : State) (hκ : Keeps κ s) :
    EffKeeps κ (unaryBody f g _w s) := by
  unfold unaryBody; grind [effKeeps_done, effKeeps_trap, effKeeps_stall, effKeeps_halt, keeps_eq]

grind_pattern unaryBody_keeps => unaryBody f g _w s, Keeps κ s

theorem bodyAdx_keeps (κ : List Instr × Bool × Tap) (g : ℕ) (w : Sys2Proof.Word) (s : State) (hκ : Keeps κ s) :
    EffKeeps κ (bodyAdx g w s) := by
  unfold bodyAdx; grind [effKeeps_done, effKeeps_trap, effKeeps_stall, effKeeps_halt, keeps_eq]

grind_pattern bodyAdx_keeps => bodyAdx g w s, Keeps κ s

theorem bodyAdy_keeps (κ : List Instr × Bool × Tap) (g : ℕ) (w : Sys2Proof.Word) (s : State) (hκ : Keeps κ s) :
    EffKeeps κ (bodyAdy g w s) := by
  unfold bodyAdy; grind [effKeeps_done, effKeeps_trap, effKeeps_stall, effKeeps_halt, keeps_eq]

grind_pattern bodyAdy_keeps => bodyAdy g w s, Keeps κ s

theorem State.stopMarked_keeps (κ : List Instr × Bool × Tap) (s : State) (g : ℕ) (cause : ℕ) (injected : Bool) (during : Bool) (hκ : Keeps κ s) :
    Keeps κ (State.stopMarked s g cause injected during) := by
  unfold State.stopMarked; grind [keeps_eq]

grind_pattern State.stopMarked_keeps => State.stopMarked s g cause injected during, Keeps κ s

theorem State.stopEngine_keeps (κ : List Instr × Bool × Tap) (s : State) (g : ℕ) (cause : ℕ) (hκ : Keeps κ s) :
    Keeps κ (State.stopEngine s g cause) := by
  unfold State.stopEngine; grind [keeps_eq]

grind_pattern State.stopEngine_keeps => State.stopEngine s g cause, Keeps κ s

theorem withFetch_keeps (κ : List Instr × Bool × Tap) (g : ℕ) (s : State) (k : Sys2Proof.Word → State → State) (hk : ∀ u0 u, Keeps κ u → Keeps κ (k u0 u)) (hκ : Keeps κ s) :
    Keeps κ (withFetch g s k) := by
  unfold withFetch; grind [keeps_eq]

grind_pattern withFetch_keeps => withFetch g s k, Keeps κ s

theorem illegalEff_keeps (κ : List Instr × Bool × Tap) (s : State) (g : ℕ) (hκ : Keeps κ s) :
    EffKeeps κ (illegalEff s g) := by
  unfold illegalEff; grind [effKeeps_done, effKeeps_trap, effKeeps_stall, effKeeps_halt, keeps_eq]

grind_pattern illegalEff_keeps => illegalEff s g, Keeps κ s

theorem State.syncTrap_keeps (κ : List Instr × Bool × Tap) (s : State) (g : ℕ) (slot : Bool) (cause : BitVec 6) (tpc : BitVec 15) (info : Sys2Proof.Word) (hκ : Keeps κ s) :
    Keeps κ (State.syncTrap s g slot cause tpc info) := by
  unfold State.syncTrap; grind [keeps_eq]

grind_pattern State.syncTrap_keeps => State.syncTrap s g slot cause tpc info, Keeps κ s

theorem applyEff_keeps (κ : List Instr × Bool × Tap) (s0 : State) (g : ℕ) (e : Eff) (he : EffKeeps κ e) (hκ : Keeps κ s0) :
    Keeps κ (applyEff s0 g e) := by
  have hb := State.setCore_keeps κ s0 g (s0.core g).boundary hκ
  unfold applyEff
  cases e with
  | stall => exact keeps_ite hb hκ
  | halt s => exact keeps_ite hb he
  | trap c p i s => exact keeps_ite hκ (State.syncTrap_keeps κ _ _ _ _ _ _ he)
  | done s f l => exact keeps_ite hb (State.setCore_keeps κ _ _ _ he)

grind_pattern applyEff_keeps => applyEff s0 g e, Keeps κ s0

theorem issue_keeps (κ : List Instr × Bool × Tap) (g : ℕ) (op : ℕ) (body : Sys2Proof.Word → State → Eff) (s : State) (hbody : ∀ u0 u, Keeps κ u → EffKeeps κ (body u0 u)) (hκ : Keeps κ s) :
    Keeps κ (issue g op body s) := by
  unfold issue; grind [applyEff_keeps, keeps_eq]

grind_pattern issue_keeps => issue g op body s, Keeps κ s

theorem State.reportRead_keeps (κ : List Instr × Bool × Tap) (s : State) (who : ℕ × ℕ) (adr : ℕ) (mem : ℕ) (d : Bool) (i : Bool) (u : Bool) (hκ : Keeps κ s) :
    Keeps κ (State.reportRead s who adr mem d i u) := by
  unfold State.reportRead; grind [keeps_eq]

grind_pattern State.reportRead_keeps => State.reportRead s who adr mem d i u, Keeps κ s

theorem State.readPort_keeps (κ : List Instr × Bool × Tap) (s : State) (who : ℕ × ℕ) (g : ℕ) (v1 : ℕ) (v2 : ℕ) (hκ : Keeps κ s) :
    Keeps κ (State.readPort s who g v1 v2).2 := by
  fun_induction State.readPort s who g v1 v2 <;> grind [keeps_eq]

grind_pattern State.readPort_keeps => State.readPort s who g v1 v2, Keeps κ s

theorem State.readStore_keeps (κ : List Instr × Bool × Tap) (s : State) (c : ℕ) (adr : ℕ) (hκ : Keeps κ s) :
    Keeps κ (State.readStore s c adr).2 := by
  unfold State.readStore; grind [State.cluster_memoryWf, → Keeps.memoryWf, Cluster.memoryWf_eq, keeps_eq]

grind_pattern State.readStore_keeps => State.readStore s c adr, Keeps κ s

theorem State.readStores_keeps (κ : List Instr × Bool × Tap) (s : State) (who : ℕ × ℕ) (c : ℕ) (v1 : ℕ) (v2 : ℕ) (hκ : Keeps κ s) :
    Keeps κ (State.readStores s who c v1 v2).2 := by
  fun_induction State.readStores s who c v1 v2 <;> grind [keeps_eq]

grind_pattern State.readStores_keeps => State.readStores s who c v1 v2, Keeps κ s

theorem State.checkPair_keeps (κ : List Instr × Bool × Tap) (s : State) (src : ℕ) (chk : ℕ) (x : Sys2Proof.Line) (p : ℕ) (f : BitVec 10) (a : LineCheck) (hκ : Keeps κ s) :
    Keeps κ (State.checkPair s src chk x p f a).2 := by
  unfold State.checkPair; grind [keeps_eq]

grind_pattern State.checkPair_keeps => State.checkPair s src chk x p f a, Keeps κ s

theorem State.checkFold_keeps (κ : List Instr × Bool × Tap) (s : State) (src : ℕ) (x : Sys2Proof.Line) (f : BitVec 10) (a : LineCheck) (hκ : Keeps κ s) :
    Keeps κ (State.checkFold s src x f a).2 := by
  unfold State.checkFold; grind [keeps_eq]

grind_pattern State.checkFold_keeps => State.checkFold s src x f a, Keeps κ s

theorem State.readLine_keeps (κ : List Instr × Bool × Tap) (s : State) (l : ℕ) (reqSrc : ℕ) (writeBack : Bool) (hκ : Keeps κ s) :
    Keeps κ (State.readLine s l reqSrc writeBack).2.2 := by
  unfold State.readLine; grind [keeps_eq]

grind_pattern State.readLine_keeps => State.readLine s l reqSrc writeBack, Keeps κ s

theorem State.readHbmLine_keeps (κ : List Instr × Bool × Tap) (s : State) (l : ℕ) (reqSrc : ℕ) (hκ : Keeps κ s) :
    Keeps κ (State.readHbmLine s l reqSrc).2 := by
  unfold State.readHbmLine; grind [keeps_eq]

grind_pattern State.readHbmLine_keeps => State.readHbmLine s l reqSrc, Keeps κ s

theorem State.readHbm_keeps (κ : List Instr × Bool × Tap) (s : State) (w : ℕ) (reqSrc : ℕ) (hκ : Keeps κ s) :
    Keeps κ (State.readHbm s w reqSrc).2 := by
  unfold State.readHbm; grind [keeps_eq]

grind_pattern State.readHbm_keeps => State.readHbm s w reqSrc, Keeps κ s

theorem State.readOpen_keeps (κ : List Instr × Bool × Tap) (s : State) (reqSrc : ℕ) (line : Option (ℕ → ReadOut)) (v1 : ℕ) (v2 : ℕ) (hκ : Keeps κ s) :
    Keeps κ (State.readOpen s reqSrc line v1 v2).2 := by
  fun_induction State.readOpen s reqSrc line v1 v2 <;> grind [keeps_eq]

grind_pattern State.readOpen_keeps => State.readOpen s reqSrc line v1 v2, Keeps κ s

theorem State.readHbms_keeps (κ : List Instr × Bool × Tap) (s : State) (reqSrc : ℕ) (v1 : ℕ) (v2 : ℕ) (hκ : Keeps κ s) :
    Keeps κ (State.readHbms s reqSrc v1 v2).2 := by
  unfold State.readHbms; grind [keeps_eq]

grind_pattern State.readHbms_keeps => State.readHbms s reqSrc v1 v2, Keeps κ s

theorem State.readMem_keeps (κ : List Instr × Bool × Tap) (s : State) (who : ℕ × ℕ) (v1 : ℕ) (v2 : ℕ) (hκ : Keeps κ s) :
    Keeps κ (State.readMem s who v1 v2).2 := by
  unfold State.readMem; grind [keeps_eq]

grind_pattern State.readMem_keeps => State.readMem s who v1 v2, Keeps κ s

theorem State.hostReadWord_keeps (κ : List Instr × Bool × Tap) (s : State) (src : ℕ) (p : HostWord) (hκ : Keeps κ s) :
    Keeps κ (State.hostReadWord s src p).2 := by
  unfold State.hostReadWord; grind [keeps_eq]

grind_pattern State.hostReadWord_keeps => State.hostReadWord s src p, Keeps κ s

theorem State.writeLine_keeps (κ : List Instr × Bool × Tap) (s : State) (l : ℕ) (cover : BitVec 6) (data : BitVec 216) (reqSrc : ℕ) (lvl : ℕ) (hκ : Keeps κ s) :
    Keeps κ (State.writeLine s l cover data reqSrc lvl).2 := by
  unfold State.writeLine; grind [keeps_eq]

grind_pattern State.writeLine_keeps => State.writeLine s l cover data reqSrc lvl, Keeps κ s

theorem State.writeLines_keeps (κ : List Instr × Bool × Tap) (s : State) (w : ℕ) (ws : List Sys2Proof.Word) (reqSrc : ℕ) (lvl : ℕ) (v1 : ℕ) (v2 : ℕ) (hκ : Keeps κ s) :
    Keeps κ (State.writeLines s w ws reqSrc lvl v1 v2).2 := by
  fun_induction State.writeLines s w ws reqSrc lvl v1 v2 <;> grind [keeps_eq]

grind_pattern State.writeLines_keeps => State.writeLines s w ws reqSrc lvl v1 v2, Keeps κ s

theorem State.writeHbm_keeps (κ : List Instr × Bool × Tap) (s : State) (w : ℕ) (ws : List Sys2Proof.Word) (reqSrc : ℕ) (lvl : ℕ) (hκ : Keeps κ s) :
    Keeps κ (State.writeHbm s w ws reqSrc lvl).2 := by
  unfold State.writeHbm; grind [keeps_eq]

grind_pattern State.writeHbm_keeps => State.writeHbm s w ws reqSrc lvl, Keeps κ s

theorem State.hostWriteWord_keeps (κ : List Instr × Bool × Tap) (s : State) (src : ℕ) (p : HostWord) (v : Sys2Proof.Word) (hκ : Keeps κ s) :
    Keeps κ (State.hostWriteWord s src p v).2 := by
  unfold State.hostWriteWord; grind [keeps_eq]

grind_pattern State.hostWriteWord_keeps => State.hostWriteWord s src p v, Keeps κ s

theorem State.hostReadOpen_keeps (κ : List Instr × Bool × Tap) (s : State) (src : ℕ) (line : OpenLine) (p : HostWord) (hκ : Keeps κ s) :
    Keeps κ (State.hostReadOpen s src line p).2.2 := by
  unfold State.hostReadOpen; grind [keeps_eq]

grind_pattern State.hostReadOpen_keeps => State.hostReadOpen s src line p, Keeps κ s

theorem State.readRun_keeps (κ : List Instr × Bool × Tap) (s : State) (src : ℕ) (p : State → ℕ → HostWord) (line : OpenLine) (v1 : ℕ) (v2 : ℕ) (hκ : Keeps κ s) :
    Keeps κ (State.readRun s src p line v1 v2).2.2 := by
  fun_induction State.readRun s src p line v1 v2 <;> grind [keeps_eq]

grind_pattern State.readRun_keeps => State.readRun s src p line v1 v2, Keeps κ s

theorem State.hostWriteRun_keeps (κ : List Instr × Bool × Tap) (s : State) (src : ℕ) (p : ℕ → HostWord) (v : ℕ → Sys2Proof.Word) (k : ℕ) (n : ℕ) (hκ : Keeps κ s) :
    Keeps κ (State.hostWriteRun s src p v k n).2.2 := by
  unfold State.hostWriteRun; grind [keeps_eq]

grind_pattern State.hostWriteRun_keeps => State.hostWriteRun s src p v k n, Keeps κ s

theorem State.fresh_keeps (κ : List Instr × Bool × Tap) (s : State) (hκ : Keeps κ s) :
    Keeps κ (State.fresh s).2 := by
  unfold State.fresh; grind [keeps_eq]

grind_pattern State.fresh_keeps => State.fresh s, Keeps κ s

theorem State.inject_keeps (κ : List Instr × Bool × Tap) (s : State) (k : ℕ) (vc : ℕ) (route : BitVec 42) (flits : List (BitVec 192)) (hκ : Keeps κ s) :
    Keeps κ (State.inject s k vc route flits) := by
  unfold State.inject; grind [State.cluster_memoryWf, → Keeps.memoryWf, Cluster.memoryWf_eq, keeps_eq]

grind_pattern State.inject_keeps => State.inject s k vc route flits, Keeps κ s

theorem State.discard_keeps (κ : List Instr × Bool × Tap) (s : State) (src : ℕ) (hκ : Keeps κ s) :
    Keeps κ (State.discard s src) := by
  unfold State.discard; grind [keeps_eq]

grind_pattern State.discard_keeps => State.discard s src, Keeps κ s

theorem State.sendPacket_keeps (κ : List Instr × Bool × Tap) (s : State) (k : ℕ) (vc : ℕ) (urgency : ℕ) (entry : ℕ) (src : Src) (head : BitVec 96) (data : List Sys2Proof.Word) (hκ : Keeps κ s) :
    Keeps κ (State.sendPacket s k vc urgency entry src head data) := by
  unfold State.sendPacket; grind [keeps_eq]

grind_pattern State.sendPacket_keeps => State.sendPacket s k vc urgency entry src head data, Keeps κ s

theorem State.sendSync_keeps (κ : List Instr × Bool × Tap) (s : State) (t : ℕ) (k : ℕ) (engine : ℕ) (node : ℕ) (hκ : Keeps κ s) :
    Keeps κ (State.sendSync s t k engine node) := by
  unfold State.sendSync; grind [keeps_eq]

grind_pattern State.sendSync_keeps => State.sendSync s t k engine node, Keeps κ s

theorem State.wantSync_keeps (κ : List Instr × Bool × Tap) (s : State) (t : ℕ) (k : ℕ) (engine : ℕ) (node : ℕ) (hκ : Keeps κ s) :
    Keeps κ (State.wantSync s t k engine node) := by
  unfold State.wantSync; grind [keeps_eq]

grind_pattern State.wantSync_keeps => State.wantSync s t k engine node, Keeps κ s

theorem State.checkCode_keeps (κ : List Instr × Bool × Tap) (s : State) (src : ℕ) (chk : ℕ) (syn : ℕ) (hκ : Keeps κ s) :
    Keeps κ (State.checkCode s src chk syn).2 := by
  unfold State.checkCode; grind [keeps_eq]

grind_pattern State.checkCode_keeps => State.checkCode s src chk syn, Keeps κ s

theorem State.hostTransaction_keeps (κ : List Instr × Bool × Tap) (s : State) (src : ℕ) (p : HostWord) (flits : ℕ) (hκ : Keeps κ s) :
    Keeps κ (State.hostTransaction s src p flits).2 := by
  unfold State.hostTransaction
  split
  · exact hκ
  · dsimp only
    split
    · exact State.wantSync_keeps κ _ _ _ _ _ hκ
    · rename_i t _ _
      have hc := State.checkCode_keeps κ { s with noc := { s.noc with
        poolSent := tput 0 (64 * t + 44) ((tget 0 s.noc.poolSent (64 * t + 44) + 1) % 65536) s.noc.poolSent,
        poolRecv := tput 0 (64 * t + 44) ((tget 0 s.noc.poolRecv (64 * t + 44) + 1) % 65536) s.noc.poolRecv } } src 0 0 hκ
      split
      · exact State.wantSync_keeps κ _ _ _ _ _ (State.raiseFull_keeps κ _ _ _ _ _ _ _ _ (State.discard_keeps κ _ _ (State.fresh_keeps κ _ hc)))
      · exact hc

grind_pattern State.hostTransaction_keeps => State.hostTransaction s src p flits, Keeps κ s

theorem State.readTransactions_keeps (κ : List Instr × Bool × Tap) (s : State) (src : ℕ) (p : State → ℕ → HostWord) (k : ℕ) (l : List ℕ)
    (hκ : Keeps κ s) : Keeps κ (State.readTransactions s src p k l).2.2 := by
  induction l generalizing s k with
  | nil => exact hκ
  | cons m l ih =>
    have h1 := State.hostTransaction_keeps κ s src (p s k) 1 hκ
    unfold State.readTransactions
    dsimp only
    split
    · exact h1
    · have h2 := State.readRun_keeps κ _ src p none k m h1
      split <;> rename_i hq <;> rw [hq] at h2
      · exact h2
      · exact ih _ _ h2

grind_pattern State.readTransactions_keeps => State.readTransactions s src p k l, Keeps κ s

theorem State.readSlots_keeps (κ : List Instr × Bool × Tap) (s : State) (v1 : ℕ) (v2 : ℕ) (hκ : Keeps κ s) :
    Keeps κ (State.readSlots s v1 v2).2 := by
  unfold State.readSlots; grind [keeps_eq]

grind_pattern State.readSlots_keeps => State.readSlots s v1 v2, Keeps κ s

theorem State.put_keeps (κ : List Instr × Bool × Tap) (s : State) (o : Output) (hκ : Keeps κ s) :
    Keeps κ (State.put s o) := by
  unfold State.put; grind [keeps_eq]

grind_pattern State.put_keeps => State.put s o, Keeps κ s

theorem State.hostError_keeps (κ : List Instr × Bool × Tap) (s : State) (src : ℕ) (adr : ℕ) (status : ℕ) (hκ : Keeps κ s) :
    Keeps κ (State.hostError s src adr status) := by
  unfold State.hostError; grind [keeps_eq]

grind_pattern State.hostError_keeps => State.hostError s src adr status, Keeps κ s

theorem State.abortRead_keeps (κ : List Instr × Bool × Tap) (s : State) (o : ℕ) (e : ℕ) (hκ : Keeps κ s) :
    Keeps κ (State.abortRead s o e) := by
  unfold State.abortRead; grind [State.put_keeps, State.hostError_keeps, keeps_eq]

grind_pattern State.abortRead_keeps => State.abortRead s o e, Keeps κ s

theorem State.barRead_keeps (κ : List Instr × Bool × Tap) (s : State) (o : ℕ) (n : ℕ) (hκ : Keeps κ s) :
    Keeps κ (State.barRead s o n) := by
  unfold State.barRead; grind [keeps_eq]

grind_pattern State.barRead_keeps => State.barRead s o n, Keeps κ s

theorem State.writeSlots_keeps (κ : List Instr × Bool × Tap) (s : State) (o : ℕ) (data : List (Option (BitVec 8))) (v1 : ℕ) (v2 : ℕ) (v3 : ℕ) (hκ : Keeps κ s) :
    Keeps κ (State.writeSlots s o data v1 v2 v3) := by
  fun_induction State.writeSlots s o data v1 v2 v3 <;> grind [State.hostError_keeps, keeps_eq]

grind_pattern State.writeSlots_keeps => State.writeSlots s o data v1 v2 v3, Keeps κ s

theorem State.hostErrorFree_keeps (κ : List Instr × Bool × Tap) (s : State) (o : ℕ) (hκ : Keeps κ s) :
    Keeps κ (State.hostErrorFree s o) := by
  unfold State.hostErrorFree; grind [keeps_eq]

grind_pattern State.hostErrorFree_keeps => State.hostErrorFree s o, Keeps κ s

theorem State.writeRam_keeps (κ : List Instr × Bool × Tap) (s : State) (o : ℕ) (data : List (Option (BitVec 8))) (hκ : Keeps κ s) :
    Keeps κ (State.writeRam s o data) := by
  unfold State.writeRam; grind [keeps_eq]

grind_pattern State.writeRam_keeps => State.writeRam s o data, Keeps κ s

theorem State.barWrite_keeps (κ : List Instr × Bool × Tap) (s : State) (o : ℕ) (data : List (Option (BitVec 8))) (poisoned : Bool) (hκ : Keeps κ s) :
    Keeps κ (State.barWrite s o data poisoned) := by
  unfold State.barWrite; grind [State.writeRam_keeps, State.writeSlots_keeps, State.hostError_keeps, State.hostErrorFree_keeps, keeps_eq]

grind_pattern State.barWrite_keeps => State.barWrite s o data poisoned, Keeps κ s

theorem State.unsupportedWrite_keeps (κ : List Instr × Bool × Tap) (s : State) (hκ : Keeps κ s) :
    Keeps κ (State.unsupportedWrite s) := by
  unfold State.unsupportedWrite; grind [keeps_eq]

grind_pattern State.unsupportedWrite_keeps => State.unsupportedWrite s, Keeps κ s

theorem State.setDma_keeps (κ : List Instr × Bool × Tap) (s : State) (c : ℕ) (x : Dma) (hκ : Keeps κ s) :
    Keeps κ (State.setDma s c x) := by
  unfold State.setDma; grind [keeps_eq]

grind_pattern State.setDma_keeps => State.setDma s c x, Keeps κ s

theorem State.settleDma_keeps (κ : List Instr × Bool × Tap) (s : State) (c : ℕ) (hκ : Keeps κ s) :
    Keeps κ (State.settleDma s c) := by
  unfold State.settleDma; grind [keeps_eq]

grind_pattern State.settleDma_keeps => State.settleDma s c, Keeps κ s

theorem State.dmaWrite_keeps (κ : List Instr × Bool × Tap) (s : State) (c : ℕ) (f : Dma → Dma) (hκ : Keeps κ s) :
    Keeps κ (State.dmaWrite s c f) := by
  unfold State.dmaWrite; grind [keeps_eq]

grind_pattern State.dmaWrite_keeps => State.dmaWrite s c f, Keeps κ s

theorem State.storeWords_keeps (κ : List Instr × Bool × Tap) (s : State) (src : ℕ) (x : Descriptor) (data : List Sys2Proof.Word) (v1 : ℕ) (v2 : ℕ) (v3 : ℕ) (hκ : Keeps κ s) :
    Keeps κ (State.storeWords s src x data v1 v2 v3).2 := by
  fun_induction State.storeWords s src x data v1 v2 v3 <;> grind [keeps_eq]

grind_pattern State.storeWords_keeps => State.storeWords s src x data v1 v2 v3, Keeps κ s

theorem State.storeTransactions_keeps (κ : List Instr × Bool × Tap) (s : State) (src : ℕ) (x : Descriptor) (data : List Sys2Proof.Word) (v1 : ℕ) (v2 : List ℕ) (hκ : Keeps κ s) :
    Keeps κ (State.storeTransactions s src x data v1 v2).2 := by
  fun_induction State.storeTransactions s src x data v1 v2 <;> grind [keeps_eq]

grind_pattern State.storeTransactions_keeps => State.storeTransactions s src x data v1 v2, Keeps κ s

theorem State.moveWords_keeps (κ : List Instr × Bool × Tap) (s : State) (src : ℕ) (x : Descriptor) (data : List Sys2Proof.Word) (hκ : Keeps κ s) :
    Keeps κ (State.moveWords s src x data).2 := by
  unfold State.moveWords; grind [keeps_eq]

grind_pattern State.moveWords_keeps => State.moveWords s src x data, Keeps κ s

theorem State.vector_keeps (κ : List Instr × Bool × Tap) (s : State) (v : ℕ) (hκ : Keeps κ s) :
    Keeps κ (State.vector s v) := by
  unfold State.vector; grind [keeps_eq]

grind_pattern State.vector_keeps => State.vector s v, Keeps κ s

theorem State.completeDescriptor_keeps (κ : List Instr × Bool × Tap) (s : State) (c : ℕ) (x : Descriptor) (m : Moved) (hκ : Keeps κ s) :
    Keeps κ (State.completeDescriptor s c x m) := by
  unfold State.completeDescriptor; grind [State.setDma_keeps, State.settleDma_keeps, State.put_keeps, State.vector_keeps, State.hostError_keeps, keeps_eq]

grind_pattern State.completeDescriptor_keeps => State.completeDescriptor s c x m, Keeps κ s

theorem State.trainHost_keeps (κ : List Instr × Bool × Tap) (s : State) (hκ : Keeps κ s) :
    Keeps κ (State.trainHost s) := by
  unfold State.trainHost; grind [keeps_eq]

grind_pattern State.trainHost_keeps => State.trainHost s, Keeps κ s

theorem State.endTxn_keeps (κ : List Instr × Bool × Tap) (s : State) (status : ℕ) (hκ : Keeps κ s) :
    Keeps κ (State.endTxn s status) := by
  unfold State.endTxn; grind [State.vector_keeps, keeps_eq]

grind_pattern State.endTxn_keeps => State.endTxn s status, Keeps κ s

theorem State.pathLost_keeps (κ : List Instr × Bool × Tap) (s : State) (p : Sys2Proof.Path) (hκ : Keeps κ s) :
    Keeps κ (State.pathLost s p) := by
  unfold State.pathLost; grind [keeps_eq]

grind_pattern State.pathLost_keeps => State.pathLost s p, Keeps κ s

theorem State.resetHost_keeps (κ : List Instr × Bool × Tap) (s : State) (hκ : Keeps κ s) :
    Keeps κ (State.resetHost s) := by
  unfold State.resetHost; grind [State.pathLost_keeps, keeps_eq]

grind_pattern State.resetHost_keeps => State.resetHost s, Keeps κ s

theorem State.hostDown_keeps (κ : List Instr × Bool × Tap) (s : State) (hκ : Keeps κ s) :
    Keeps κ (State.hostDown s) := by
  unfold State.hostDown; grind [keeps_eq]

grind_pattern State.hostDown_keeps => State.hostDown s, Keeps κ s

theorem State.setSlot_keeps (κ : List Instr × Bool × Tap) (s : State) (i : ℕ) (f : BogSlot → BogSlot) (hκ : Keeps κ s) :
    Keeps κ (State.setSlot s i f) := by
  unfold State.setSlot; grind [keeps_eq]

grind_pattern State.setSlot_keeps => State.setSlot s i f, Keeps κ s

theorem State.sendDown_keeps (κ : List Instr × Bool × Tap) (s : State) (ports : BitVec 8) (m : Service) (hκ : Keeps κ s) :
    Keeps κ (State.sendDown s ports m) := by
  unfold State.sendDown; grind [keeps_eq]

grind_pattern State.sendDown_keeps => State.sendDown s ports m, Keeps κ s

theorem State.sendStop_keeps (κ : List Instr × Bool × Tap) (s : State) (f : ℕ) (reason : ℕ) (hκ : Keeps κ s) :
    Keeps κ (State.sendStop s f reason) := by
  unfold State.sendStop; grind [keeps_eq]

grind_pattern State.sendStop_keeps => State.sendStop s f reason, Keeps κ s

theorem State.setFlight_keeps (κ : List Instr × Bool × Tap) (s : State) (f : ℕ) (x : Flight) (hκ : Keeps κ s) :
    Keeps κ (State.setFlight s f x) := by
  unfold State.setFlight; grind [keeps_eq]

grind_pattern State.setFlight_keeps => State.setFlight s f x, Keeps κ s

theorem State.enterFlight_keeps (κ : List Instr × Bool × Tap) (s : State) (f : ℕ) (st : FState) (hκ : Keeps κ s) :
    Keeps κ (State.enterFlight s f st) := by
  unfold State.enterFlight; grind [State.setFlight_keeps, State.vector_keeps, keeps_eq]

grind_pattern State.enterFlight_keeps => State.enterFlight s f st, Keeps κ s

theorem State.stopUnit_keeps (κ : List Instr × Bool × Tap) (s : State) (g : ℕ) (hκ : Keeps κ s) :
    Keeps κ (State.stopUnit s g) := by
  unfold State.stopUnit; grind [State.tu_memoryWf, → Keeps.memoryWf, TokenUnit.restart_memoryWf, keeps_eq]

grind_pattern State.stopUnit_keeps => State.stopUnit s g, Keeps κ s

theorem State.readEntry_keeps (κ : List Instr × Bool × Tap) (s : State) (g : ℕ) (ix : ℕ) (hκ : Keeps κ s) :
    Keeps κ (State.readEntry s g ix).2 := by
  unfold State.readEntry; grind [State.engine_memoryWf, → Keeps.memoryWf, Engine.memoryWf_eq, keeps_eq]

grind_pattern State.readEntry_keeps => State.readEntry s g ix, Keeps κ s

theorem State.readFrame_keeps (κ : List Instr × Bool × Tap) (s : State) (g : ℕ) (f : ℕ) (hκ : Keeps κ s) :
    Keeps κ (State.readFrame s g f) := by
  unfold State.readFrame; grind [keeps_eq]

grind_pattern State.readFrame_keeps => State.readFrame s g f, Keeps κ s

theorem State.writeSnapshot_keeps (κ : List Instr × Bool × Tap) (s : State) (f : ℕ) (hκ : Keeps κ s) :
    Keeps κ (State.writeSnapshot s f) := by
  unfold State.writeSnapshot; grind [keeps_eq]

grind_pattern State.writeSnapshot_keeps => State.writeSnapshot s f, Keeps κ s

theorem State.enterMired_keeps (κ : List Instr × Bool × Tap) (s : State) (f : ℕ) (reason : ℕ) (hκ : Keeps κ s) :
    Keeps κ (State.enterMired s f reason) := by
  unfold State.enterMired; grind [keeps_eq]

grind_pattern State.enterMired_keeps => State.enterMired s f reason, Keeps κ s

theorem State.sendUp_keeps (κ : List Instr × Bool × Tap) (s : State) (f : ℕ) (m : Service) (hκ : Keeps κ s) :
    Keeps κ (State.sendUp s f m) := by
  unfold State.sendUp; grind [keeps_eq]

grind_pattern State.sendUp_keeps => State.sendUp s f m, Keeps κ s

theorem State.declareMired_keeps (κ : List Instr × Bool × Tap) (s : State) (f : ℕ) (reason : ℕ) (hκ : Keeps κ s) :
    Keeps κ (State.declareMired s f reason) := by
  unfold State.declareMired; grind [keeps_eq]

grind_pattern State.declareMired_keeps => State.declareMired s f reason, Keeps κ s

theorem State.bogStore_keeps (κ : List Instr × Bool × Tap) (s : State) (x : Flit) (hκ : Keeps κ s) :
    Keeps κ (State.bogStore s x) := by
  unfold State.bogStore; grind [State.declareMired_keeps, State.setFlight_keeps, State.setSlot_keeps, State.raise_keeps, State.writeHbm_keeps, keeps_eq]

grind_pattern State.bogStore_keeps => State.bogStore s x, Keeps κ s

theorem State.sendAccept_keeps (κ : List Instr × Bool × Tap) (s : State) (k : ℕ) (ctl : BitVec 96) (tok : BitVec 96) (hκ : Keeps κ s) :
    Keeps κ (State.sendAccept s k ctl tok) := by
  unfold State.sendAccept; grind [keeps_eq]

grind_pattern State.sendAccept_keeps => State.sendAccept s k ctl tok, Keeps κ s

theorem State.sendToken_keeps (κ : List Instr × Bool × Tap) (s : State) (k : ℕ) (vc : ℕ) (urgency : ℕ) (entry : ℕ) (src : Src) (t : BitVec 96) (hκ : Keeps κ s) :
    Keeps κ (State.sendToken s k vc urgency entry src t) := by
  unfold State.sendToken; grind [keeps_eq]

grind_pattern State.sendToken_keeps => State.sendToken s k vc urgency entry src t, Keeps κ s

theorem State.sendRecompute_keeps (κ : List Instr × Bool × Tap) (s : State) (k : ℕ) (requester : ℕ) (reason : ℕ) (me : Src) (ctl : BitVec 96) (tok : BitVec 96) (hκ : Keeps κ s) :
    Keeps κ (State.sendRecompute s k requester reason me ctl tok) := by
  unfold State.sendRecompute; grind [keeps_eq]

grind_pattern State.sendRecompute_keeps => State.sendRecompute s k requester reason me ctl tok, Keeps κ s

theorem State.bogWriteStep_keeps (κ : List Instr × Bool × Tap) (s : State) (hκ : Keeps κ s) :
    Keeps κ (State.bogWriteStep s) := by
  unfold State.bogWriteStep; grind [State.bump_keeps, State.sendAccept_keeps, State.raiseFull_keeps, State.checkCode_keeps, State.sendRecompute_keeps, State.bogStore_keeps, keeps_eq]

grind_pattern State.bogWriteStep_keeps => State.bogWriteStep s, Keeps κ s

theorem State.trimChains_keeps (κ : List Instr × Bool × Tap) (s : State) (hκ : Keeps κ s) :
    Keeps κ (State.trimChains s) := by
  unfold State.trimChains; grind [keeps_eq]

grind_pattern State.trimChains_keeps => State.trimChains s, Keeps κ s

theorem State.dropSlot_keeps (κ : List Instr × Bool × Tap) (s : State) (i : ℕ) (hκ : Keeps κ s) :
    Keeps κ (State.dropSlot s i) := State.trimChains_keeps κ _ hκ

grind_pattern State.dropSlot_keeps => State.dropSlot s i, Keeps κ s

theorem State.loseSlot_keeps (κ : List Instr × Bool × Tap) (s : State) (b : BogSlot) (c : CodeCheck) (hκ : Keeps κ s) :
    Keeps κ (State.loseSlot s b c) := by
  unfold State.loseSlot; grind [keeps_eq]

grind_pattern State.loseSlot_keeps => State.loseSlot s b c, Keeps κ s

theorem State.sendDraw_keeps (κ : List Instr × Bool × Tap) (s : State) (b : BogSlot) (n : ℕ) (hκ : Keeps κ s) :
    Keeps κ (State.sendDraw s b n) := by
  unfold State.sendDraw; grind [keeps_eq]

grind_pattern State.sendDraw_keeps => State.sendDraw s b n, Keeps κ s

theorem State.readAonGroup_keeps (κ : List Instr × Bool × Tap) (s : State) (array : ℕ) (word : ℕ) (n : ℕ) (hκ : Keeps κ s) :
    Keeps κ (State.readAonGroup s array word n).2 := by
  unfold State.readAonGroup
  extract_lets src d detail
  have h : ∀ (x : BitVec 14 × Bool × Bool × State), Keeps κ x.2.2.2 →
      Keeps κ (match x with
        | (d, inj, dur, s) => match wrongGroup d with
          | .clean => (false, s)
          | .single pos =>
            (false, ({ s with aon := if inj then s.aon else tput 0 (aonKey array word n) 0 s.aon }).raiseFull src 0x01 1 word (2 ^ 7 * pos) inj dur)
          | _ => (true, s.raiseFull src 0x48 4 detail 0 inj dur)).2 := by
    intro x hx
    dsimp only
    split
    · exact hx
    · exact State.raiseFull_keeps κ _ _ _ _ _ _ _ _ hx
    · exact State.raiseFull_keeps κ _ _ _ _ _ _ _ _ hx
  refine h _ ?_
  split
  · exact hκ
  · split <;> exact State.injectDone_keeps κ _ _ hκ

grind_pattern State.readAonGroup_keeps => State.readAonGroup s array word n, Keeps κ s

theorem State.readAon_keeps (κ : List Instr × Bool × Tap) (s : State) (array : ℕ) (word : ℕ) (hκ : Keeps κ s) :
    Keeps κ (State.readAon s array word).2 := by
  unfold State.readAon; grind [keeps_eq]

grind_pattern State.readAon_keeps => State.readAon s array word, Keeps κ s

theorem State.drawUpStep_keeps (κ : List Instr × Bool × Tap) (s : State) (hκ : Keeps κ s) :
    Keeps κ (State.drawUpStep s) := by
  unfold State.drawUpStep; grind [keeps_eq]

grind_pattern State.drawUpStep_keeps => State.drawUpStep s, Keeps κ s

theorem State.stray_keeps (κ : List Instr × Bool × Tap) (s : State) (hκ : Keeps κ s) :
    Keeps κ (State.stray s) := by
  unfold State.stray; grind [keeps_eq]

grind_pattern State.stray_keeps => State.stray s, Keeps κ s

theorem State.drawAcceptStep_keeps (κ : List Instr × Bool × Tap) (s : State) (hκ : Keeps κ s) :
    Keeps κ (State.drawAcceptStep s) := by
  unfold State.drawAcceptStep; grind [State.raise_keeps, State.stray_keeps, State.dropSlot_keeps, keeps_eq]

grind_pattern State.drawAcceptStep_keeps => State.drawAcceptStep s, Keeps κ s

theorem State.bogRecomputeStep_keeps (κ : List Instr × Bool × Tap) (s : State) (hκ : Keeps κ s) :
    Keeps κ (State.bogRecomputeStep s) := by
  unfold State.bogRecomputeStep; grind [State.sendDraw_keeps, State.raiseFull_keeps, State.checkCode_keeps, State.stray_keeps, keeps_eq]

grind_pattern State.bogRecomputeStep_keeps => State.bogRecomputeStep s, Keeps κ s

theorem State.bogTrigger_keeps (κ : List Instr × Bool × Tap) (s : State) (f : ℕ) (hκ : Keeps κ s) :
    Keeps κ (State.bogTrigger s f) := by
  unfold State.bogTrigger; grind [keeps_eq]

grind_pattern State.bogTrigger_keeps => State.bogTrigger s f, Keeps κ s

theorem State.bogJoin_keeps (κ : List Instr × Bool × Tap) (s : State) (c : ℕ) (hκ : Keeps κ s) :
    Keeps κ (State.bogJoin s c) := by
  unfold State.bogJoin; grind [keeps_eq]

grind_pattern State.bogJoin_keeps => State.bogJoin s c, Keeps κ s

theorem State.holdTime_keeps (κ : List Instr × Bool × Tap) (s : State) (hκ : Keeps κ s) :
    Keeps κ (State.holdTime s) := by
  unfold State.holdTime; grind [keeps_eq]

grind_pattern State.holdTime_keeps => State.holdTime s, Keeps κ s

theorem State.followPort_keeps (κ : List Instr × Bool × Tap) (s : State) (p : ℕ) (a : ℕ × ℕ × ℕ × Bool) (hκ : Keeps κ s) :
    Keeps κ (State.followPort s p a) := by
  unfold State.followPort; grind [keeps_eq]

grind_pattern State.followPort_keeps => State.followPort s p a, Keeps κ s

theorem State.becomeMaster_keeps (κ : List Instr × Bool × Tap) (s : State) (hκ : Keeps κ s) :
    Keeps κ (State.becomeMaster s) := by
  unfold State.becomeMaster; grind [keeps_eq]

grind_pattern State.becomeMaster_keeps => State.becomeMaster s, Keeps κ s

theorem State.selectSource_keeps (κ : List Instr × Bool × Tap) (s : State) (hκ : Keeps κ s) :
    Keeps κ (State.selectSource s) := by
  unfold State.selectSource; grind [keeps_eq]

grind_pattern State.selectSource_keeps => State.selectSource s, Keeps κ s

theorem State.enterDev_keeps (κ : List Instr × Bool × Tap) (s : State) (d : DevState) (hκ : Keeps κ s) :
    Keeps κ (State.enterDev s d) := by
  unfold State.enterDev; grind [State.vector_keeps, keeps_eq]

grind_pattern State.enterDev_keeps => State.enterDev s d, Keeps κ s

theorem State.goLive_keeps (κ : List Instr × Bool × Tap) (s : State) (hκ : Keeps κ s) :
    Keeps κ (State.goLive s) := by
  unfold State.goLive; grind [State.enterDev_keeps, keeps_eq]

grind_pattern State.goLive_keeps => State.goLive s, Keeps κ s

theorem State.awaitLock_keeps (κ : List Instr × Bool × Tap) (s : State) (hκ : Keeps κ s) :
    Keeps κ (State.awaitLock s) := by
  unfold State.awaitLock; grind [State.selectSource_keeps, State.goLive_keeps, keeps_eq]

grind_pattern State.awaitLock_keeps => State.awaitLock s, Keeps κ s

theorem State.checkPorts_keeps (κ : List Instr × Bool × Tap) (s : State) (hκ : Keeps κ s) :
    Keeps κ (State.checkPorts s) := by
  unfold State.checkPorts; grind [keeps_eq]

grind_pattern State.checkPorts_keeps => State.checkPorts s, Keeps κ s

theorem State.setPort_keeps (κ : List Instr × Bool × Tap) (s : State) (p : ℕ) (x : Port) (hκ : Keeps κ s) :
    Keeps κ (State.setPort s p x) := by
  unfold State.setPort; grind [keeps_eq]

grind_pattern State.setPort_keeps => State.setPort s p x, Keeps κ s

theorem State.enterDetect_keeps (κ : List Instr × Bool × Tap) (s : State) (p : ℕ) (hκ : Keeps κ s) :
    Keeps κ (State.enterDetect s p) := by
  unfold State.enterDetect; grind [keeps_eq]

grind_pattern State.enterDetect_keeps => State.enterDetect s p, Keeps κ s

theorem State.startPort_keeps (κ : List Instr × Bool × Tap) (s : State) (p : ℕ) (hκ : Keeps κ s) :
    Keeps κ (State.startPort s p) := by
  unfold State.startPort; grind [keeps_eq]

grind_pattern State.startPort_keeps => State.startPort s p, Keeps κ s

theorem State.enterConfig_keeps (κ : List Instr × Bool × Tap) (s : State) (hκ : Keeps κ s) : Keeps κ (State.enterConfig s) := by
  unfold State.enterConfig
  dsimp only
  have h1 := State.put_keeps κ _ (Output.bootUp s.nodeId) (State.enterDev_keeps κ { s with startStep := 7 } .config hκ)
  split
  · exact h1
  · refine State.checkPorts_keeps κ _ (foldl_keeps κ _ (fun s p w => State.startPort_keeps κ _ _ w) _ _ ?_)
    exact Keeps.of h1 rfl rfl rfl rfl rfl rfl rfl

grind_pattern State.enterConfig_keeps => State.enterConfig s, Keeps κ s

theorem State.enterBootMode_keeps (κ : List Instr × Bool × Tap) (s : State) (hκ : Keeps κ s) :
    Keeps κ (State.enterBootMode s) := by
  unfold State.enterBootMode; grind [keeps_eq]

grind_pattern State.enterBootMode_keeps => State.enterBootMode s, Keeps κ s

theorem State.raiseFree_keeps (κ : List Instr × Bool × Tap) (s : State) (src : ℕ) (level : ℕ) (hκ : Keeps κ s) :
    Keeps κ (State.raiseFree s src level) := by
  unfold State.raiseFree; grind [keeps_eq]

grind_pattern State.raiseFree_keeps => State.raiseFree s src level, Keeps κ s

theorem State.runSlot_keeps (κ : List Instr × Bool × Tap) (s : State) (k : ℕ) (hκ : Keeps κ s) :
    Keeps κ (State.runSlot s k) := by
  unfold State.runSlot; grind [keeps_eq]

grind_pattern State.runSlot_keeps => State.runSlot s k, Keeps κ s

theorem State.bootLogbook_keeps (κ : List Instr × Bool × Tap) (s : State) (hκ : Keeps κ s) :
    Keeps κ (State.bootLogbook s) := by
  unfold State.bootLogbook; grind [State.enterConfig_keeps, keeps_eq]

grind_pattern State.bootLogbook_keeps => State.bootLogbook s, Keeps κ s

theorem State.startImageFrom_keeps (κ : List Instr × Bool × Tap) (s : State) (source : ℕ) (l : List (BitVec 8)) (hκ : Keeps κ s) :
    Keeps κ (State.startImageFrom s source l) := by
  unfold State.startImageFrom; grind [State.enterConfig_keeps, keeps_eq]

grind_pattern State.startImageFrom_keeps => State.startImageFrom s source l, Keeps κ s

theorem State.boot_keeps (κ : List Instr × Bool × Tap) (s : State) (hκ : Keeps κ s) :
    Keeps κ (State.boot s) := by
  unfold State.boot; grind [State.enterBootMode_keeps, State.startPort_keeps, State.bootLogbook_keeps, foldl_keeps, keeps_eq]

grind_pattern State.boot_keeps => State.boot s, Keeps κ s

theorem State.strapEvents_keeps (κ : List Instr × Bool × Tap) (s : State) (hκ : Keeps κ s) :
    Keeps κ (State.strapEvents s) := by
  unfold State.strapEvents; grind [keeps_eq]

grind_pattern State.strapEvents_keeps => State.strapEvents s, Keeps κ s

theorem State.selfTestFault_keeps (κ : List Instr × Bool × Tap) (s : State) (d : ℕ) (hκ : Keeps κ s) :
    Keeps κ (State.selfTestFault s d) := by
  unfold State.selfTestFault; grind [keeps_eq]

grind_pattern State.selfTestFault_keeps => State.selfTestFault s d, Keeps κ s

theorem State.setDomain_keeps (κ : List Instr × Bool × Tap) (s : State) (d : ℕ) (x : Domain) (hκ : Keeps κ s) :
    Keeps κ (State.setDomain s d x) := by
  unfold State.setDomain; grind [keeps_eq]

grind_pattern State.setDomain_keeps => State.setDomain s d x, Keeps κ s

theorem State.enterCapture_keeps (κ : List Instr × Bool × Tap) (s : State) (n : ℕ) (hκ : Keeps κ s) :
    Keeps κ (State.enterCapture s n) := by
  unfold State.enterCapture; grind [State.vector_keeps, keeps_eq]

grind_pattern State.enterCapture_keeps => State.enterCapture s n, Keeps κ s

theorem State.disarmCapture_keeps (κ : List Instr × Bool × Tap) (s : State) (hκ : Keeps κ s) :
    Keeps κ (State.disarmCapture s) := by
  unfold State.disarmCapture; grind [keeps_eq]

grind_pattern State.disarmCapture_keeps => State.disarmCapture s, Keeps κ s

theorem State.dropAnnounce_keeps (κ : List Instr × Bool × Tap) (s : State) (p : ℕ) (hκ : Keeps κ s) :
    Keeps κ (State.dropAnnounce s p) := by
  unfold State.dropAnnounce; grind [keeps_eq]

grind_pattern State.dropAnnounce_keeps => State.dropAnnounce s p, Keeps κ s

theorem State.idlePort_keeps (κ : List Instr × Bool × Tap) (s : State) (p : ℕ) (hκ : Keeps κ s) :
    Keeps κ (State.idlePort s p) := by
  unfold State.idlePort; grind [keeps_eq]

grind_pattern State.idlePort_keeps => State.idlePort s p, Keeps κ s

theorem State.respond_keeps (κ : List Instr × Bool × Tap) (s : State) (k : ℕ) (p : Pkt) (op : ℕ) (offset : ℕ) (status : ℕ) (data : List Sys2Proof.Word) (hκ : Keeps κ s) :
    Keeps κ (State.respond s k p op offset status data) := by
  unfold State.respond; grind [State.engine_memoryWf, → Keeps.memoryWf, Engine.memoryWf_eq, keeps_eq]

grind_pattern State.respond_keeps => State.respond s k p op offset status data, Keeps κ s

theorem State.answer_keeps (κ : List Instr × Bool × Tap) (s : State) (k : ℕ) (p : Pkt) (status : ℕ) (data : List Sys2Proof.Word) (hκ : Keeps κ s) :
    Keeps κ (State.answer s k p status data) := by
  unfold State.answer; grind [keeps_eq]

grind_pattern State.answer_keeps => State.answer s k p status data, Keeps κ s

theorem State.lostFlit_keeps (κ : List Instr × Bool × Tap) (s : State) (p : ℕ) (v : ℕ) (x : NFlit) (hκ : Keeps κ s) :
    Keeps κ (State.lostFlit s p v x) := by
  unfold State.lostFlit
  exact keeps_ite hκ (keeps_ite (State.answer_keeps κ _ _ _ _ _ hκ) (keeps_ite (State.discard_keeps κ _ _ hκ)
    (State.sendToken_keeps κ _ _ _ _ _ _ _ hκ)))

grind_pattern State.lostFlit_keeps => State.lostFlit s p v x, Keeps κ s

theorem State.emptyStaging_keeps (κ : List Instr × Bool × Tap) (s : State) (p : ℕ) (hκ : Keeps κ s) :
    Keeps κ (State.emptyStaging s p) := by
  unfold State.emptyStaging; grind [keeps_eq]

grind_pattern State.emptyStaging_keeps => State.emptyStaging s p, Keeps κ s

theorem State.setCeilings_keeps (κ : List Instr × Bool × Tap) (s : State) (f : ℕ) (c : ℕ) (hκ : Keeps κ s) :
    Keeps κ (State.setCeilings s f c) := by
  unfold State.setCeilings; grind [State.tu_memoryWf, → Keeps.memoryWf, TokenUnit.restart_memoryWf, keeps_eq]

grind_pattern State.setCeilings_keeps => State.setCeilings s f c, Keeps κ s

theorem State.writeLocals_keeps (κ : List Instr × Bool × Tap) (s : State) (g : ℕ) (v1 : ℕ) (v2 : List Sys2Proof.Word) (hκ : Keeps κ s) :
    Keeps κ (State.writeLocals s g v1 v2) := by
  fun_induction State.writeLocals s g v1 v2 <;> grind [keeps_eq]

grind_pattern State.writeLocals_keeps => State.writeLocals s g v1 v2, Keeps κ s

theorem State.unitRead_keeps (κ : List Instr × Bool × Tap) (s : State) (g : ℕ) (adr : ℕ) (hκ : Keeps κ s) :
    Keeps κ (State.unitRead s g adr).2 := by
  unfold State.unitRead; grind [keeps_eq]

grind_pattern State.unitRead_keeps => State.unitRead s g adr, Keeps κ s

theorem State.unitReads_keeps (κ : List Instr × Bool × Tap) (s : State) (g : ℕ) (v1 : ℕ) (v2 : ℕ) (hκ : Keeps κ s) :
    Keeps κ (State.unitReads s g v1 v2).2 := by
  fun_induction State.unitReads s g v1 v2 <;> grind [keeps_eq]

grind_pattern State.unitReads_keeps => State.unitReads s g v1 v2, Keeps κ s

theorem State.readDesc_keeps (κ : List Instr × Bool × Tap) (s : State) (g : ℕ) (n : ℕ) (hκ : Keeps κ s) :
    Keeps κ (State.readDesc s g n).2 := by
  unfold State.readDesc; grind [keeps_eq]

grind_pattern State.readDesc_keeps => State.readDesc s g n, Keeps κ s

theorem State.changeBits_keeps (κ : List Instr × Bool × Tap) (s : State) (g : ℕ) (f : ℕ) (base : ℕ) (e : ℕ) (a : ℕ) (hκ : Keeps κ s) :
    Keeps κ (State.changeBits s g f base e a).2 := by
  fun_induction State.changeBits s g f base e a <;> grind [keeps_eq]

grind_pattern State.changeBits_keeps => State.changeBits s g f base e a, Keeps κ s

theorem State.fillFirst_keeps (κ : List Instr × Bool × Tap) (s : State) (g : ℕ) (f : ℕ) (q : ℕ) (n : ℕ) (e : ℕ) (hκ : Keeps κ s) :
    Keeps κ (State.fillFirst s g f q n e) := by
  unfold State.fillFirst; grind [keeps_eq]

grind_pattern State.fillFirst_keeps => State.fillFirst s g f q n e, Keeps κ s

theorem State.fillAgain_keeps (κ : List Instr × Bool × Tap) (s : State) (g : ℕ) (q : ℕ) (n : ℕ) (e : ℕ) (hκ : Keeps κ s) :
    Keeps κ (State.fillAgain s g q n e) := by
  unfold State.fillAgain; grind [keeps_eq]

grind_pattern State.fillAgain_keeps => State.fillAgain s g q n e, Keeps κ s

theorem State.enterQueue_keeps (κ : List Instr × Bool × Tap) (s : State) (g : ℕ) (f : ℕ) (q : ℕ) (x : Waiting) (hκ : Keeps κ s) :
    Keeps κ (State.enterQueue s g f q x) := by
  unfold State.enterQueue; grind [State.tu_memoryWf, → Keeps.memoryWf, TokenUnit.restart_memoryWf, keeps_eq]

grind_pattern State.enterQueue_keeps => State.enterQueue s g f q x, Keeps κ s

theorem State.enqueue_keeps (κ : List Instr × Bool × Tap) (s : State) (g : ℕ) (f : ℕ) (x : Waiting) (hκ : Keeps κ s) :
    Keeps κ (State.enqueue s g f x) := by
  unfold State.enqueue; grind [State.tu_memoryWf, → Keeps.memoryWf, TokenUnit.restart_memoryWf, keeps_eq]

grind_pattern State.enqueue_keeps => State.enqueue s g f x, Keeps κ s

theorem State.resolve_keeps (κ : List Instr × Bool × Tap) (s : State) (g : ℕ) (f : ℕ) (d : Desc) (e : ℕ) (i : ℕ) (hκ : Keeps κ s) :
    Keeps κ (State.resolve s g f d e i).2 := by
  unfold State.resolve; grind [keeps_eq]

grind_pattern State.resolve_keeps => State.resolve s g f d e i, Keeps κ s

theorem State.resolveAll_keeps (κ : List Instr × Bool × Tap) (s : State) (g : ℕ) (f : ℕ) (d : Desc) (e : ℕ) (a : ℕ) (hκ : Keeps κ s) :
    Keeps κ (State.resolveAll s g f d e a).2 := by
  fun_induction State.resolveAll s g f d e a <;> grind [keeps_eq]

grind_pattern State.resolveAll_keeps => State.resolveAll s g f d e a, Keeps κ s

theorem State.markSlot_keeps (κ : List Instr × Bool × Tap) (s : State) (g : ℕ) (f : ℕ) (n : ℕ) (slot : ℕ) (e : ℕ) (hκ : Keeps κ s) :
    Keeps κ (State.markSlot s g f n slot e).2 := by
  unfold State.markSlot; grind [keeps_eq]

grind_pattern State.markSlot_keeps => State.markSlot s g f n slot e, Keeps κ s

theorem State.fanoutEvent_keeps (κ : List Instr × Bool × Tap) (s : State) (g : ℕ) (code : ℕ) (node : ℕ) (j : ℕ) (e : ℕ) (hκ : Keeps κ s) :
    Keeps κ (State.fanoutEvent s g code node j e) := by
  unfold State.fanoutEvent; grind [keeps_eq]

grind_pattern State.fanoutEvent_keeps => State.fanoutEvent s g code node j e, Keeps κ s

theorem State.quietWalk_keeps (κ : List Instr × Bool × Tap) (s : State) (g : ℕ) (f : ℕ) (d : Desc) (n : ℕ) (e : ℕ) (v1 : ℕ) (v2 : ℕ) (hκ : Keeps κ s) :
    Keeps κ (State.quietWalk s g f d n e v1 v2).2 := by
  fun_induction State.quietWalk s g f d n e v1 v2 <;> grind [keeps_eq]

grind_pattern State.quietWalk_keeps => State.quietWalk s g f d n e v1 v2, Keeps κ s

theorem State.markHandled_keeps (κ : List Instr × Bool × Tap) (s : State) (g : ℕ) (n : ℕ) (e : ℕ) (hκ : Keeps κ s) :
    Keeps κ (State.markHandled s g n e) := by
  unfold State.markHandled; grind [State.tu_memoryWf, → Keeps.memoryWf, TokenUnit.restart_memoryWf, keeps_eq]

grind_pattern State.markHandled_keeps => State.markHandled s g n e, Keeps κ s

theorem State.keepValues_keeps (κ : List Instr × Bool × Tap) (s : State) (g : ℕ) (base : ℕ) (l : List Sys2Proof.Word) (hκ : Keeps κ s) :
    Keeps κ (State.keepValues s g base l) := by
  unfold State.keepValues; grind [State.tu_memoryWf, → Keeps.memoryWf, TokenUnit.restart_memoryWf, keeps_eq]

grind_pattern State.keepValues_keeps => State.keepValues s g base l, Keeps κ s

theorem State.count_keeps (κ : List Instr × Bool × Tap) (s : State) (g : ℕ) (sub : ℕ) (n : ℕ) (hκ : Keeps κ s) :
    Keeps κ (State.count s g sub n).1 := by
  unfold State.count; grind [keeps_eq]

grind_pattern State.count_keeps => State.count s g sub n, Keeps κ s

theorem State.tick1_keeps (κ : List Instr × Bool × Tap) (s : State) (g : ℕ) (sub : ℕ) (hκ : Keeps κ s) :
    Keeps κ (State.tick1 s g sub) := by
  unfold State.tick1; grind [keeps_eq]

grind_pattern State.tick1_keeps => State.tick1 s g sub, Keeps κ s

theorem State.evaluate_keeps (κ : List Instr × Bool × Tap) (s : State) (g : ℕ) (f : ℕ) (n : ℕ) (hκ : Keeps κ s) :
    Keeps κ (State.evaluate s g f n).2 := by
  unfold State.evaluate; grind [keeps_eq]

grind_pattern State.evaluate_keeps => State.evaluate s g f n, Keeps κ s

theorem State.evaluateAll_keeps (κ : List Instr × Bool × Tap) (s : State) (g : ℕ) (f : ℕ) (v1 : ℕ) (v2 : List ℕ) (hκ : Keeps κ s) :
    Keeps κ (State.evaluateAll s g f v1 v2) := by
  fun_induction State.evaluateAll s g f v1 v2 <;> grind [keeps_eq]

grind_pattern State.evaluateAll_keeps => State.evaluateAll s g f v1 v2, Keeps κ s

theorem State.sweep_keeps (κ : List Instr × Bool × Tap) (s : State) (g : ℕ) (hκ : Keeps κ s) :
    Keeps κ (State.sweep s g) := by
  unfold State.sweep; grind [keeps_eq]

grind_pattern State.sweep_keeps => State.sweep s g, Keeps κ s

theorem State.agreeHalt_keeps (κ : List Instr × Bool × Tap) (s : State) (f : ℕ) (h : ℕ) (hκ : Keeps κ s) :
    Keeps κ (State.agreeHalt s f h) := by
  unfold State.agreeHalt; grind [keeps_eq]

grind_pattern State.agreeHalt_keeps => State.agreeHalt s f h, Keeps κ s

theorem State.haltReplies_keeps (κ : List Instr × Bool × Tap) (s : State) (f : ℕ) (hκ : Keeps κ s) :
    Keeps κ (State.haltReplies s f) := by
  unfold State.haltReplies; grind [keeps_eq]

grind_pattern State.haltReplies_keeps => State.haltReplies s f, Keeps κ s

theorem State.halt_keeps (κ : List Instr × Bool × Tap) (s : State) (f : ℕ) (hreq : ℕ) (hκ : Keeps κ s) :
    Keeps κ (State.halt s f hreq) := by
  unfold State.halt; grind [keeps_eq]

grind_pattern State.halt_keeps => State.halt s f hreq, Keeps κ s

theorem State.rootHalt_keeps (κ : List Instr × Bool × Tap) (s : State) (f : ℕ) (hκ : Keeps κ s) :
    Keeps κ (State.rootHalt s f) := by
  unfold State.rootHalt; grind [keeps_eq]

grind_pattern State.rootHalt_keeps => State.rootHalt s f, Keeps κ s

theorem State.haltEdges_keeps (κ : List Instr × Bool × Tap) (s : State) (p : ℕ) (hκ : Keeps κ s) :
    Keeps κ (State.haltEdges s p) := by
  unfold State.haltEdges; grind [keeps_eq]

grind_pattern State.haltEdges_keeps => State.haltEdges s p, Keeps κ s

theorem State.loseEdges_keeps (κ : List Instr × Bool × Tap) (s : State) (p : ℕ) (halts : Bool) (hκ : Keeps κ s) :
    Keeps κ (State.loseEdges s p halts) := by
  unfold State.loseEdges; grind [keeps_eq]

grind_pattern State.loseEdges_keeps => State.loseEdges s p halts, Keeps κ s

theorem State.containPort_keeps (κ : List Instr × Bool × Tap) (s : State) (p : ℕ) (hκ : Keeps κ s) :
    Keeps κ (State.containPort s p) := by
  unfold State.containPort; grind [keeps_eq]

grind_pattern State.containPort_keeps => State.containPort s p, Keeps κ s

theorem State.containDomain_keeps (κ : List Instr × Bool × Tap) (s : State) (d : ℕ) (hκ : Keeps κ s) :
    Keeps κ (State.containDomain s d) := by
  unfold State.containDomain; grind [keeps_eq]

grind_pattern State.containDomain_keeps => State.containDomain s d, Keeps κ s

theorem State.bistFault_keeps (κ : List Instr × Bool × Tap) (s : State) (d : ℕ) (hκ : Keeps κ s) :
    Keeps κ (State.bistFault s d) := by
  unfold State.bistFault; grind [keeps_eq]

grind_pattern State.bistFault_keeps => State.bistFault s d, Keeps κ s

theorem State.selfTest_keeps (κ : List Instr × Bool × Tap) (s : State) (tests : Sys2Proof.SelfTest) (hκ : Keeps κ s) :
    Keeps κ (State.selfTest s tests) := by
  have h : Keeps κ ({ s with startStep := 5 }.enterDev .selftest) := State.enterDev_keeps κ _ _ hκ
  have h2 := foldl_keeps κ (fun s (d : BitVec 6) => (s.containDomain d.toNat).selfTestFault d.toNat)
    (fun s d w => State.selfTestFault_keeps κ _ _ (State.containDomain_keeps κ _ _ w)) (tests.failed.filter (fun d => decide (d.toNat < 40))) _ h
  have h3 := foldl_keeps κ (fun s (d : BitVec 6) => s.bistFault d.toNat) (fun s d w => State.bistFault_keeps κ s _ w)
    (tests.bist.filter (fun d => decide (d.toNat < 40))) _ h2
  unfold State.selfTest
  split
  · exact State.raise_keeps κ _ _ _ _ _ _ (State.fresh_keeps κ _ (State.fresh_keeps κ _ h3))
  · exact h3

grind_pattern State.selfTest_keeps => State.selfTest s tests, Keeps κ s

theorem State.releaseEarly_keeps (κ : List Instr × Bool × Tap) (s : State) (hκ : Keeps κ s) :
    Keeps κ (State.releaseEarly s) := by
  unfold State.releaseEarly; grind [foldl_keeps, keeps_eq]

grind_pattern State.releaseEarly_keeps => State.releaseEarly s, Keeps κ s

theorem State.scanLogbook_keeps (κ : List Instr × Bool × Tap) (s : State) (hκ : Keeps κ s) :
    Keeps κ (State.scanLogbook s) := by
  unfold State.scanLogbook; grind [State.releaseEarly_keeps, keeps_eq]

grind_pattern State.scanLogbook_keeps => State.scanLogbook s, Keeps κ s

theorem State.managementStart_keeps (κ : List Instr × Bool × Tap) (s : State) (hκ : Keeps κ s) :
    Keeps κ (State.managementStart s) := by
  unfold State.managementStart
  extract_lets s1 c1 s2 s3 s4 s5
  have h3 : Keeps κ s3 := foldl_keeps κ _ (fun s x w => State.setCore_keeps κ s _ _ w) _ _ (show Keeps κ s2 from hκ)
  have h4 : Keeps κ s4 := keeps_ite (State.raiseFree_keeps κ _ _ _ h3) h3
  exact State.boot_keeps κ _ (State.scanLogbook_keeps κ _ (State.setObj_keeps κ _ _ _ _ h4))

grind_pattern State.managementStart_keeps => State.managementStart s, Keeps κ s

theorem State.bootCtrl_keeps (κ : List Instr × Bool × Tap) (s : State) (length : BitVec 24) (hκ : Keeps κ s) :
    Keeps κ (State.bootCtrl s length) := by
  unfold State.bootCtrl; grind [State.startImageFrom_keeps, keeps_eq]

grind_pattern State.bootCtrl_keeps => State.bootCtrl s length, Keeps κ s

theorem State.writeDmaReg_keeps (κ : List Instr × Bool × Tap) (s : State) (c : ℕ) (o : ℕ) (v : BitVec 32) (hκ : Keeps κ s) :
    Keeps κ (State.writeDmaReg s c o v) := by
  unfold State.writeDmaReg; grind [keeps_eq]

grind_pattern State.writeDmaReg_keeps => State.writeDmaReg s c o v, Keeps κ s

theorem State.wantClock_keeps (κ : List Instr × Bool × Tap) (s : State) (c : ℕ) (mhz : ℕ) (hκ : Keeps κ s) :
    Keeps κ (State.wantClock s c mhz) := by
  unfold State.wantClock; grind [State.cluster_memoryWf, → Keeps.memoryWf, Cluster.memoryWf_eq, keeps_eq]

grind_pattern State.wantClock_keeps => State.wantClock s c mhz, Keeps κ s

theorem State.clockRequestStep_keeps (κ : List Instr × Bool × Tap) (s : State) (c : ℕ) (mhz : ℕ) (hκ : Keeps κ s) :
    Keeps κ (State.clockRequestStep s c mhz) := by
  unfold State.clockRequestStep; grind [keeps_eq]

grind_pattern State.clockRequestStep_keeps => State.clockRequestStep s c mhz, Keeps κ s

theorem State.captureEnd_keeps (κ : List Instr × Bool × Tap) (s : State) (hκ : Keeps κ s) :
    Keeps κ (State.captureEnd s) := by
  unfold State.captureEnd; grind [keeps_eq]

grind_pattern State.captureEnd_keeps => State.captureEnd s, Keeps κ s

theorem State.setTraceBuf_keeps (κ : List Instr × Bool × Tap) (s : State) (b : ℕ) (x : TraceBuf) (hκ : Keeps κ s) :
    Keeps κ (State.setTraceBuf s b x) := by
  unfold State.setTraceBuf; grind [keeps_eq]

grind_pattern State.setTraceBuf_keeps => State.setTraceBuf s b x, Keeps κ s

theorem State.stopBuf_keeps (κ : List Instr × Bool × Tap) (s : State) (b : ℕ) (hκ : Keeps κ s) :
    Keeps κ (State.stopBuf s b) := by
  unfold State.stopBuf; grind [keeps_eq]

grind_pattern State.stopBuf_keeps => State.stopBuf s b, Keeps κ s

theorem State.putRecord_keeps (κ : List Instr × Bool × Tap) (s : State) (b : ℕ) (bits : BitVec 216) (hκ : Keeps κ s) :
    Keeps κ (State.putRecord s b bits) := by
  unfold State.putRecord; grind [keeps_eq]

grind_pattern State.putRecord_keeps => State.putRecord s b bits, Keeps κ s

theorem State.fireTrigger_keeps (κ : List Instr × Bool × Tap) (s : State) (n : ℕ) (tok : BitVec 96) (epoch : ℕ) (hκ : Keeps κ s) :
    Keeps κ (State.fireTrigger s n tok epoch) := by
  unfold State.fireTrigger; grind [State.captureEnd_keeps, State.enterCapture_keeps, State.stopBuf_keeps, State.setTraceBuf_keeps, State.putRecord_keeps, foldl_keeps, keeps_eq]

grind_pattern State.fireTrigger_keeps => State.fireTrigger s n tok epoch, Keeps κ s

theorem State.recheckTriggers_keeps (κ : List Instr × Bool × Tap) (s : State) (hκ : Keeps κ s) :
    Keeps κ (State.recheckTriggers s) := by
  unfold State.recheckTriggers; grind [keeps_eq]

grind_pattern State.recheckTriggers_keeps => State.recheckTriggers s, Keeps κ s

theorem State.setCapture_keeps (κ : List Instr × Bool × Tap) (s : State) (on : Bool) (hκ : Keeps κ s) :
    Keeps κ (State.setCapture s on).2 := by
  unfold State.setCapture; grind [State.setObj_keeps, State.recheckTriggers_keeps, State.enterCapture_keeps, keeps_eq]

grind_pattern State.setCapture_keeps => State.setCapture s on, Keeps κ s

theorem State.clearStrobes_keeps (κ : List Instr × Bool × Tap) (s : State) (hκ : Keeps κ s) :
    Keeps κ (State.clearStrobes s) := by
  unfold State.clearStrobes; grind [keeps_eq]

grind_pattern State.clearStrobes_keeps => State.clearStrobes s, Keeps κ s

theorem State.clearPinned_keeps (κ : List Instr × Bool × Tap) (s : State) (hκ : Keeps κ s) :
    Keeps κ (State.clearPinned s).2 := by
  unfold State.clearPinned; grind [keeps_eq]

grind_pattern State.clearPinned_keeps => State.clearPinned s, Keeps κ s

theorem State.writeArm_keeps (κ : List Instr × Bool × Tap) (s : State) (v : ℕ) (hκ : Keeps κ s) :
    Keeps κ (State.writeArm s v).2 := by
  unfold State.writeArm; grind [State.setObj_keeps, keeps_eq]

grind_pattern State.writeArm_keeps => State.writeArm s v, Keeps κ s

theorem State.refuseTxn_keeps (κ : List Instr × Bool × Tap) (s : State) (e : ℕ × ℕ × ℕ) (hκ : Keeps κ s) :
    Keeps κ (State.refuseTxn s e) := by
  unfold State.refuseTxn; grind [State.endTxn_keeps, keeps_eq]

grind_pattern State.refuseTxn_keeps => State.refuseTxn s e, Keeps κ s

theorem State.commitTxn_keeps (κ : List Instr × Bool × Tap) (s : State) (path : Sys2Proof.Path) (seq : BitVec 16) (hκ : Keeps κ s) :
    Keeps κ (State.commitTxn s path seq).2 := by
  unfold State.commitTxn; grind [State.refuseTxn_keeps, keeps_eq]

grind_pattern State.commitTxn_keeps => State.commitTxn s path seq, Keeps κ s

theorem State.rollbackTxn_keeps (κ : List Instr × Bool × Tap) (s : State) (seq : BitVec 16) (hκ : Keeps κ s) :
    Keeps κ (State.rollbackTxn s seq).2 := by
  unfold State.rollbackTxn; grind [keeps_eq]

grind_pattern State.rollbackTxn_keeps => State.rollbackTxn s seq, Keeps κ s

theorem State.begin_keeps (κ : List Instr × Bool × Tap) (s : State) (path : Sys2Proof.Path) (hκ : Keeps κ s) :
    Keeps κ (State.begin s path).2 := by
  unfold State.begin; grind [State.setObj_keeps, keeps_eq]

grind_pattern State.begin_keeps => State.begin s path, Keeps κ s

theorem State.txnControl_keeps (κ : List Instr × Bool × Tap) (s : State) (path : Sys2Proof.Path) (v : ℕ) (hκ : Keeps κ s) :
    Keeps κ (State.txnControl s path v).2 := by
  unfold State.txnControl; grind [keeps_eq]

grind_pattern State.txnControl_keeps => State.txnControl s path v, Keeps κ s

theorem State.saveDefaults_keeps (κ : List Instr × Bool × Tap) (s : State) (hκ : Keeps κ s) :
    Keeps κ (State.saveDefaults s) := by
  unfold State.saveDefaults; grind [keeps_eq]

grind_pattern State.saveDefaults_keeps => State.saveDefaults s, Keeps κ s

theorem State.requestSave_keeps (κ : List Instr × Bool × Tap) (s : State) (hκ : Keeps κ s) :
    Keeps κ (State.requestSave s).2 := by
  unfold State.requestSave; grind [keeps_eq]

grind_pattern State.requestSave_keeps => State.requestSave s, Keeps κ s

theorem State.enterUpdate_keeps (κ : List Instr × Bool × Tap) (s : State) (n : ℕ) (hκ : Keeps κ s) :
    Keeps κ (State.enterUpdate s n) := by
  unfold State.enterUpdate; grind [State.vector_keeps, keeps_eq]

grind_pattern State.enterUpdate_keeps => State.enterUpdate s n, Keeps κ s

theorem State.requestSwitch_keeps (κ : List Instr × Bool × Tap) (s : State) (hκ : Keeps κ s) :
    Keeps κ (State.requestSwitch s).2 := by
  unfold State.requestSwitch; grind [keeps_eq]

grind_pattern State.requestSwitch_keeps => State.requestSwitch s, Keeps κ s

theorem State.writeCounter_keeps (κ : List Instr × Bool × Tap) (s : State) (ix : ℕ) (sub : ℕ) (v : ℕ) (hκ : Keeps κ s) :
    Keeps κ (State.writeCounter s ix sub v) := by
  unfold State.writeCounter; grind [keeps_eq]

grind_pattern State.writeCounter_keeps => State.writeCounter s ix sub v, Keeps κ s

theorem State.setStatus_keeps (κ : List Instr × Bool × Tap) (s : State) (src : ℕ) (v : ℕ) (hκ : Keeps κ s) :
    Keeps κ (State.setStatus s src v) := by
  unfold State.setStatus; grind [keeps_eq]

grind_pattern State.setStatus_keeps => State.setStatus s src v, Keeps κ s

theorem State.emcyNow_keeps (κ : List Instr × Bool × Tap) (s : State) (code : ℕ) (src : ℕ) (event : ℕ) (hκ : Keeps κ s) :
    Keeps κ (State.emcyNow s code src event) := by
  unfold State.emcyNow; grind [State.bump_keeps, State.put_keeps, keeps_eq]

grind_pattern State.emcyNow_keeps => State.emcyNow s code src event, Keeps κ s

theorem State.emcy_keeps (κ : List Instr × Bool × Tap) (s : State) (code : ℕ) (src : ℕ) (event : ℕ) (hκ : Keeps κ s) :
    Keeps κ (State.emcy s code src event) := by
  unfold State.emcy; grind [keeps_eq]

grind_pattern State.emcy_keeps => State.emcy s code src event, Keeps κ s

theorem State.afterClear_keeps (κ : List Instr × Bool × Tap) (s : State) (before : Bool) (hκ : Keeps κ s) :
    Keeps κ (State.afterClear s before) := by
  unfold State.afterClear; grind [State.emcy_keeps, keeps_eq]

grind_pattern State.afterClear_keeps => State.afterClear s before, Keeps κ s

theorem State.clearStatus_keeps (κ : List Instr × Bool × Tap) (s : State) (src : ℕ) (mask : ℕ) (hκ : Keeps κ s) :
    Keeps κ (State.clearStatus s src mask) := by
  unfold State.clearStatus; grind [State.setStatus_keeps, State.afterClear_keeps, keeps_eq]

grind_pattern State.clearStatus_keeps => State.clearStatus s src mask, Keeps κ s

theorem State.noteRequest_keeps (κ : List Instr × Bool × Tap) (s : State) (d : ℕ) (req : ℕ) (hκ : Keeps κ s) :
    Keeps κ (State.noteRequest s d req) := by
  unfold State.noteRequest; grind [keeps_eq]

grind_pattern State.noteRequest_keeps => State.noteRequest s d req, Keeps κ s

theorem State.abortDma_keeps (κ : List Instr × Bool × Tap) (s : State) (hκ : Keeps κ s) :
    Keeps κ (State.abortDma s) := by
  unfold State.abortDma; grind [keeps_eq]

grind_pattern State.abortDma_keeps => State.abortDma s, Keeps κ s

theorem State.quiesce_keeps (κ : List Instr × Bool × Tap) (s : State) (d : ℕ) (reset : Bool) (hκ : Keeps κ s) :
    Keeps κ (State.quiesce s d reset) := by
  unfold State.quiesce; grind [keeps_eq]

grind_pattern State.quiesce_keeps => State.quiesce s d reset, Keeps κ s

theorem State.requestReset_keeps (κ : List Instr × Bool × Tap) (s : State) (d : ℕ) (hκ : Keeps κ s) :
    Keeps κ (State.requestReset s d).2 := by
  unfold State.requestReset; grind [keeps_eq]

grind_pattern State.requestReset_keeps => State.requestReset s d, Keeps κ s

theorem State.domainLive_keeps (κ : List Instr × Bool × Tap) (s : State) (d : ℕ) (hκ : Keeps κ s) :
    Keeps κ (State.domainLive s d) := by
  unfold State.domainLive; grind [keeps_eq]

grind_pattern State.domainLive_keeps => State.domainLive s d, Keeps κ s

theorem State.countSequence_keeps (κ : List Instr × Bool × Tap) (s : State) (d : ℕ) (hκ : Keeps κ s) :
    Keeps κ (State.countSequence s d) := by
  unfold State.countSequence; grind [keeps_eq]

grind_pattern State.countSequence_keeps => State.countSequence s d, Keeps κ s

theorem State.requestInflate_keeps (κ : List Instr × Bool × Tap) (s : State) (d : ℕ) (hκ : Keeps κ s) :
    Keeps κ (State.requestInflate s d).2 := by
  unfold State.requestInflate; grind [keeps_eq]

grind_pattern State.requestInflate_keeps => State.requestInflate s d, Keeps κ s

theorem State.tokenBack_keeps (κ : List Instr × Bool × Tap) (s : State) (g : ℕ) (k : ℕ) (hκ : Keeps κ s) :
    Keeps κ (State.tokenBack s g k) := by
  unfold State.tokenBack; grind [keeps_eq]

grind_pattern State.tokenBack_keeps => State.tokenBack s g k, Keeps κ s

theorem State.setCrossing_keeps (κ : List Instr × Bool × Tap) (s : State) (k : ℕ) (d : ℕ) (v : ℕ) (q : CrossQ) (hκ : Keeps κ s) :
    Keeps κ (State.setCrossing s k d v q) := by
  unfold State.setCrossing; grind [keeps_eq]

grind_pattern State.setCrossing_keeps => State.setCrossing s k d v q, Keeps κ s

theorem State.flushCrossing_keeps (κ : List Instr × Bool × Tap) (s : State) (k : ℕ) (d : ℕ) (hκ : Keeps κ s) :
    Keeps κ (State.flushCrossing s k d) := by
  unfold State.flushCrossing; grind [keeps_eq]

grind_pattern State.flushCrossing_keeps => State.flushCrossing s k d, Keeps κ s

theorem State.endCut_keeps (κ : List Instr × Bool × Tap) (s : State) (k : ℕ) (i : ℕ) (v : ℕ) (u : Bool) (hκ : Keeps κ s) :
    Keeps κ (State.endCut s k i v u) := by
  unfold State.endCut; grind [keeps_eq]

grind_pattern State.endCut_keeps => State.endCut s k i v u, Keeps κ s

theorem State.flushUnit_keeps (κ : List Instr × Bool × Tap) (s : State) (k : ℕ) (v : ℕ) (hκ : Keeps κ s) :
    Keeps κ (State.flushUnit s k v) := by
  unfold State.flushUnit
  extract_lets cut s1 n1 s2 key whole n2 s3
  have h2 : Keeps κ s2 := Keeps.noc (State.setCrossing_keeps κ s k 0 v _ hκ) _
  have h3 : Keeps κ s3 := Keeps.noc h2 _
  exact keeps_ite h2 (keeps_ite (State.endCut_keeps κ _ _ _ _ _ h3) h3)

grind_pattern State.flushUnit_keeps => State.flushUnit s k v, Keeps κ s

theorem State.openInterface_keeps (κ : List Instr × Bool × Tap) (s : State) (c : ℕ) (hκ : Keeps κ s) :
    Keeps κ (State.openInterface s c) := by
  unfold State.openInterface; grind [keeps_eq]

grind_pattern State.openInterface_keeps => State.openInterface s c, Keeps κ s

theorem State.closeInterface_keeps (κ : List Instr × Bool × Tap) (t : State) (c : ℕ) (s : State) (hκ : Keeps κ t) :
    Keeps κ (State.closeInterface t c s) := by
  unfold State.closeInterface; grind [State.cluster_memoryWf, → Keeps.memoryWf, Cluster.memoryWf_eq, keeps_eq]

grind_pattern State.closeInterface_keeps => State.closeInterface t c s, Keeps κ t

theorem State.niAnswer_keeps (κ : List Instr × Bool × Tap) (s : State) (c : ℕ) (p : Pkt) (status : ℕ) (hκ : Keeps κ s) :
    Keeps κ (State.niAnswer s c p status) := by
  unfold State.niAnswer; grind [keeps_eq]

grind_pattern State.niAnswer_keeps => State.niAnswer s c p status, Keeps κ s

theorem State.isolateCluster_keeps (κ : List Instr × Bool × Tap) (s : State) (c : ℕ) (hκ : Keeps κ s) :
    Keeps κ (State.isolateCluster s c) := by
  unfold State.isolateCluster
  extract_lets s1 s2 s3 s4 y
  have h1 : Keeps κ s1 := foldl_keeps κ _ (fun s p w => keeps_ite (State.niAnswer_keeps κ _ _ _ _ w) w) _ _ hκ
  have h2 : Keeps κ s2 := foldl_keeps κ _ (fun s i w =>
    foldl_keeps κ _ (fun s x w => foldl_keeps κ _ (fun s _ w => State.tokenBack_keeps κ _ _ _ w) _ _ w) _ _ w) _ _ h1
  have h3 : Keeps κ s3 := foldl_keeps κ _ (fun s v w => State.flushUnit_keeps κ _ _ _ w) _ _ (State.flushCrossing_keeps κ _ _ _ h2)
  have h4 : Keeps κ s4 := foldl_keeps κ _ (fun s i w => State.resetEngine_keeps κ _ _ w) _ _ h3
  exact State.setCluster_keeps κ _ _ _ (show tabWf _ [] = true by rfl) h4

grind_pattern State.isolateCluster_keeps => State.isolateCluster s c, Keeps κ s

theorem State.flushPort_keeps (κ : List Instr × Bool × Tap) (s : State) (p : ℕ) (hκ : Keeps κ s) :
    Keeps κ (State.flushPort s p) := by
  unfold State.flushPort; grind [keeps_eq]

grind_pattern State.flushPort_keeps => State.flushPort s p, Keeps κ s

theorem State.isolate_keeps (κ : List Instr × Bool × Tap) (s : State) (d : ℕ) (hκ : Keeps κ s) :
    Keeps κ (State.isolate s d) := by
  unfold State.isolate; grind [State.isolateCluster_keeps, keeps_eq]

grind_pattern State.isolate_keeps => State.isolate s d, Keeps κ s

theorem State.leaveDegraded_keeps (κ : List Instr × Bool × Tap) (s : State) (hκ : Keeps κ s) :
    Keeps κ (State.leaveDegraded s) := by
  unfold State.leaveDegraded; grind [keeps_eq]

grind_pattern State.leaveDegraded_keeps => State.leaveDegraded s, Keeps κ s

theorem State.enterOff_keeps (κ : List Instr × Bool × Tap) (s : State) (d : ℕ) (hκ : Keeps κ s) :
    Keeps κ (State.enterOff s d) := by
  unfold State.enterOff; grind [keeps_eq]

grind_pattern State.enterOff_keeps => State.enterOff s d, Keeps κ s

theorem State.requestDeflate_keeps (κ : List Instr × Bool × Tap) (s : State) (d : ℕ) (path : Sys2Proof.Path) (hκ : Keeps κ s) :
    Keeps κ (State.requestDeflate s d path).2 := by
  unfold State.requestDeflate; grind [keeps_eq]

grind_pattern State.requestDeflate_keeps => State.requestDeflate s d path, Keeps κ s

theorem State.domainRequest_keeps (κ : List Instr × Bool × Tap) (s : State) (path : Sys2Proof.Path) (d : ℕ) (req : ℕ) (hκ : Keeps κ s) :
    Keeps κ (State.domainRequest s path d req).2 := by
  unfold State.domainRequest; grind [keeps_eq]

grind_pattern State.domainRequest_keeps => State.domainRequest s path d req, Keeps κ s

theorem State.deviceReset_keeps (κ : List Instr × Bool × Tap) (s : State) (hκ : Keeps κ s) : Keeps κ (State.deviceReset s) :=
  ⟨hκ.1, hκ.2.1, hκ.2.2.1, by rw [State.memoryWf_eq]; exact memOk_reset⟩

grind_pattern State.deviceReset_keeps => State.deviceReset s, Keeps κ s

theorem State.setSlotImage_keeps (κ : List Instr × Bool × Tap) (s : State) (k : ℕ) (x : FwSlot) (hκ : Keeps κ s) :
    Keeps κ (State.setSlotImage s k x) := by
  unfold State.setSlotImage; grind [keeps_eq]

grind_pattern State.setSlotImage_keeps => State.setSlotImage s k x, Keeps κ s

theorem State.writeImage_keeps (κ : List Instr × Bool × Tap) (s : State) (l : List (BitVec 8)) (hκ : Keeps κ s) :
    Keeps κ (State.writeImage s l).2 := by
  unfold State.writeImage; grind [keeps_eq]

grind_pattern State.writeImage_keeps => State.writeImage s l, Keeps κ s

theorem State.resetSource_keeps (κ : List Instr × Bool × Tap) (s : State) (src : ℕ) (hκ : Keeps κ s) :
    Keeps κ (State.resetSource s src) := by
  unfold State.resetSource; grind [State.setStatus_keeps, State.afterClear_keeps, keeps_eq]

grind_pattern State.resetSource_keeps => State.resetSource s src, Keeps κ s

theorem State.setPortEnable_keeps (κ : List Instr × Bool × Tap) (s : State) (p : ℕ) (on : Bool) (hκ : Keeps κ s) :
    Keeps κ (State.setPortEnable s p on) := by
  unfold State.setPortEnable; grind [keeps_eq]

grind_pattern State.setPortEnable_keeps => State.setPortEnable s p on, Keeps κ s

theorem State.writeEffect_keeps (κ : List Instr × Bool × Tap) (s : State) (path : Sys2Proof.Path) (ix : ℕ) (sub : ℕ) (v : ℕ) (bytes : List (BitVec 8)) (hκ : Keeps κ s) :
    Keeps κ (State.writeEffect s path ix sub v bytes).2 := by
  unfold State.writeEffect
  repeat' split
  all_goals grind [State.clockRequestStep_keeps, State.setCapture_keeps, State.clearStrobes_keeps, State.clearPinned_keeps, State.writeArm_keeps, State.txnControl_keeps, State.setObj_keeps, State.requestSave_keeps, State.requestSwitch_keeps, State.recheckTriggers_keeps, State.writeCounter_keeps, State.clearStatus_keeps, State.domainRequest_keeps, State.deviceReset_keeps, keeps_eq]

grind_pattern State.writeEffect_keeps => State.writeEffect s path ix sub v bytes, Keeps κ s

theorem State.stageWrite_keeps (κ : List Instr × Bool × Tap) (s : State) (x : Stage) (hκ : Keeps κ s) :
    Keeps κ (State.stageWrite s x).2 := by
  unfold State.stageWrite; grind [keeps_eq]

grind_pattern State.stageWrite_keeps => State.stageWrite s x, Keeps κ s

theorem State.stageRoute_keeps (κ : List Instr × Bool × Tap) (s : State) (v : ℕ) (hκ : Keeps κ s) :
    Keeps κ (State.stageRoute s v).2 := by
  unfold State.stageRoute; grind [keeps_eq]

grind_pattern State.stageRoute_keeps => State.stageRoute s v, Keeps κ s

theorem State.writeTx_keeps (κ : List Instr × Bool × Tap) (s : State) (path : Sys2Proof.Path) (ix : ℕ) (sub : ℕ) (o : ObjInfo) (bytes : List (BitVec 8)) (hκ : Keeps κ s) :
    Keeps κ (State.writeTx s path ix sub o bytes).2 := by
  unfold State.writeTx; grind [keeps_eq]

grind_pattern State.writeTx_keeps => State.writeTx s path ix sub o bytes, Keeps κ s

theorem State.freshAon_keeps (κ : List Instr × Bool × Tap) (s : State) (array : ℕ) (word : ℕ) (hκ : Keeps κ s) :
    Keeps κ (State.freshAon s array word) := by
  unfold State.freshAon; grind [keeps_eq]

grind_pattern State.freshAon_keeps => State.freshAon s array word, Keeps κ s

theorem State.dictWrite_keeps (κ : List Instr × Bool × Tap) (s : State) (path : Sys2Proof.Path) (ix : ℕ) (sub : ℕ) (bytes : List (BitVec 8)) (hκ : Keeps κ s) :
    Keeps κ (State.dictWrite s path ix sub bytes).2 := by
  unfold State.dictWrite; grind [State.writeEffect_keeps, keeps_eq]

grind_pattern State.dictWrite_keeps => State.dictWrite s path ix sub bytes, Keeps κ s

theorem State.setMb_keeps (κ : List Instr × Bool × Tap) (s : State) (m : Mailbox) (hκ : Keeps κ s) :
    Keeps κ (State.setMb s m) := by
  unfold State.setMb; grind [keeps_eq]

grind_pattern State.setMb_keeps => State.setMb s m, Keeps κ s

theorem State.startImage_keeps (κ : List Instr × Bool × Tap) (s : State) (key : ℕ) (hκ : Keeps κ s) :
    Keeps κ (State.startImage s key) := by
  unfold State.startImage; grind [keeps_eq]

grind_pattern State.startImage_keeps => State.startImage s key, Keeps κ s

theorem State.abortEvent_keeps (κ : List Instr × Bool × Tap) (s : State) (path : Sys2Proof.Path) (ix : ℕ) (sub : ℕ) (code : ℕ) (hκ : Keeps κ s) :
    Keeps κ (State.abortEvent s path ix sub code) := by
  unfold State.abortEvent; grind [keeps_eq]

grind_pattern State.abortEvent_keeps => State.abortEvent s path ix sub code, Keeps κ s

theorem State.mbDone_keeps (κ : List Instr × Bool × Tap) (s : State) (cmd : BitVec 32) (code : ℕ) (hκ : Keeps κ s) :
    Keeps κ (State.mbDone s cmd code) := by
  unfold State.mbDone; grind [keeps_eq]

grind_pattern State.mbDone_keeps => State.mbDone s cmd code, Keeps κ s

theorem State.dropCollect_keeps (κ : List Instr × Bool × Tap) (s : State) (hκ : Keeps κ s) :
    Keeps κ (State.dropCollect s) := by
  unfold State.dropCollect; grind [keeps_eq]

grind_pattern State.dropCollect_keeps => State.dropCollect s, Keeps κ s

theorem State.mbWrite_keeps (κ : List Instr × Bool × Tap) (s : State) (cmd : BitVec 32) (hκ : Keeps κ s) :
    Keeps κ (State.mbWrite s cmd) := by
  unfold State.mbWrite; grind [keeps_eq]

grind_pattern State.mbWrite_keeps => State.mbWrite s cmd, Keeps κ s

theorem State.mbAnswer_keeps (κ : List Instr × Bool × Tap) (s : State) (l : List (BitVec 8)) (hκ : Keeps κ s) :
    Keeps κ (State.mbAnswer s l) := by
  unfold State.mbAnswer; grind [keeps_eq]

grind_pattern State.mbAnswer_keeps => State.mbAnswer s l, Keeps κ s

theorem State.advance_keeps (κ : List Instr × Bool × Tap) (s : State) (ix : ℕ) (sub : ℕ) (hκ : Keeps κ s) :
    Keeps κ (State.advance s ix sub) := by
  unfold State.advance; grind [keeps_eq]

grind_pattern State.advance_keeps => State.advance s ix sub, Keeps κ s

theorem State.readObject_keeps (κ : List Instr × Bool × Tap) (s : State) (ix : ℕ) (sub : ℕ) (hκ : Keeps κ s) :
    Keeps κ (State.readObject s ix sub).2 := by
  unfold State.readObject; grind [keeps_eq]

grind_pattern State.readObject_keeps => State.readObject s ix sub, Keeps κ s

theorem State.mbSource_keeps (κ : List Instr × Bool × Tap) (s : State) (hκ : Keeps κ s) :
    Keeps κ (State.mbSource s).2 := by
  unfold State.mbSource; grind [keeps_eq]

grind_pattern State.mbSource_keeps => State.mbSource s, Keeps κ s

theorem State.mbRead_keeps (κ : List Instr × Bool × Tap) (s : State) (cmd : BitVec 32) (hκ : Keeps κ s) :
    Keeps κ (State.mbRead s cmd) := by
  unfold State.mbRead; grind [keeps_eq]

grind_pattern State.mbRead_keeps => State.mbRead s cmd, Keeps κ s

theorem State.mbServe_keeps (κ : List Instr × Bool × Tap) (s : State) (cmd : BitVec 32) (hκ : Keeps κ s) :
    Keeps κ (State.mbServe s cmd) := by
  unfold State.mbServe; grind [keeps_eq]

grind_pattern State.mbServe_keeps => State.mbServe s cmd, Keeps κ s

theorem State.mbCommand_keeps (κ : List Instr × Bool × Tap) (s : State) (cmd : BitVec 32) (hκ : Keeps κ s) :
    Keeps κ (State.mbCommand s cmd) := by
  unfold State.mbCommand; grind [keeps_eq]

grind_pattern State.mbCommand_keeps => State.mbCommand s cmd, Keeps κ s

theorem State.writeMbReg_keeps (κ : List Instr × Bool × Tap) (s : State) (o : ℕ) (v : BitVec 32) (hκ : Keeps κ s) :
    Keeps κ (State.writeMbReg s o v) := by
  unfold State.writeMbReg; grind [keeps_eq]

grind_pattern State.writeMbReg_keeps => State.writeMbReg s o v, Keeps κ s

theorem State.writeAperture_keeps (κ : List Instr × Bool × Tap) (s : State) (i : ℕ) (hi : Bool) (v : BitVec 32) (hκ : Keeps κ s) :
    Keeps κ (State.writeAperture s i hi v) := by
  unfold State.writeAperture; grind [keeps_eq]

grind_pattern State.writeAperture_keeps => State.writeAperture s i hi v, Keeps κ s

theorem State.writeReg_keeps (κ : List Instr × Bool × Tap) (s : State) (o : ℕ) (v : BitVec 32) (hκ : Keeps κ s) :
    Keeps κ (State.writeReg s o v) := by
  unfold State.writeReg; grind [keeps_eq]

grind_pattern State.writeReg_keeps => State.writeReg s o v, Keeps κ s

theorem State.readPeer_keeps (κ : List Instr × Bool × Tap) (s : State) (p : ℕ) (n : ℕ) (hκ : Keeps κ s) :
    Keeps κ (State.readPeer s p n) := by
  unfold State.readPeer; grind [keeps_eq]

grind_pattern State.readPeer_keeps => State.readPeer s p n, Keeps κ s

theorem State.nextPeer_keeps (κ : List Instr × Bool × Tap) (s : State) (hκ : Keeps κ s) :
    Keeps κ (State.nextPeer s) := by
  unfold State.nextPeer; grind [State.readPeer_keeps, keeps_eq]

grind_pattern State.nextPeer_keeps => State.nextPeer s, Keeps κ s

theorem State.failPeer_keeps (κ : List Instr × Bool × Tap) (s : State) (p : ℕ) (hκ : Keeps κ s) :
    Keeps κ (State.failPeer s p) := by
  unfold State.failPeer; grind [State.nextPeer_keeps, keeps_eq]

grind_pattern State.failPeer_keeps => State.failPeer s p, Keeps κ s

theorem State.peerWords_keeps (κ : List Instr × Bool × Tap) (s : State) (p : ℕ) (l : List Sys2Proof.Word) (hκ : Keeps κ s) :
    Keeps κ (State.peerWords s p l) := by
  unfold State.peerWords; grind [State.readPeer_keeps, State.startImageFrom_keeps, State.failPeer_keeps, keeps_eq]

grind_pattern State.peerWords_keeps => State.peerWords s p l, Keeps κ s

theorem State.popResponse_keeps (κ : List Instr × Bool × Tap) (s : State) (d : Sys2Proof.RspDst) (hκ : Keeps κ s) :
    Keeps κ (State.popResponse s d) := by
  unfold State.popResponse; grind [State.engine_memoryWf, → Keeps.memoryWf, Engine.memoryWf_eq, keeps_eq]

grind_pattern State.popResponse_keeps => State.popResponse s d, Keeps κ s

theorem State.segmentTimeout_keeps (κ : List Instr × Bool × Tap) (s : State) (g : ℕ) (k : ℕ) (hκ : Keeps κ s) :
    Keeps κ (State.segmentTimeout s g k) := by
  unfold State.segmentTimeout; grind [keeps_eq]

grind_pattern State.segmentTimeout_keeps => State.segmentTimeout s g k, Keeps κ s

theorem State.traceDone_keeps (κ : List Instr × Bool × Tap) (s : State) (g : ℕ) (hκ : Keeps κ s) :
    Keeps κ (State.traceDone s g) := by
  unfold State.traceDone; grind [State.tu_memoryWf, → Keeps.memoryWf, TokenUnit.restart_memoryWf, keeps_eq]

grind_pattern State.traceDone_keeps => State.traceDone s g, Keeps κ s

theorem State.engineResponse_keeps (κ : List Instr × Bool × Tap) (s : State) (g : ℕ) (p : Pkt) (badData : Bool) (hκ : Keeps κ s) :
    Keeps κ (State.engineResponse s g p badData) := by
  unfold State.engineResponse; grind [keeps_eq]

grind_pattern State.engineResponse_keeps => State.engineResponse s g p badData, Keeps κ s

theorem State.checkData_keeps (κ : List Instr × Bool × Tap) (s : State) (t : Sys2Proof.Target) (a : List (BitVec 192)) (hκ : Keeps κ s) :
    Keeps κ (State.checkData s t a).2 := by
  fun_induction State.checkData s t a <;> grind [keeps_eq]

grind_pattern State.checkData_keeps => State.checkData s t a, Keeps κ s

theorem State.checkResponseData_keeps (κ : List Instr × Bool × Tap) (s : State) (d : Sys2Proof.RspDst) (p : Pkt) (hκ : Keeps κ s) :
    Keeps κ (State.checkResponseData s d p).2 := by
  unfold State.checkResponseData; grind [keeps_eq]

grind_pattern State.checkResponseData_keeps => State.checkResponseData s d p, Keeps κ s

theorem State.checkResponse_keeps (κ : List Instr × Bool × Tap) (s : State) (d : Sys2Proof.RspDst) (p : Pkt) (hκ : Keeps κ s) :
    Keeps κ (State.checkResponse s d p).2 := by
  unfold State.checkResponse; grind [keeps_eq]

grind_pattern State.checkResponse_keeps => State.checkResponse s d p, Keeps κ s

theorem State.takeResponse_keeps (κ : List Instr × Bool × Tap) (s : State) (d : Sys2Proof.RspDst) (op : ℕ) (hκ : Keeps κ s) :
    Keeps κ (State.takeResponse s d op) := by
  unfold State.takeResponse; grind [keeps_eq]

grind_pattern State.takeResponse_keeps => State.takeResponse s d op, Keeps κ s

theorem State.bootResponse_keeps (κ : List Instr × Bool × Tap) (s : State) (hκ : Keeps κ s) :
    Keeps κ (State.bootResponse s) := by
  unfold State.bootResponse; grind [keeps_eq]

grind_pattern State.bootResponse_keeps => State.bootResponse s, Keeps κ s

theorem State.requestHalt_keeps (κ : List Instr × Bool × Tap) (s : State) (f : ℕ) (hκ : Keeps κ s) :
    Keeps κ (State.requestHalt s f) := by
  unfold State.requestHalt; grind [keeps_eq]

grind_pattern State.requestHalt_keeps => State.requestHalt s f, Keeps κ s

theorem State.report_keeps (κ : List Instr × Bool × Tap) (s : State) (path : Sys2Proof.Path) (ix : ℕ) (sub : ℕ) (code : ℕ) (bytes : List (BitVec 8)) (hκ : Keeps κ s) :
    Keeps κ (State.report s path ix sub code bytes) := by
  unfold State.report
  cases path
  · exact State.abortEvent_keeps κ _ _ _ _ _ (State.put_keeps κ { s with reply := _ } _ hκ)
  · exact State.mbDone_keeps κ { s with reply := _ } _ _ hκ

grind_pattern State.report_keeps => State.report s path ix sub code bytes, Keeps κ s

theorem State.canRead_keeps (κ : List Instr × Bool × Tap) (s : State) (ix : ℕ) (sub : ℕ) (hκ : Keeps κ s) :
    Keeps κ (State.canRead s ix sub) := by
  unfold State.canRead; grind [keeps_eq]

grind_pattern State.canRead_keeps => State.canRead s ix sub, Keeps κ s

theorem State.serveAccess_keeps (κ : List Instr × Bool × Tap) (s : State) (path : Sys2Proof.Path) (ix : ℕ) (sub : ℕ) (bytes : List (BitVec 8)) (hκ : Keeps κ s) :
    Keeps κ (State.serveAccess s path ix sub bytes) := by
  unfold State.serveAccess; grind [keeps_eq]

grind_pattern State.serveAccess_keeps => State.serveAccess s path ix sub bytes, Keeps κ s

theorem State.serveHeld_keeps (κ : List Instr × Bool × Tap) (s : State) (a : Access) (hκ : Keeps κ s) :
    Keeps κ (State.serveHeld s a) := by
  unfold State.serveHeld; grind [keeps_eq]

grind_pattern State.serveHeld_keeps => State.serveHeld s a, Keeps κ s

theorem State.access_keeps (κ : List Instr × Bool × Tap) (s : State) (path : Sys2Proof.Path) (ix : ℕ) (sub : ℕ) (bytes : List (BitVec 8)) (hκ : Keeps κ s) :
    Keeps κ (State.access s path ix sub bytes) := by
  unfold State.access; grind [keeps_eq]

grind_pattern State.access_keeps => State.access s path ix sub bytes, Keeps κ s

theorem State.unstopCan_keeps (κ : List Instr × Bool × Tap) (s : State) (hκ : Keeps κ s) :
    Keeps κ (State.unstopCan s) := by
  unfold State.unstopCan; grind [keeps_eq]

grind_pattern State.unstopCan_keeps => State.unstopCan s, Keeps κ s

theorem State.resetCan_keeps (κ : List Instr × Bool × Tap) (s : State) (hκ : Keeps κ s) :
    Keeps κ (State.resetCan s) := by
  unfold State.resetCan; grind [State.setObj_keeps, State.pathLost_keeps, State.put_keeps, keeps_eq]

grind_pattern State.resetCan_keeps => State.resetCan s, Keeps κ s

theorem State.decideLevel_keeps (κ : List Instr × Bool × Tap) (s : State) (e : Event) (hκ : Keeps κ s) :
    Keeps κ (State.decideLevel s e).2 := by
  unfold State.decideLevel; grind [keeps_eq]

grind_pattern State.decideLevel_keeps => State.decideLevel s e, Keeps κ s

theorem State.markLevel_keeps (κ : List Instr × Bool × Tap) (s : State) (src : ℕ) (level : ℕ) (hκ : Keeps κ s) :
    Keeps κ (State.markLevel s src level) := by
  unfold State.markLevel; grind [keeps_eq]

grind_pattern State.markLevel_keeps => State.markLevel s src level, Keeps κ s

theorem State.countEvent_keeps (κ : List Instr × Bool × Tap) (s : State) (src : ℕ) (hκ : Keeps κ s) :
    Keeps κ (State.countEvent s src) := by
  unfold State.countEvent; grind [keeps_eq]

grind_pattern State.countEvent_keeps => State.countEvent s src, Keeps κ s

theorem State.loseRecord_keeps (κ : List Instr × Bool × Tap) (s : State) (e : Event) (hκ : Keeps κ s) :
    Keeps κ (State.loseRecord s e) := by
  unfold State.loseRecord; grind [keeps_eq]

grind_pattern State.loseRecord_keeps => State.loseRecord s e, Keeps κ s

theorem State.takeEvent_keeps (κ : List Instr × Bool × Tap) (s : State) (cls : ℕ) (hκ : Keeps κ s) :
    Keeps κ (State.takeEvent s cls) := by
  unfold State.takeEvent
  split
  · exact hκ
  · rename_i e rest _
    extract_lets late e1 z1 s1 s2 counts w z2 s3 n e2 q
    have h1 : Keeps κ s1 := Keeps.of hκ rfl rfl rfl rfl rfl rfl rfl
    have h2 : Keeps κ s2 := State.setObj_keeps κ _ _ _ _ h1
    have h3 : Keeps κ s3 := keeps_ite (Keeps.of h2 rfl rfl rfl rfl rfl rfl rfl) h2
    exact keeps_ite (State.loseRecord_keeps κ _ _ h3) (Keeps.of h3 rfl rfl rfl rfl rfl rfl rfl)

grind_pattern State.takeEvent_keeps => State.takeEvent s cls, Keeps κ s

theorem State.suppress_keeps (κ : List Instr × Bool × Tap) (s : State) (hκ : Keeps κ s) :
    Keeps κ (State.suppress s) := by
  unfold State.suppress; grind [State.bump_keeps, keeps_eq]

grind_pattern State.suppress_keeps => State.suppress s, Keeps κ s

theorem State.logEvent_keeps (κ : List Instr × Bool × Tap) (s : State) (e : Event) (level : ℕ) (react : ℕ) (bitmap : ℕ) (conc : Bool) (first : Bool) (pin : Bool) (hκ : Keeps κ s) :
    Keeps κ (State.logEvent s e level react bitmap conc first pin).2 := by
  unfold State.logEvent; grind [keeps_eq]

grind_pattern State.logEvent_keeps => State.logEvent s e level react bitmap conc first pin, Keeps κ s

theorem State.haltFlights_keeps (κ : List Instr × Bool × Tap) (s : State) (src : ℕ) (hκ : Keeps κ s) :
    Keeps κ (State.haltFlights s src) := by
  unfold State.haltFlights; grind [keeps_eq]

grind_pattern State.haltFlights_keeps => State.haltFlights s src, Keeps κ s

theorem State.containSource_keeps (κ : List Instr × Bool × Tap) (s : State) (src : ℕ) (hκ : Keeps κ s) :
    Keeps κ (State.containSource s src) := by
  unfold State.containSource; grind [keeps_eq]

grind_pattern State.containSource_keeps => State.containSource s src, Keeps κ s

theorem State.react_keeps (κ : List Instr × Bool × Tap) (s : State) (e : Event) (level : ℕ) (bitmap : ℕ) (conc : Bool) (first : Bool) (hκ : Keeps κ s) :
    Keeps κ (State.react s e level bitmap conc first) := by
  unfold State.react
  extract_lets r s1 s2 s3 s4 s5 z6 s6 s7
  have h1 : Keeps κ s1 := State.markLevel_keeps κ _ _ _ hκ
  have hl := State.logEvent_keeps κ s1 e level r bitmap conc first (first || decide (4 ≤ level)) h1
  have h2 : Keeps κ s2 := by
    refine keeps_ite ?_ h1
    split
    rename_i x t e
    rw [e] at hl
    exact keeps_ite (Keeps.of hl rfl rfl rfl rfl rfl rfl rfl) hl
  have h3 : Keeps κ s3 := keeps_ite (State.countEvent_keeps κ _ _ h2) h2
  have h4 : Keeps κ s4 := keeps_ite (State.vector_keeps κ _ _ h3) h3
  have h5 : Keeps κ s5 := keeps_ite (State.emcy_keeps κ _ _ _ _ h4) h4
  have h6 : Keeps κ s6 := keeps_ite (Keeps.of h5 rfl rfl rfl rfl rfl rfl rfl) h5
  have h7 : Keeps κ s7 := keeps_ite (State.haltFlights_keeps κ _ _ h6) h6
  exact keeps_ite (State.containSource_keeps κ _ _ h7) h7

grind_pattern State.react_keeps => State.react s e level bitmap conc first, Keeps κ s

theorem State.decideAll_keeps (κ : List Instr × Bool × Tap) (s : State) (a : List Event) (hκ : Keeps κ s) :
    Keeps κ (State.decideAll s a).2 := by
  fun_induction State.decideAll s a <;> grind [keeps_eq]

grind_pattern State.decideAll_keeps => State.decideAll s a, Keeps κ s

theorem State.decideStamp_keeps (κ : List Instr × Bool × Tap) (s : State) (l : List Event) (hκ : Keeps κ s) :
    Keeps κ (State.decideStamp s l) := by
  unfold State.decideStamp; grind [State.react_keeps, keeps_eq]

grind_pattern State.decideStamp_keeps => State.decideStamp s l, Keeps κ s

theorem State.closeStamp_keeps (κ : List Instr × Bool × Tap) (s : State) (t : ℕ) (hκ : Keeps κ s) :
    Keeps κ (State.closeStamp s t) := by
  unfold State.closeStamp; grind [State.decideStamp_keeps, foldl_keeps, keeps_eq]

grind_pattern State.closeStamp_keeps => State.closeStamp s t, Keeps κ s

theorem State.writeLog_keeps (κ : List Instr × Bool × Tap) (s : State) (ok : Bool) (hκ : Keeps κ s) : Keeps κ (State.writeLog s ok) := by
  unfold State.writeLog
  split
  · exact hκ
  · extract_lets c1 s1 c q s2 x pinned
    have h1 : Keeps κ s1 := hκ
    have h2 : Keeps κ s2 := hκ
    exact keeps_ite (State.suppress_keeps κ _ h1) (keeps_ite h2
      (State.raise_keeps κ _ _ _ _ _ _ (State.suppress_keeps κ _ (State.fresh_keeps κ _ h2))))

grind_pattern State.writeLog_keeps => State.writeLog s ok, Keeps κ s

theorem jumpBody_keeps (κ : List Instr × Bool × Tap) (cond : BitVec 5 → Bool) (g : ℕ) (w : Sys2Proof.Word) (s : State) (hκ : Keeps κ s) :
    EffKeeps κ (jumpBody cond g w s) := by
  unfold jumpBody; grind [effKeeps_done, effKeeps_trap, effKeeps_stall, effKeeps_halt, keeps_eq]

grind_pattern jumpBody_keeps => jumpBody cond g w s, Keeps κ s

theorem bodyCall_keeps (κ : List Instr × Bool × Tap) (g : ℕ) (w : Sys2Proof.Word) (s : State) (hκ : Keeps κ s) :
    EffKeeps κ (bodyCall g w s) := by
  unfold bodyCall; grind [effKeeps_done, effKeeps_trap, effKeeps_stall, effKeeps_halt, keeps_eq]

grind_pattern bodyCall_keeps => bodyCall g w s, Keeps κ s

theorem bodyRet_keeps (κ : List Instr × Bool × Tap) (g : ℕ) (_w : Sys2Proof.Word) (s : State) (hκ : Keeps κ s) :
    EffKeeps κ (bodyRet g _w s) := by
  unfold bodyRet; grind [effKeeps_done, effKeeps_trap, effKeeps_stall, effKeeps_halt, keeps_eq]

grind_pattern bodyRet_keeps => bodyRet g _w s, Keeps κ s

theorem goAfter_keeps (κ : List Instr × Bool × Tap) (g : ℕ) (c : Core) (e : BitVec 15) (s : State) (hκ : Keeps κ s) :
    EffKeeps κ (goAfter g c e s) := by
  unfold goAfter; grind [effKeeps_done, effKeeps_trap, effKeeps_stall, effKeeps_halt, keeps_eq]

grind_pattern goAfter_keeps => goAfter g c e s, Keeps κ s

theorem bodyLps_keeps (κ : List Instr × Bool × Tap) (g : ℕ) (w : Sys2Proof.Word) (s : State) (hκ : Keeps κ s) :
    EffKeeps κ (bodyLps g w s) := by
  unfold bodyLps; grind [effKeeps_done, effKeeps_trap, effKeeps_stall, effKeeps_halt, keeps_eq]

grind_pattern bodyLps_keeps => bodyLps g w s, Keeps κ s

theorem bodyBrkl_keeps (κ : List Instr × Bool × Tap) (g : ℕ) (_w : Sys2Proof.Word) (s : State) (hκ : Keeps κ s) :
    EffKeeps κ (bodyBrkl g _w s) := by
  unfold bodyBrkl; grind [effKeeps_done, effKeeps_trap, effKeeps_stall, effKeeps_halt, keeps_eq]

grind_pattern bodyBrkl_keeps => bodyBrkl g _w s, Keeps κ s

theorem setString_keeps (κ : List Instr × Bool × Tap) (s : State) (g : ℕ) (x : Sys2Proof.Word) (y : Sys2Proof.Word) (n : ℕ) (hκ : Keeps κ s) :
    Keeps κ (setString s g x y n) := by
  unfold setString; grind [keeps_eq]

grind_pattern setString_keeps => setString s g x y n, Keeps κ s

theorem refuseStore_keeps (κ : List Instr × Bool × Tap) (s : State) (g : ℕ) (cause : ℕ) (adr : ℕ) (hκ : Keeps κ s) :
    EffKeeps κ (refuseStore s g cause adr) := by
  unfold refuseStore; grind [effKeeps_done, effKeeps_trap, effKeeps_stall, effKeeps_halt, keeps_eq]

grind_pattern refuseStore_keeps => refuseStore s g cause adr, Keeps κ s

theorem stringStore_keeps (κ : List Instr × Bool × Tap) (g : ℕ) (x : Sys2Proof.Word) (y : Sys2Proof.Word) (n : ℕ) (v : Sys2Proof.Word) (s : State) (hκ : Keeps κ s) :
    (∀ e, stringStore g x y n v s = .inl e → EffKeeps κ e) ∧ ∀ t, stringStore g x y n v s = .inr t → Keeps κ t := by
  unfold stringStore; grind [effKeeps_done, effKeeps_trap, effKeeps_stall, effKeeps_halt, keeps_eq]

theorem movsGo_keeps (κ : List Instr × Bool × Tap) (g : ℕ) (st : Sys2Proof.Word) (v1 : ℕ) (v2 : Sys2Proof.Word) (v3 : Sys2Proof.Word) (v4 : State) (hκ : Keeps κ v4) :
    EffKeeps κ (movsGo g st v1 v2 v3 v4) := by
  fun_induction movsGo g st v1 v2 v3 v4 <;> grind [effKeeps_done, effKeeps_trap, effKeeps_stall, effKeeps_halt, keeps_eq]

grind_pattern movsGo_keeps => movsGo g st v1 v2 v3 v4, Keeps κ v4

theorem fillsGo_keeps (κ : List Instr × Bool × Tap) (g : ℕ) (st : Sys2Proof.Word) (v1 : Sys2Proof.Word) (x : Sys2Proof.Word) (v2 : ℕ) (v3 : Sys2Proof.Word) (v4 : State) (hκ : Keeps κ v4) :
    EffKeeps κ (fillsGo g st v1 x v2 v3 v4) := by
  induction v2 generalizing v3 v4 with
  | zero => exact setString_keeps κ _ _ _ _ _ hκ
  | succ n ih =>
    unfold fillsGo
    have h := stringStore_keeps κ g x v3 (n + 1) v1 v4 hκ
    split
    · rename_i e; exact h.1 _ e
    · rename_i e; exact ih _ _ (h.2 _ e)

grind_pattern fillsGo_keeps => fillsGo g st v1 x v2 v3 v4, Keeps κ v4

theorem cmpsGo_keeps (κ : List Instr × Bool × Tap) (g : ℕ) (st : Sys2Proof.Word) (v1 : ℕ) (v2 : Sys2Proof.Word) (v3 : Sys2Proof.Word) (v4 : State) (hκ : Keeps κ v4) :
    EffKeeps κ (cmpsGo g st v1 v2 v3 v4) := by
  fun_induction cmpsGo g st v1 v2 v3 v4 <;> grind [effKeeps_done, effKeeps_trap, effKeeps_stall, effKeeps_halt, keeps_eq]

grind_pattern cmpsGo_keeps => cmpsGo g st v1 v2 v3 v4, Keeps κ v4

theorem scansGo_keeps (κ : List Instr × Bool × Tap) (g : ℕ) (st : Sys2Proof.Word) (v1 : Sys2Proof.Word) (y : Sys2Proof.Word) (sense : Bool) (v2 : ℕ) (v3 : Sys2Proof.Word) (v4 : State) (hκ : Keeps κ v4) :
    EffKeeps κ (scansGo g st v1 y sense v2 v3 v4) := by
  fun_induction scansGo g st v1 y sense v2 v3 v4 <;> grind [effKeeps_done, effKeeps_trap, effKeeps_stall, effKeeps_halt, keeps_eq]

grind_pattern scansGo_keeps => scansGo g st v1 y sense v2 v3 v4, Keeps κ v4

theorem bodyMovs_keeps (κ : List Instr × Bool × Tap) (g : ℕ) (w : Sys2Proof.Word) (s : State) (hκ : Keeps κ s) :
    EffKeeps κ (bodyMovs g w s) := by
  unfold bodyMovs; grind [effKeeps_done, effKeeps_trap, effKeeps_stall, effKeeps_halt, keeps_eq]

grind_pattern bodyMovs_keeps => bodyMovs g w s, Keeps κ s

theorem bodyFills_keeps (κ : List Instr × Bool × Tap) (g : ℕ) (w : Sys2Proof.Word) (s : State) (hκ : Keeps κ s) :
    EffKeeps κ (bodyFills g w s) := by
  unfold bodyFills; grind [fillsGo_keeps, effKeeps_done, effKeeps_trap, effKeeps_stall, effKeeps_halt, keeps_eq]

grind_pattern bodyFills_keeps => bodyFills g w s, Keeps κ s

theorem bodyCmps_keeps (κ : List Instr × Bool × Tap) (g : ℕ) (w : Sys2Proof.Word) (s : State) (hκ : Keeps κ s) :
    EffKeeps κ (bodyCmps g w s) := by
  unfold bodyCmps; grind [effKeeps_done, effKeeps_trap, effKeeps_stall, effKeeps_halt, keeps_eq]

grind_pattern bodyCmps_keeps => bodyCmps g w s, Keeps κ s

theorem bodyScans_keeps (κ : List Instr × Bool × Tap) (g : ℕ) (w : Sys2Proof.Word) (s : State) (hκ : Keeps κ s) :
    EffKeeps κ (bodyScans g w s) := by
  unfold bodyScans; grind [effKeeps_done, effKeeps_trap, effKeeps_stall, effKeeps_halt, keeps_eq]

grind_pattern bodyScans_keeps => bodyScans g w s, Keeps κ s

theorem bodyMfs_keeps (κ : List Instr × Bool × Tap) (g : ℕ) (w : Sys2Proof.Word) (s : State) (hκ : Keeps κ s) :
    EffKeeps κ (bodyMfs g w s) := by
  unfold bodyMfs; grind [effKeeps_done, effKeeps_trap, effKeeps_stall, effKeeps_halt, keeps_eq]

grind_pattern bodyMfs_keeps => bodyMfs g w s, Keeps κ s

theorem bodyMts_keeps (κ : List Instr × Bool × Tap) (g : ℕ) (w : Sys2Proof.Word) (s : State) (hκ : Keeps κ s) :
    EffKeeps κ (bodyMts g w s) := by
  unfold bodyMts; grind [effKeeps_done, effKeeps_trap, effKeeps_stall, effKeeps_halt, keeps_eq]

grind_pattern bodyMts_keeps => bodyMts g w s, Keeps κ s

theorem bodyTrap_keeps (κ : List Instr × Bool × Tap) (g : ℕ) (w : Sys2Proof.Word) (s : State) (hκ : Keeps κ s) :
    EffKeeps κ (bodyTrap g w s) := by
  unfold bodyTrap; grind [effKeeps_done, effKeeps_trap, effKeeps_stall, effKeeps_halt, keeps_eq]

grind_pattern bodyTrap_keeps => bodyTrap g w s, Keeps κ s

theorem bodyRett_keeps (κ : List Instr × Bool × Tap) (g : ℕ) (_w : Sys2Proof.Word) (s : State) (hκ : Keeps κ s) :
    EffKeeps κ (bodyRett g _w s) := by
  unfold bodyRett; grind [effKeeps_done, effKeeps_trap, effKeeps_stall, effKeeps_halt, keeps_eq]

grind_pattern bodyRett_keeps => bodyRett g _w s, Keeps κ s

theorem bodyNop_keeps (κ : List Instr × Bool × Tap) (_g : ℕ) (_w : Sys2Proof.Word) (s : State) (hκ : Keeps κ s) :
    EffKeeps κ (bodyNop _g _w s) := by
  unfold bodyNop; grind [effKeeps_done, effKeeps_trap, effKeeps_stall, effKeeps_halt, keeps_eq]

grind_pattern bodyNop_keeps => bodyNop _g _w s, Keeps κ s

theorem illegalStep_keeps (κ : List Instr × Bool × Tap) (g : ℕ) (s : State) (hκ : Keeps κ s) : Keeps κ (illegalStep g s) := by
  unfold illegalStep
  refine keeps_ite (keeps_ite (applyEff_keeps κ _ _ _ hκ hκ) (withFetch_keeps κ g s _ (fun w u hu => ?_) hκ)) hκ
  exact keeps_ite hκ (applyEff_keeps κ _ _ _ (illegalEff_keeps κ _ _ hu) hu)

grind_pattern illegalStep_keeps => illegalStep g s, Keeps κ s

theorem State.accessValue_keeps (κ : List Instr × Bool × Tap) (s : State) (path : Sys2Proof.Path) (ix : ℕ) (sub : ℕ) (n : ℕ) (v : ℕ) (hκ : Keeps κ s) :
    Keeps κ (State.accessValue s path ix sub n v) := by
  unfold State.accessValue; grind [keeps_eq]

grind_pattern State.accessValue_keeps => State.accessValue s path ix sub n v, Keeps κ s

theorem State.commandFault_keeps (κ : List Instr × Bool × Tap) (s : State) (f : ℕ) (p : ℕ) (cmd : ℕ) (refused : Bool) (hκ : Keeps κ s) :
    Keeps κ (State.commandFault s f p cmd refused) := by
  unfold State.commandFault; grind [keeps_eq]

grind_pattern State.commandFault_keeps => State.commandFault s f p cmd refused, Keeps κ s

theorem State.emptyBog_keeps (κ : List Instr × Bool × Tap) (s : State) (f : ℕ) (hκ : Keeps κ s) :
    Keeps κ (State.emptyBog s f) := State.trimChains_keeps κ _ hκ

grind_pattern State.emptyBog_keeps => State.emptyBog s f, Keeps κ s

theorem State.clearImages_keeps (κ : List Instr × Bool × Tap) (s : State) (f : ℕ) (hκ : Keeps κ s) :
    Keeps κ (State.clearImages s f) := by
  unfold State.clearImages; grind [keeps_eq]

grind_pattern State.clearImages_keeps => State.clearImages s f, Keeps κ s

theorem State.unload_keeps (κ : List Instr × Bool × Tap) (s : State) (f : ℕ) (hκ : Keeps κ s) :
    Keeps κ (State.unload s f) := by
  unfold State.unload; grind [State.tu_memoryWf, → Keeps.memoryWf, TokenUnit.restart_memoryWf, keeps_eq]

grind_pattern State.unload_keeps => State.unload s f, Keeps κ s

theorem State.undoLoad_keeps (κ : List Instr × Bool × Tap) (s : State) (f : ℕ) (hκ : Keeps κ s) :
    Keeps κ (State.undoLoad s f) := by
  unfold State.undoLoad; grind [keeps_eq]

grind_pattern State.undoLoad_keeps => State.undoLoad s f, Keeps κ s

theorem State.commandFails_keeps (κ : List Instr × Bool × Tap) (s : State) (f : ℕ) (p : ℕ) (cmd : ℕ) (refused : Bool) (hκ : Keeps κ s) :
    Keeps κ (State.commandFails s f p cmd refused) := by
  unfold State.commandFails; grind [keeps_eq]

grind_pattern State.commandFails_keeps => State.commandFails s f p cmd refused, Keeps κ s

theorem State.commandDone_keeps (κ : List Instr × Bool × Tap) (s : State) (f : ℕ) (hκ : Keeps κ s) :
    Keeps κ (State.commandDone s f) := by
  unfold State.commandDone; grind [keeps_eq]

grind_pattern State.commandDone_keeps => State.commandDone s f, Keeps κ s

theorem State.completionStep_keeps (κ : List Instr × Bool × Tap) (s : State) (p : ℕ) (f : ℕ) (refused : Bool) (hκ : Keeps κ s) :
    Keeps κ (State.completionStep s p f refused) := by
  unfold State.completionStep; grind [keeps_eq]

grind_pattern State.completionStep_keeps => State.completionStep s p f refused, Keeps κ s

theorem State.portEvent_keeps (κ : List Instr × Bool × Tap) (s : State) (p : ℕ) (code : ℕ) (level : ℕ) (hκ : Keeps κ s) :
    Keeps κ (State.portEvent s p code level) := by
  unfold State.portEvent; grind [keeps_eq]

grind_pattern State.portEvent_keeps => State.portEvent s p code level, Keeps κ s

theorem State.partnerAbsent_keeps (κ : List Instr × Bool × Tap) (s : State) (p : ℕ) (hκ : Keeps κ s) :
    Keeps κ (State.partnerAbsent s p) := by
  unfold State.partnerAbsent; grind [keeps_eq]

grind_pattern State.partnerAbsent_keeps => State.partnerAbsent s p, Keeps κ s

theorem State.keepaliveStep_keeps (κ : List Instr × Bool × Tap) (s : State) (p : ℕ) (hκ : Keeps κ s) :
    Keeps κ (State.keepaliveStep s p) := by
  unfold State.keepaliveStep; grind [keeps_eq]

grind_pattern State.keepaliveStep_keeps => State.keepaliveStep s p, Keeps κ s

theorem State.syncTimeout_keeps (κ : List Instr × Bool × Tap) (s : State) (d : Sys2Proof.RspDst) (tag : BitVec 12) (hκ : Keeps κ s) :
    Keeps κ (State.syncTimeout s d tag) := by
  unfold State.syncTimeout
  extract_lets key n1 s1
  have h1 : Keeps κ s1 := Keeps.noc hκ _
  refine keeps_ite hκ ?_
  cases d <;> exact State.wantSync_keeps κ _ _ _ _ _ h1

grind_pattern State.syncTimeout_keeps => State.syncTimeout s d tag, Keeps κ s

theorem State.initiatorTimeoutStep_keeps (κ : List Instr × Bool × Tap) (s : State) (d : Sys2Proof.RspDst) (tag : BitVec 12) (hκ : Keeps κ s) :
    Keeps κ (State.initiatorTimeoutStep s d tag) := by
  unfold State.initiatorTimeoutStep; grind [keeps_eq]

grind_pattern State.initiatorTimeoutStep_keeps => State.initiatorTimeoutStep s d tag, Keeps κ s

theorem State.setBalance_keeps (κ : List Instr × Bool × Tap) (s : State) (g : ℕ) (e : ℕ) (v : ℕ) (hκ : Keeps κ s) :
    Keeps κ (State.setBalance s g e v) := by
  unfold State.setBalance; grind [State.tu_memoryWf, → Keeps.memoryWf, TokenUnit.restart_memoryWf, keeps_eq]

grind_pattern State.setBalance_keeps => State.setBalance s g e v, Keeps κ s

theorem State.divert_keeps (κ : List Instr × Bool × Tap) (s : State) (c : ℕ) (p : Pkt) (hκ : Keeps κ s) :
    Keeps κ (State.divert s c p) := by
  unfold State.divert; grind [keeps_eq]

grind_pattern State.divert_keeps => State.divert s c p, Keeps κ s

theorem State.queueError_keeps (κ : List Instr × Bool × Tap) (s : State) (src : ℕ) (chk : ℕ) (wrong : ℕ) (injected : Bool) (during : Bool) (hκ : Keeps κ s) :
    Keeps κ (State.queueError s src chk wrong injected during).2 := by
  unfold State.queueError
  split
  · exact State.raiseFull_keeps κ _ _ _ _ _ _ _ _ (Keeps.noc hκ _)
  · exact State.raiseFull_keeps κ _ _ _ _ _ _ _ _ hκ

grind_pattern State.queueError_keeps => State.queueError s src chk wrong injected during, Keeps κ s

theorem State.checkEntry_keeps (κ : List Instr × Bool × Tap) (s : State) (src : ℕ) (chk : ℕ) (wrong : ℕ) (hκ : Keeps κ s) :
    Keeps κ (State.checkEntry s src chk wrong).2 := by
  unfold State.checkEntry; grind [keeps_eq]

grind_pattern State.checkEntry_keeps => State.checkEntry s src chk wrong, Keeps κ s

theorem State.passWord_keeps (κ : List Instr × Bool × Tap) (s : State) (k : ℕ) (d : ℕ) (v : ℕ) (src : ℕ) (chk : ℕ) (hκ : Keeps κ s) :
    Keeps κ (State.passWord s k d v src chk).2 := by
  unfold State.passWord; grind [keeps_eq]

grind_pattern State.passWord_keeps => State.passWord s k d v src chk, Keeps κ s

theorem State.passWords_keeps (κ : List Instr × Bool × Tap) (s : State) (k : ℕ) (d : ℕ) (v : ℕ) (src : ℕ) (chk : ℕ) (a : ℕ) (hκ : Keeps κ s) :
    Keeps κ (State.passWords s k d v src chk a).2 := by
  fun_induction State.passWords s k d v src chk a <;> grind [keeps_eq]

grind_pattern State.passWords_keeps => State.passWords s k d v src chk a, Keeps κ s

theorem State.inward_keeps (κ : List Instr × Bool × Tap) (s : State) (c : ℕ) (v : ℕ) (n : ℕ) (hκ : Keeps κ s) :
    Keeps κ (State.inward s c v n).2 := State.passWords_keeps κ _ _ _ _ _ _ _ hκ

grind_pattern State.inward_keeps => State.inward s c v n, Keeps κ s

theorem State.niSpoiled_keeps (κ : List Instr × Bool × Tap) (s : State) (c : ℕ) (hκ : Keeps κ s) :
    Keeps κ (State.niSpoiled s c) := by
  unfold State.niSpoiled; grind [keeps_eq]

grind_pattern State.niSpoiled_keeps => State.niSpoiled s c, Keeps κ s

theorem State.niEscape_keeps (κ : List Instr × Bool × Tap) (s : State) (c : ℕ) (p : Pkt) (hκ : Keeps κ s) :
    Keeps κ (State.niEscape s c p) := by
  unfold State.niEscape; grind [State.tu_memoryWf, → Keeps.memoryWf, TokenUnit.restart_memoryWf, State.cluster_memoryWf, Cluster.memoryWf_eq, keeps_eq]

grind_pattern State.niEscape_keeps => State.niEscape s c p, Keeps κ s

theorem State.takeCredits_keeps (κ : List Instr × Bool × Tap) (s : State) (k : ℕ) (v : ℕ) (x : NFlit) (n : ℕ) (hκ : Keeps κ s) :
    ∀ t, State.takeCredits s k v x n = some t → Keeps κ t := by
  unfold State.takeCredits; grind [keeps_eq]

theorem State.loopCredits_keeps (κ : List Instr × Bool × Tap) (s : State) (c : ℕ) (v : ℕ) (p : Pkt) (hκ : Keeps κ s) :
    ∀ t, State.loopCredits s c v p = some t → Keeps κ t := by
  unfold State.loopCredits; grind [State.takeCredits_keeps, keeps_eq]

theorem State.countRequest_keeps (κ : List Instr × Bool × Tap) (s : State) (target : ℕ) (k : ℕ) (hκ : Keeps κ s) :
    Keeps κ (State.countRequest s target k) := by
  unfold State.countRequest; grind [keeps_eq]

grind_pattern State.countRequest_keeps => State.countRequest s target k, Keeps κ s

theorem State.niRequest_keeps (κ : List Instr × Bool × Tap) (s : State) (c : ℕ) (k : ℕ) (p : Pkt) (hκ : Keeps κ s) :
    Keeps κ (State.niRequest s c k p) := by
  unfold State.niRequest; grind [State.cluster_memoryWf, → Keeps.memoryWf, Cluster.memoryWf_eq, keeps_eq]

grind_pattern State.niRequest_keeps => State.niRequest s c k p, Keeps κ s

theorem State.parityError_keeps (κ : List Instr × Bool × Tap) (s : State) (src : ℕ) (v : ℕ) (ctl : BitVec 96) (head : BitVec 96) (c : CodeCheck) (hκ : Keeps κ s) :
    Keeps κ (State.parityError s src v ctl head c) := by
  unfold State.parityError; grind [keeps_eq]

grind_pattern State.parityError_keeps => State.parityError s src v ctl head c, Keeps κ s

theorem State.niToken_keeps (κ : List Instr × Bool × Tap) (s : State) (c : ℕ) (k : ℕ) (p : Pkt) (hκ : Keeps κ s) :
    Keeps κ (State.niToken s c k p) := by
  unfold State.niToken; grind [State.tu_memoryWf, → Keeps.memoryWf, TokenUnit.restart_memoryWf, keeps_eq]

grind_pattern State.niToken_keeps => State.niToken s c k p, Keeps κ s

theorem State.returnPool_keeps (κ : List Instr × Bool × Tap) (s : State) (target : ℕ) (k : ℕ) (head : BitVec 96) (hκ : Keeps κ s) :
    Keeps κ (State.returnPool s target k head) := by
  unfold State.returnPool; grind [keeps_eq]

grind_pattern State.returnPool_keeps => State.returnPool s target k head, Keeps κ s

theorem State.niResponse_keeps (κ : List Instr × Bool × Tap) (s : State) (c : ℕ) (p : Pkt) (hκ : Keeps κ s) :
    Keeps κ (State.niResponse s c p) := by
  unfold State.niResponse; grind [State.engine_memoryWf, → Keeps.memoryWf, Engine.memoryWf_eq, keeps_eq]

grind_pattern State.niResponse_keeps => State.niResponse s c p, Keeps κ s

theorem State.nextArrival_keeps (κ : List Instr × Bool × Tap) (s : State) (c : ℕ) (waits : List (BitVec 2)) (l : List (Pkt × BitVec 2))
    (hκ : Keeps κ s) : ∀ x r t, State.nextArrival s c waits l = some (x, r, t) → Keeps κ t := by
  induction l generalizing waits with
  | nil => intro x r t h; cases h
  | cons a l ih =>
    obtain ⟨p, v⟩ := a
    have hl : ∀ w x r t, ((State.nextArrival s c w l).map fun (x, r, t) => (x, (p, v) :: r, t)) = some (x, r, t) → Keeps κ t := by
      intro w x r t h
      rw [Option.map_eq_some_iff] at h
      obtain ⟨⟨y, q, u⟩, hu, he⟩ := h
      cases he
      exact ih w _ _ _ hu
    intro x r t h
    unfold State.nextArrival at h
    dsimp only at h
    split at h
    · exact hl _ _ _ _ h
    · split at h
      · rename_i hc
        cases h
        exact State.loopCredits_keeps κ _ _ _ _ hκ _ hc
      · exact hl _ _ _ _ h

theorem State.niPacket_keeps (κ : List Instr × Bool × Tap) (s : State) (c : ℕ) (p : Pkt) (v : BitVec 2) (hκ : Keeps κ s) :
    Keeps κ (State.niPacket s c p v) := by
  unfold State.niPacket; grind [keeps_eq]

grind_pattern State.niPacket_keeps => State.niPacket s c p v, Keeps κ s

theorem State.niStep_keeps (κ : List Instr × Bool × Tap) (s : State) (c : ℕ) (hκ : Keeps κ s) : Keeps κ (State.niStep s c) := by
  unfold State.niStep
  split
  · exact hκ
  · rename_i p v rest s1 h
    have h1 := State.nextArrival_keeps κ _ _ _ _ hκ _ _ _ h
    have h2 := State.setCluster_keeps κ s1 c { s1.cluster c with niIn := rest } (State.cluster_memoryWf s1 c h1.memoryWf) h1
    have h3 : Keeps κ (if p.inj = some c then
        (s1.setCluster c { s1.cluster c with niIn := rest }).passWords c 0 v.toNat (srcId 17 c) 4 (1 + p.data.length)
        else (false, s1.setCluster c { s1.cluster c with niIn := rest })).2 := by
      split; exacts [State.passWords_keeps κ _ _ _ _ _ _ _ h2, h2]
    have h4 := State.niSpoiled_keeps κ _ c h3
    exact keeps_ite (keeps_ite (State.tokenBack_keeps κ _ _ _ h4) h4) (State.niPacket_keeps κ _ _ _ _ h3)

grind_pattern State.niStep_keeps => State.niStep s c, Keeps κ s

theorem State.clusterLive_keeps (κ : List Instr × Bool × Tap) (s : State) (c : ℕ) (hκ : Keeps κ s) :
    Keeps κ (State.clusterLive s c) := by
  unfold State.clusterLive; grind [keeps_eq]

grind_pattern State.clusterLive_keeps => State.clusterLive s c, Keeps κ s

theorem State.setEntryStates_keeps (κ : List Instr × Bool × Tap) (s : State) (hκ : Keeps κ s) :
    Keeps κ (State.setEntryStates s) := by
  unfold State.setEntryStates; grind [keeps_eq]

grind_pattern State.setEntryStates_keeps => State.setEntryStates s, Keeps κ s

theorem State.flip_keeps (κ : List Instr × Bool × Tap) (s : State) (hκ : Keeps κ s) :
    Keeps κ (State.flip s) := by
  unfold State.flip; grind [State.bump_keeps, keeps_eq]

grind_pattern State.flip_keeps => State.flip s, Keeps κ s

theorem State.sequencerFlip_keeps (κ : List Instr × Bool × Tap) (s : State) (hκ : Keeps κ s) :
    Keeps κ (State.sequencerFlip s) := by
  unfold State.sequencerFlip; grind [State.setDomain_keeps, State.clusterLive_keeps, State.setEntryStates_keeps, State.flip_keeps, foldl_keeps, keeps_eq]

grind_pattern State.sequencerFlip_keeps => State.sequencerFlip s, Keeps κ s

theorem State.sendWaiting_keeps (κ : List Instr × Bool × Tap) (s : State) (hκ : Keeps κ s) :
    Keeps κ (State.sendWaiting s) := by
  unfold State.sendWaiting; grind [State.sendSync_keeps, foldl_keeps, keeps_eq]

grind_pattern State.sendWaiting_keeps => State.sendWaiting s, Keeps κ s

theorem State.drainCompleteStep_keeps (κ : List Instr × Bool × Tap) (s : State) (hκ : Keeps κ s) :
    Keeps κ (State.drainCompleteStep s) := by
  unfold State.drainCompleteStep; grind [State.sequencerFlip_keeps, State.sendWaiting_keeps, keeps_eq]

grind_pattern State.drainCompleteStep_keeps => State.drainCompleteStep s, Keeps κ s

theorem storeWords_keeps (κ : List Instr × Bool × Tap) (g : ℕ) (adr : ℕ) (cover : BitVec 4) (l : List Sys2Proof.Word) (s : State) (k : State → Eff) (hk : ∀  u, Keeps κ u → EffKeeps κ (k  u)) (hκ : Keeps κ s) :
    EffKeeps κ (storeWords g adr cover l s k) := by
  unfold storeWords; grind [effKeeps_done, effKeeps_trap, effKeeps_stall, effKeeps_halt, keeps_eq]

grind_pattern storeWords_keeps => storeWords g adr cover l s k, Keeps κ s

theorem storeAt_keeps (κ : List Instr × Bool × Tap) (g : ℕ) (w : Sys2Proof.Word) (cover : BitVec 4) (v : Sys2Proof.Word) (s : State) (hκ : Keeps κ s) :
    EffKeeps κ (storeAt g w cover v s) := by
  unfold storeAt; grind [effKeeps_done, effKeeps_trap, effKeeps_stall, effKeeps_halt, keeps_eq]

grind_pattern storeAt_keeps => storeAt g w cover v s, Keeps κ s

theorem bodyStr_keeps (κ : List Instr × Bool × Tap) (g : ℕ) (w : Sys2Proof.Word) (s : State) (hκ : Keeps κ s) :
    EffKeeps κ (bodyStr g w s) := by
  unfold bodyStr; grind [effKeeps_done, effKeeps_trap, effKeeps_stall, effKeeps_halt, keeps_eq]

grind_pattern bodyStr_keeps => bodyStr g w s, Keeps κ s

theorem fpIssue_keeps (κ : List Instr × Bool × Tap) (g : ℕ) (op : ℕ) (w : Sys2Proof.Word) (p : BitVec 72) (q : BitVec 72) (s : State) (hκ : Keeps κ s) :
    EffKeeps κ (fpIssue g op w p q s) := by
  unfold fpIssue; grind [effKeeps_done, effKeeps_trap, effKeeps_stall, effKeeps_halt, keeps_eq]

grind_pattern fpIssue_keeps => fpIssue g op w p q s, Keeps κ s

theorem State.engineReads_keeps (κ : List Instr × Bool × Tap) (s : State) (g : ℕ) (v1 : ℕ) (v2 : ℕ) (hκ : Keeps κ s) :
    Keeps κ (State.engineReads s g v1 v2).2 := by
  fun_induction State.engineReads s g v1 v2 <;> grind [keeps_eq]

grind_pattern State.engineReads_keeps => State.engineReads s g v1 v2, Keeps κ s

theorem withWords_keeps (κ : List Instr × Bool × Tap) (g : ℕ) (adr : ℕ) (n : ℕ) (s : State) (k : List Sys2Proof.Word → State → Eff) (hk : ∀ u0 u, Keeps κ u → EffKeeps κ (k u0 u)) (hκ : Keeps κ s) :
    EffKeeps κ (withWords g adr n s k) := by
  unfold withWords; grind [effKeeps_done, effKeeps_trap, effKeeps_stall, effKeeps_halt, keeps_eq]

grind_pattern withWords_keeps => withWords g adr n s k, Keeps κ s

theorem withBoth_keeps (κ : List Instr × Bool × Tap) (g : ℕ) (a : ℕ) (n : ℕ) (b : ℕ) (m : ℕ) (s : State) (k : List Sys2Proof.Word → List Sys2Proof.Word → State → Eff) (hk : ∀ u0 u1 u, Keeps κ u → EffKeeps κ (k u0 u1 u)) (hκ : Keeps κ s) :
    EffKeeps κ (withBoth g a n b m s k) := by
  unfold withBoth; grind [effKeeps_done, effKeeps_trap, effKeeps_stall, effKeeps_halt, keeps_eq]

grind_pattern withBoth_keeps => withBoth g a n b m s k, Keeps κ s

theorem fdBody_keeps (κ : List Instr × Bool × Tap) (op : ℕ) (g : ℕ) (w : Sys2Proof.Word) (s : State) (hκ : Keeps κ s) :
    EffKeeps κ (fdBody op g w s) := by
  unfold fdBody; grind [effKeeps_done, effKeeps_trap, effKeeps_stall, effKeeps_halt, keeps_eq]

grind_pattern fdBody_keeps => fdBody op g w s, Keeps κ s

theorem withPair_keeps (κ : List Instr × Bool × Tap) (g : ℕ) (w : Sys2Proof.Word) (s : State) (k : Sys2Proof.Word → Sys2Proof.Word → State → Eff) (hk : ∀ u0 u1 u, Keeps κ u → EffKeeps κ (k u0 u1 u)) (hκ : Keeps κ s) :
    EffKeeps κ (withPair g w s k) := by
  unfold withPair; grind [effKeeps_done, effKeeps_trap, effKeeps_stall, effKeeps_halt, keeps_eq]

grind_pattern withPair_keeps => withPair g w s k, Keeps κ s

theorem fmBody_keeps (κ : List Instr × Bool × Tap) (op : ℕ) (g : ℕ) (w : Sys2Proof.Word) (s : State) (hκ : Keeps κ s) :
    EffKeeps κ (fmBody op g w s) := by
  unfold fmBody; grind [effKeeps_done, effKeeps_trap, effKeeps_stall, effKeeps_halt, keeps_eq]

grind_pattern fmBody_keeps => fmBody op g w s, Keeps κ s

theorem withVector_keeps (κ : List Instr × Bool × Tap) (g : ℕ) (adr : ℕ) (s : State) (k : Sys2Proof.Vec → State → Eff) (hk : ∀ u0 u, Keeps κ u → EffKeeps κ (k u0 u)) (hκ : Keeps κ s) :
    EffKeeps κ (withVector g adr s k) := by
  unfold withVector; grind [effKeeps_done, effKeeps_trap, effKeeps_stall, effKeeps_halt, keeps_eq]

grind_pattern withVector_keeps => withVector g adr s k, Keeps κ s

theorem withTwo_keeps (κ : List Instr × Bool × Tap) (g : ℕ) (a : ℕ) (b : ℕ) (s : State) (k : Sys2Proof.Vec → Sys2Proof.Vec → State → Eff) (hk : ∀ u0 u1 u, Keeps κ u → EffKeeps κ (k u0 u1 u)) (hκ : Keeps κ s) :
    EffKeeps κ (withTwo g a b s k) := by
  unfold withTwo; grind [effKeeps_done, effKeeps_trap, effKeeps_stall, effKeeps_halt, keeps_eq]

grind_pattern withTwo_keeps => withTwo g a b s k, Keeps κ s

theorem vdBody_keeps (κ : List Instr × Bool × Tap) (f : Sys2Proof.Vec → Sys2Proof.Vec → Sys2Proof.Vec → Sys2Proof.Vec) (g : ℕ) (w : Sys2Proof.Word) (s : State) (hκ : Keeps κ s) :
    EffKeeps κ (vdBody f g w s) := by
  unfold vdBody; grind [effKeeps_done, effKeeps_trap, effKeeps_stall, effKeeps_halt, keeps_eq]

grind_pattern vdBody_keeps => vdBody f g w s, Keeps κ s

theorem bodyLdp_keeps (κ : List Instr × Bool × Tap) (g : ℕ) (w : Sys2Proof.Word) (s : State) (hκ : Keeps κ s) :
    EffKeeps κ (bodyLdp g w s) := by
  unfold bodyLdp; grind [effKeeps_done, effKeeps_trap, effKeeps_stall, effKeeps_halt, keeps_eq]

grind_pattern bodyLdp_keeps => bodyLdp g w s, Keeps κ s

theorem State.failRail_keeps (κ : List Instr × Bool × Tap) (s : State) (r : Sys2Proof.Rail) (hκ : Keeps κ s) :
    Keeps κ (State.failRail s r) := by
  unfold State.failRail
  extract_lets l s1
  have h1 : Keeps κ s1 := foldl_keeps κ _ (fun s d w => State.raiseFree_keeps κ _ _ _ (State.containDomain_keeps κ _ _ w)) _ _ hκ
  exact keeps_ite (State.raiseFree_keeps κ _ _ _ hκ) (keeps_ite (Keeps.noHbm (State.fresh_keeps κ _ h1) _) h1)

grind_pattern State.failRail_keeps => State.failRail s r, Keeps κ s

theorem State.queueSync_keeps (κ : List Instr × Bool × Tap) (s : State) (p : ℕ) (f : BitVec 192) (hκ : Keeps κ s) :
    Keeps κ (State.queueSync s p f) := by
  unfold State.queueSync; grind [keeps_eq]

grind_pattern State.queueSync_keeps => State.queueSync s p f, Keeps κ s

theorem State.announceTimerStep_keeps (κ : List Instr × Bool × Tap) (s : State) (hκ : Keeps κ s) :
    Keeps κ (State.announceTimerStep s) := by
  unfold State.announceTimerStep; grind [keeps_eq]

grind_pattern State.announceTimerStep_keeps => State.announceTimerStep s, Keeps κ s

theorem fiBody_keeps (κ : List Instr × Bool × Tap) (op : ℕ) (g : ℕ) (w : Sys2Proof.Word) (s : State) (hκ : Keeps κ s) :
    EffKeeps κ (fiBody op g w s) := by
  unfold fiBody; grind [effKeeps_done, effKeeps_trap, effKeeps_stall, effKeeps_halt, keeps_eq]

grind_pattern fiBody_keeps => fiBody op g w s, Keeps κ s

theorem State.strobe_keeps (κ : List Instr × Bool × Tap) (s : State) (f : ℕ) (a : ℕ) (b : ℕ) (hκ : Keeps κ s) :
    Keeps κ (State.strobe s f a b) := by
  unfold State.strobe; grind [State.setObj_keeps, foldl_keeps, keeps_eq]

grind_pattern State.strobe_keeps => State.strobe s f a b, Keeps κ s

theorem State.epochTriggers_keeps (κ : List Instr × Bool × Tap) (s : State) (f : ℕ) (v : ℕ) (hκ : Keeps κ s) :
    Keeps κ (State.epochTriggers s f v) := by
  unfold State.epochTriggers; grind [keeps_eq]

grind_pattern State.epochTriggers_keeps => State.epochTriggers s f v, Keeps κ s

theorem State.advanceView_keeps (κ : List Instr × Bool × Tap) (s : State) (f : ℕ) (v : ℕ) (hκ : Keeps κ s) :
    Keeps κ (State.advanceView s f v) := by
  unfold State.advanceView; grind [keeps_eq]

grind_pattern State.advanceView_keeps => State.advanceView s f v, Keeps κ s

theorem State.distribute_keeps (κ : List Instr × Bool × Tap) (s : State) (f : ℕ) (v : ℕ) (hκ : Keeps κ s) :
    Keeps κ (State.distribute s f v) := by
  unfold State.distribute; grind [keeps_eq]

grind_pattern State.distribute_keeps => State.distribute s f v, Keeps κ s

theorem State.deviceDistributionStep_keeps (κ : List Instr × Bool × Tap) (s : State) (hκ : Keeps κ s) :
    Keeps κ (State.deviceDistributionStep s) := by
  unfold State.deviceDistributionStep; grind [State.advanceView_keeps, State.raise_keeps, State.distribute_keeps, keeps_eq]

grind_pattern State.deviceDistributionStep_keeps => State.deviceDistributionStep s, Keeps κ s

theorem State.releaseFrame_keeps (κ : List Instr × Bool × Tap) (s : State) (g : ℕ) (f : ℕ) (e : ℕ) (hκ : Keeps κ s) :
    Keeps κ (State.releaseFrame s g f e) := by
  unfold State.releaseFrame; grind [keeps_eq]

grind_pattern State.releaseFrame_keeps => State.releaseFrame s g f e, Keeps κ s

theorem State.releaseFrames_keeps (κ : List Instr × Bool × Tap) (s : State) (g : ℕ) (f : ℕ) (v1 : ℕ) (v2 : ℕ) (hκ : Keeps κ s) :
    Keeps κ (State.releaseFrames s g f v1 v2) := by
  fun_induction State.releaseFrames s g f v1 v2 <;> grind [keeps_eq]

grind_pattern State.releaseFrames_keeps => State.releaseFrames s g f v1 v2, Keeps κ s

theorem State.setView_keeps (κ : List Instr × Bool × Tap) (s : State) (g : ℕ) (v : ℕ) (hκ : Keeps κ s) :
    Keeps κ (State.setView s g v) := by
  unfold State.setView; grind [State.tu_memoryWf, → Keeps.memoryWf, TokenUnit.restart_memoryWf, TokenUnit.payOut, keeps_eq]

grind_pattern State.setView_keeps => State.setView s g v, Keeps κ s

theorem State.unitDistribution_keeps (κ : List Instr × Bool × Tap) (s : State) (g : ℕ) (v : ℕ) (x : Flit) (hκ : Keeps κ s) :
    Keeps κ (State.unitDistribution s g v x) := by
  unfold State.unitDistribution; grind [keeps_eq]

grind_pattern State.unitDistribution_keeps => State.unitDistribution s g v x, Keeps κ s

theorem State.clusterDistributionStep_keeps (κ : List Instr × Bool × Tap) (s : State) (c : ℕ) (hκ : Keeps κ s) :
    Keeps κ (State.clusterDistributionStep s c) := by
  unfold State.clusterDistributionStep; grind [State.cluster_memoryWf, → Keeps.memoryWf, Cluster.memoryWf_eq, keeps_eq]

grind_pattern State.clusterDistributionStep_keeps => State.clusterDistributionStep s c, Keeps κ s

theorem noteRange_keeps (κ : List Instr × Bool × Tap) (s : State) (g : ℕ) (o : Bool) (hκ : Keeps κ s) :
    Keeps κ (noteRange s g o) := by
  unfold noteRange; grind [keeps_eq]

grind_pattern noteRange_keeps => noteRange s g o, Keeps κ s

theorem bodyVgath_keeps (κ : List Instr × Bool × Tap) (g : ℕ) (w : Sys2Proof.Word) (s : State) (hκ : Keeps κ s) :
    EffKeeps κ (bodyVgath g w s) := by
  unfold bodyVgath; grind [effKeeps_done, effKeeps_trap, effKeeps_stall, effKeeps_halt, keeps_eq]

grind_pattern bodyVgath_keeps => bodyVgath g w s, Keeps κ s

theorem State.sendBlock_keeps (κ : List Instr × Bool × Tap) (s : State) (p : ℕ) (b : BitVec 1024) (hκ : Keeps κ s) :
    Keeps κ (State.sendBlock s p b) := by
  unfold State.sendBlock; grind [keeps_eq]

grind_pattern State.sendBlock_keeps => State.sendBlock s p b, Keeps κ s

theorem State.stampSync_keeps (κ : List Instr × Bool × Tap) (s : State) (p : ℕ) (f : BitVec 192) (hκ : Keeps κ s) :
    Keeps κ (State.stampSync s p f).2 := by
  unfold State.stampSync; grind [keeps_eq]

grind_pattern State.stampSync_keeps => State.stampSync s p f, Keeps κ s

theorem State.stampAll_keeps (κ : List Instr × Bool × Tap) (s : State) (p : ℕ) (a : List (BitVec 192)) (hκ : Keeps κ s) :
    Keeps κ (State.stampAll s p a).2 := by
  fun_induction State.stampAll s p a <;> grind [keeps_eq]

grind_pattern State.stampAll_keeps => State.stampAll s p a, Keeps κ s

theorem State.sendControl_keeps (κ : List Instr × Bool × Tap) (s : State) (p : ℕ) (hκ : Keeps κ s) :
    Keeps κ (State.sendControl s p) := by
  unfold State.sendControl; grind [keeps_eq]

grind_pattern State.sendControl_keeps => State.sendControl s p, Keeps κ s

theorem State.fillSlots_keeps (κ : List Instr × Bool × Tap) (s : State) (p : ℕ) (a : ℕ) (hκ : Keeps κ s) :
    Keeps κ (State.fillSlots s p a).2 := by
  fun_induction State.fillSlots s p a <;> grind [keeps_eq]

grind_pattern State.fillSlots_keeps => State.fillSlots s p a, Keeps κ s

theorem State.transmitStep_keeps (κ : List Instr × Bool × Tap) (s : State) (p : ℕ) (hκ : Keeps κ s) :
    Keeps κ (State.transmitStep s p) := by
  unfold State.transmitStep
  extract_lets y
  refine keeps_ite hκ (keeps_ite (State.sendControl_keeps κ _ _ hκ) ?_)
  split
  · exact State.sendBlock_keeps κ _ _ _ (State.setPort_keeps κ _ _ _ hκ)
  · refine keeps_ite (State.sendControl_keeps κ _ _ hκ) ?_
    have h := State.fillSlots_keeps κ s p 5 hκ
    split
    · rename_i e; rw [e] at h; exact State.sendControl_keeps κ _ _ h
    · rename_i e; rw [e] at h; exact State.sendBlock_keeps κ _ _ _ (State.setPort_keeps κ _ _ _ h)

grind_pattern State.transmitStep_keeps => State.transmitStep s p, Keeps κ s

theorem State.externalChange_keeps (κ : List Instr × Bool × Tap) (s : State) (hκ : Keeps κ s) :
    Keeps κ (State.externalChange s) := by
  unfold State.externalChange; grind [State.selectSource_keeps, keeps_eq]

grind_pattern State.externalChange_keeps => State.externalChange s, Keeps κ s

theorem State.takeRecord_keeps (κ : List Instr × Bool × Tap) (s : State) (b : ℕ) (bits : BitVec 216) (hκ : Keeps κ s) :
    Keeps κ (State.takeRecord s b bits) := by
  unfold State.takeRecord; grind [keeps_eq]

grind_pattern State.takeRecord_keeps => State.takeRecord s b bits, Keeps κ s

theorem State.serveTrace_keeps (κ : List Instr × Bool × Tap) (s : State) (p : Pkt) (ws : List Sys2Proof.Word) (hκ : Keeps κ s) :
    Keeps κ (State.serveTrace s p ws) := by
  unfold State.serveTrace; grind [keeps_eq]

grind_pattern State.serveTrace_keeps => State.serveTrace s p ws, Keeps κ s

theorem State.writeStores_keeps (κ : List Instr × Bool × Tap) (s : State) (c : ℕ) (o : ℕ) (l : List Sys2Proof.Word) (hκ : Keeps κ s) :
    Keeps κ (State.writeStores s c o l).2 := by
  induction l generalizing s o with
  | nil => exact hκ
  | cons w l ih => exact ih _ _ (keeps_ite hκ (State.writeStore_keeps κ _ _ _ _ hκ))

grind_pattern State.writeStores_keeps => State.writeStores s c o l, Keeps κ s

theorem State.writePort_keeps (κ : List Instr × Bool × Tap) (s : State) (g : ℕ) (a : ℕ) (l : List Sys2Proof.Word) (hκ : Keeps κ s) :
    Keeps κ (State.writePort s g a l).2 := by
  unfold State.writePort; grind [keeps_eq]

grind_pattern State.writePort_keeps => State.writePort s g a l, Keeps κ s

theorem State.serveWrite_keeps (κ : List Instr × Bool × Tap) (s : State) (t : Sys2Proof.Target) (p : Pkt) (ws : List Sys2Proof.Word) (hκ : Keeps κ s) :
    Keeps κ (State.serveWrite s t p ws) := by
  unfold State.serveWrite; grind [keeps_eq]

grind_pattern State.serveWrite_keeps => State.serveWrite s t p ws, Keeps κ s

theorem State.serveAtomic_keeps (κ : List Instr × Bool × Tap) (s : State) (t : Sys2Proof.Target) (p : Pkt) (f : Sys2Proof.Word → Sys2Proof.Word) (hκ : Keeps κ s) :
    Keeps κ (State.serveAtomic s t p f) := by
  unfold State.serveAtomic; grind [keeps_eq]

grind_pattern State.serveAtomic_keeps => State.serveAtomic s t p f, Keeps κ s

theorem State.serveBoot_keeps (κ : List Instr × Bool × Tap) (s : State) (p : Pkt) (hκ : Keeps κ s) :
    Keeps κ (State.serveBoot s p) := by
  unfold State.serveBoot; grind [keeps_eq]

grind_pattern State.serveBoot_keeps => State.serveBoot s p, Keeps κ s

theorem State.serveRead_keeps (κ : List Instr × Bool × Tap) (s : State) (t : Sys2Proof.Target) (p : Pkt) (hκ : Keeps κ s) :
    Keeps κ (State.serveRead s t p) := by
  unfold State.serveRead; grind [keeps_eq]

grind_pattern State.serveRead_keeps => State.serveRead s t p, Keeps κ s

theorem State.takeRequest_keeps (κ : List Instr × Bool × Tap) (s : State) (t : Sys2Proof.Target) (p : Pkt) (l : List Pkt) (hκ : Keeps κ s) :
    Keeps κ (State.takeRequest s t p l) := by
  unfold State.takeRequest; grind [State.cluster_memoryWf, → Keeps.memoryWf, Cluster.memoryWf_eq, keeps_eq]

grind_pattern State.takeRequest_keeps => State.takeRequest s t p l, Keeps κ s

theorem State.serve_keeps (κ : List Instr × Bool × Tap) (s : State) (t : Sys2Proof.Target) (op : ℕ) (hκ : Keeps κ s) :
    Keeps κ (State.serve s t op) := by
  unfold State.serve; grind [keeps_eq]

grind_pattern State.serve_keeps => State.serve s t op, Keeps κ s

theorem withVm_keeps (κ : List Instr × Bool × Tap) (g : ℕ) (w : Sys2Proof.Word) (implied : Core → Sys2Proof.Vec) (s : State) (k : Sys2Proof.Vec → State → Eff) (hk : ∀ u0 u, Keeps κ u → EffKeeps κ (k u0 u)) (hκ : Keeps κ s) :
    EffKeeps κ (withVm g w implied s k) := by
  unfold withVm; grind [effKeeps_done, effKeeps_trap, effKeeps_stall, effKeeps_halt, keeps_eq]

grind_pattern withVm_keeps => withVm g w implied s k, Keeps κ s

theorem vmBody_keeps (κ : List Instr × Bool × Tap) (f : Sys2Proof.Vec → Sys2Proof.Vec → Sys2Proof.Vec) (g : ℕ) (w : Sys2Proof.Word) (s : State) (hκ : Keeps κ s) :
    EffKeeps κ (vmBody f g w s) := by
  unfold vmBody; grind [effKeeps_done, effKeeps_trap, effKeeps_stall, effKeeps_halt, keeps_eq]

grind_pattern vmBody_keeps => vmBody f g w s, Keeps κ s

theorem State.malformed_keeps (κ : List Instr × Bool × Tap) (s : State) (g : ℕ) (code : ℕ) (x : Flit) (hκ : Keeps κ s) :
    Keeps κ (State.malformed s g code x) := by
  unfold State.malformed; grind [keeps_eq]

grind_pattern State.malformed_keeps => State.malformed s g code x, Keeps κ s

theorem State.orderRefire_keeps (κ : List Instr × Bool × Tap) (s : State) (g : ℕ) (f : ℕ) (n : BitVec 14) (e : ℕ) (hκ : Keeps κ s) :
    Keeps κ (State.orderRefire s g f n e) := by
  unfold State.orderRefire; grind [State.tu_memoryWf, → Keeps.memoryWf, TokenUnit.restart_memoryWf, keeps_eq]

grind_pattern State.orderRefire_keeps => State.orderRefire s g f n e, Keeps κ s

theorem State.recomputeStep_keeps (κ : List Instr × Bool × Tap) (s : State) (g : ℕ) (hκ : Keeps κ s) : Keeps κ (State.recomputeStep s g) := by
  unfold State.recomputeStep
  split
  · rename_i f x l _ _
    refine keeps_ite hκ ?_
    have h1 := State.tick1_keeps κ _ g 8 (State.setTu_keeps κ s g { s.tu g with recomp := l } (State.tu_memoryWf s g hκ.memoryWf) hκ)
    have h2 := State.checkCode_keeps κ _ g 6 (tokenSyndrome x.token) h1
    dsimp only
    generalize State.checkCode _ g 6 (tokenSyndrome x.token) = q at h2
    obtain ⟨c, t⟩ := q
    dsimp only at h2 ⊢
    refine keeps_ite (State.raiseFull_keeps κ _ _ _ _ _ _ _ _ (State.tick1_keeps κ _ _ _ h2)) ?_
    split
    · exact State.malformed_keeps κ _ _ _ _ h2
    · refine keeps_ite (State.tick1_keeps κ _ _ _ h2) ?_
      split
      · rename_i e
        have h3 := State.readDesc_keeps κ t g (BitVec.ofNat 14 (tokSlot x.token)).toNat h2
        rw [e] at h3
        exact State.tick1_keeps κ _ _ _ h3
      · rename_i desc u e
        have h3 := State.readDesc_keeps κ t g (BitVec.ofNat 14 (tokSlot x.token)).toNat h2
        rw [e] at h3
        refine keeps_ite (State.tick1_keeps κ _ _ _ h3) (keeps_ite (State.tick1_keeps κ _ _ _ h3) ?_)
        refine foldl_keeps κ _ (fun s a w => State.orderRefire_keeps κ _ _ _ _ _ (State.setTu_keeps κ _ _ _ ?_ w)) _ _ h3
        split <;> exact State.tu_memoryWf s g w.memoryWf
  · exact hκ

grind_pattern State.recomputeStep_keeps => State.recomputeStep s g, Keeps κ s

theorem waitEff_keeps (κ : List Instr × Bool × Tap) (g : ℕ) (k : ℕ) (n : ℕ) (s : State) (hκ : Keeps κ s) :
    EffKeeps κ (waitEff g k n s) := by
  unfold waitEff; grind [effKeeps_done, effKeeps_trap, effKeeps_stall, effKeeps_halt, keeps_eq]

grind_pattern waitEff_keeps => waitEff g k n s, Keeps κ s

theorem State.backupStep_keeps (κ : List Instr × Bool × Tap) (s : State) (hκ : Keeps κ s) :
    Keeps κ (State.backupStep s) := by
  unfold State.backupStep; grind [keeps_eq]

grind_pattern State.backupStep_keeps => State.backupStep s, Keeps κ s

theorem bodyVcmp_keeps (κ : List Instr × Bool × Tap) (g : ℕ) (w : Sys2Proof.Word) (s : State) (hκ : Keeps κ s) :
    EffKeeps κ (bodyVcmp g w s) := by
  unfold bodyVcmp; grind [effKeeps_done, effKeeps_trap, effKeeps_stall, effKeeps_halt, keeps_eq]

grind_pattern bodyVcmp_keeps => bodyVcmp g w s, Keeps κ s

theorem bodyVspl_keeps (κ : List Instr × Bool × Tap) (g : ℕ) (_w : Sys2Proof.Word) (s : State) (hκ : Keeps κ s) :
    EffKeeps κ (bodyVspl g _w s) := by
  unfold bodyVspl; grind [effKeeps_done, effKeeps_trap, effKeeps_stall, effKeeps_halt, keeps_eq]

grind_pattern bodyVspl_keeps => bodyVspl g _w s, Keeps κ s

theorem State.readFan_keeps (κ : List Instr × Bool × Tap) (s : State) (g : ℕ) (a : Activation) (j : ℕ) (hκ : Keeps κ s) :
    Keeps κ (State.readFan s g a j).2 := by
  unfold State.readFan; grind [keeps_eq]

grind_pattern State.readFan_keeps => State.readFan s g a j, Keeps κ s

theorem State.emitOne_keeps (κ : List Instr × Bool × Tap) (s : State) (g : ℕ) (a : Activation) (x : Fan) (v : Sys2Proof.Word) (e : ℕ) (hκ : Keeps κ s) :
    Keeps κ (State.emitOne s g a x v e).2 := by
  unfold State.emitOne; grind [State.tu_memoryWf, → Keeps.memoryWf, TokenUnit.restart_memoryWf, TokenUnit.oblige, keeps_eq]

grind_pattern State.emitOne_keeps => State.emitOne s g a x v e, Keeps κ s

theorem State.refuse_keeps (κ : List Instr × Bool × Tap) (s : State) (g : ℕ) (code : ℕ) (j : ℕ) (hκ : Keeps κ s) :
    Keeps κ (State.refuse s g code j) := by
  unfold State.refuse; grind [keeps_eq]

grind_pattern State.refuse_keeps => State.refuse s g code j, Keeps κ s

theorem emitHalt_keeps (κ : List Instr × Bool × Tap) (s : State) (g : ℕ) (hκ : Keeps κ s) :
    EffKeeps κ (emitHalt s g) := by
  unfold emitHalt; grind [effKeeps_done, effKeeps_trap, effKeeps_stall, effKeeps_halt, keeps_eq]

grind_pattern emitHalt_keeps => emitHalt s g, Keeps κ s

theorem bodyEmit_keeps (κ : List Instr × Bool × Tap) (g : ℕ) (w : Sys2Proof.Word) (s : State) (hκ : Keeps κ s) :
    EffKeeps κ (bodyEmit g w s) := by
  unfold bodyEmit; grind [effKeeps_done, effKeeps_trap, effKeeps_stall, effKeeps_halt, keeps_eq]

grind_pattern bodyEmit_keeps => bodyEmit g w s, Keeps κ s

theorem State.portCount_keeps (κ : List Instr × Bool × Tap) (s : State) (p : ℕ) (sub : ℕ) (hκ : Keeps κ s) :
    Keeps κ (State.portCount s p sub) := by
  unfold State.portCount; grind [keeps_eq]

grind_pattern State.portCount_keeps => State.portCount s p sub, Keeps κ s

theorem State.retrainPort_keeps (κ : List Instr × Bool × Tap) (s : State) (p : ℕ) (hκ : Keeps κ s) :
    Keeps κ (State.retrainPort s p) := by
  unfold State.retrainPort; grind [keeps_eq]

grind_pattern State.retrainPort_keeps => State.retrainPort s p, Keeps κ s

theorem State.replayExhausted_keeps (κ : List Instr × Bool × Tap) (s : State) (p : ℕ) (hκ : Keeps κ s) :
    Keeps κ (State.replayExhausted s p) := by
  unfold State.replayExhausted; grind [keeps_eq]

grind_pattern State.replayExhausted_keeps => State.replayExhausted s p, Keeps κ s

theorem State.replayFrom_keeps (κ : List Instr × Bool × Tap) (s : State) (p : ℕ) (q : BitVec 16) (failed : ℕ) (hκ : Keeps κ s) :
    Keeps κ (State.replayFrom s p q failed) := by
  unfold State.replayFrom; grind [keeps_eq]

grind_pattern State.replayFrom_keeps => State.replayFrom s p q failed, Keeps κ s

theorem State.replayTimeoutStep_keeps (κ : List Instr × Bool × Tap) (s : State) (p : ℕ) (hκ : Keeps κ s) :
    Keeps κ (State.replayTimeoutStep s p) := by
  unfold State.replayTimeoutStep; grind [keeps_eq]

grind_pattern State.replayTimeoutStep_keeps => State.replayTimeoutStep s p, Keeps κ s

theorem State.takeSync_keeps (κ : List Instr × Bool × Tap) (s : State) (p : ℕ) (kind : ℕ) (hκ : Keeps κ s) :
    ∀ t, State.takeSync s p kind = some t → Keeps κ t.2 := by
  unfold State.takeSync; grind [keeps_eq]

theorem loadInto_keeps (κ : List Instr × Bool × Tap) (g : ℕ) (w : Sys2Proof.Word) (code : ℕ) (v : Sys2Proof.Word) (s : State) (hκ : Keeps κ s) :
    EffKeeps κ (loadInto g w code v s) := by
  unfold loadInto; grind [effKeeps_done, effKeeps_trap, effKeeps_stall, effKeeps_halt, keeps_eq]

grind_pattern loadInto_keeps => loadInto g w code v s, Keeps κ s

theorem withPart_keeps (κ : List Instr × Bool × Tap) (g : ℕ) (w : Sys2Proof.Word) (inside : BitVec 5) (s : State) (k : Sys2Proof.Word → State → Eff) (hk : ∀ u0 u, Keeps κ u → EffKeeps κ (k u0 u)) (hκ : Keeps κ s) :
    EffKeeps κ (withPart g w inside s k) := by
  unfold withPart; grind [effKeeps_done, effKeeps_trap, effKeeps_stall, effKeeps_halt, keeps_eq]

grind_pattern withPart_keeps => withPart g w inside s k, Keeps κ s

theorem bodyLdn_keeps (κ : List Instr × Bool × Tap) (g : ℕ) (w : Sys2Proof.Word) (s : State) (hκ : Keeps κ s) :
    EffKeeps κ (bodyLdn g w s) := by
  unfold bodyLdn; grind [effKeeps_done, effKeeps_trap, effKeeps_stall, effKeeps_halt, keeps_eq]

grind_pattern bodyLdn_keeps => bodyLdn g w s, Keeps κ s

theorem State.setTether_keeps (κ : List Instr × Bool × Tap) (s : State) (g : ℕ) (n : ℕ) (hκ : Keeps κ s) :
    Keeps κ (State.setTether s g n) := by
  unfold State.setTether; grind [State.tu_memoryWf, → Keeps.memoryWf, TokenUnit.restart_memoryWf, TokenUnit.payOut, keeps_eq]

grind_pattern State.setTether_keeps => State.setTether s g n, Keeps κ s

theorem State.tetherTo_keeps (κ : List Instr × Bool × Tap) (s : State) (f : ℕ) (n : ℕ) (hκ : Keeps κ s) :
    Keeps κ (State.tetherTo s f n) := by
  unfold State.tetherTo; grind [keeps_eq]

grind_pattern State.tetherTo_keeps => State.tetherTo s f n, Keeps κ s

theorem State.becalmedStep_keeps (κ : List Instr × Bool × Tap) (s : State) (f : ℕ) (hκ : Keeps κ s) :
    Keeps κ (State.becalmedStep s f) := by
  unfold State.becalmedStep; grind [keeps_eq]

grind_pattern State.becalmedStep_keeps => State.becalmedStep s f, Keeps κ s

theorem State.linkControl_keeps (κ : List Instr × Bool × Tap) (s : State) (p : ℕ) (f : BitVec 192) (hκ : Keeps κ s) :
    Keeps κ (State.linkControl s p f) := by
  unfold State.linkControl; grind [keeps_eq]

grind_pattern State.linkControl_keeps => State.linkControl s p f, Keeps κ s

theorem State.takeFlit_keeps (κ : List Instr × Bool × Tap) (s : State) (p : ℕ) (f : BitVec 192) (code : ℕ) (hκ : Keeps κ s) :
    Keeps κ (State.takeFlit s p f code) := by
  unfold State.takeFlit; grind [keeps_eq]

grind_pattern State.takeFlit_keeps => State.takeFlit s p f code, Keeps κ s

theorem State.takeSlots_keeps (κ : List Instr × Bool × Tap) (s : State) (p : ℕ) (b : BitVec 1024) (all : Bool) (v1 : ℕ) (v2 : ℕ) (hκ : Keeps κ s) :
    Keeps κ (State.takeSlots s p b all v1 v2) := by
  fun_induction State.takeSlots s p b all v1 v2 <;> grind [keeps_eq]

grind_pattern State.takeSlots_keeps => State.takeSlots s p b all v1 v2, Keeps κ s

theorem State.blockError_keeps (κ : List Instr × Bool × Tap) (s : State) (p : ℕ) (hκ : Keeps κ s) :
    Keeps κ (State.blockError s p) := by
  unfold State.blockError; grind [keeps_eq]

grind_pattern State.blockError_keeps => State.blockError s p, Keeps κ s

theorem State.takeBlock_keeps (κ : List Instr × Bool × Tap) (s : State) (p : ℕ) (b : BitVec 1024) (hκ : Keeps κ s) :
    Keeps κ (State.takeBlock s p b) := by
  unfold State.takeBlock; grind [keeps_eq]

grind_pattern State.takeBlock_keeps => State.takeBlock s p b, Keeps κ s

theorem State.linkBlockStep_keeps (κ : List Instr × Bool × Tap) (s : State) (p : ℕ) (x : BitVec 1026) (hκ : Keeps κ s) :
    Keeps κ (State.linkBlockStep s p x) := by
  unfold State.linkBlockStep; grind [keeps_eq]

grind_pattern State.linkBlockStep_keeps => State.linkBlockStep s p x, Keeps κ s

theorem State.enterTrain_keeps (κ : List Instr × Bool × Tap) (s : State) (p : ℕ) (hκ : Keeps κ s) :
    Keeps κ (State.enterTrain s p) := by
  unfold State.enterTrain; grind [keeps_eq]

grind_pattern State.enterTrain_keeps => State.enterTrain s p, Keeps κ s

theorem State.applyStage_keeps (κ : List Instr × Bool × Tap) (s : State) (x : Stage) (hκ : Keeps κ s) :
    Keeps κ (State.applyStage s x) := by
  unfold State.applyStage; grind [keeps_eq]

grind_pattern State.applyStage_keeps => State.applyStage s x, Keeps κ s

theorem State.applyStages_keeps (κ : List Instr × Bool × Tap) (s : State) (hκ : Keeps κ s) :
    Keeps κ (State.applyStages s) := by
  unfold State.applyStages; grind [keeps_eq]

grind_pattern State.applyStages_keeps => State.applyStages s, Keeps κ s

theorem State.sequenceStates_keeps (κ : List Instr × Bool × Tap) (t : State) (hκ : Keeps κ t) :
    Keeps κ (State.sequenceStates t) := by
  unfold State.sequenceStates; grind [keeps_eq]

grind_pattern State.sequenceStates_keeps => State.sequenceStates t, Keeps κ t

theorem State.applyRetire_keeps (κ : List Instr × Bool × Tap) (s : State) (x : Stage) (hκ : Keeps κ s) :
    Keeps κ (State.applyRetire s x) := by
  unfold State.applyRetire; grind [keeps_eq]

grind_pattern State.applyRetire_keeps => State.applyRetire s x, Keeps κ s

theorem State.leaveFlight_keeps (κ : List Instr × Bool × Tap) (s : State) (c : ℕ) (hκ : Keeps κ s) :
    Keeps κ (State.leaveFlight s c) := by
  unfold State.leaveFlight; grind [keeps_eq]

grind_pattern State.leaveFlight_keeps => State.leaveFlight s c, Keeps κ s

theorem State.holdPort_keeps (κ : List Instr × Bool × Tap) (s : State) (p : ℕ) (cause : ℕ) (d : ℕ) (hκ : Keeps κ s) :
    Keeps κ (State.holdPort s p cause d) := by
  unfold State.holdPort; grind [keeps_eq]

grind_pattern State.holdPort_keeps => State.holdPort s p cause d, Keeps κ s

theorem State.startPeer_keeps (κ : List Instr × Bool × Tap) (s : State) (hκ : Keeps κ s) :
    Keeps κ (State.startPeer s) := by
  unfold State.startPeer; grind [keeps_eq]

grind_pattern State.startPeer_keeps => State.startPeer s, Keeps κ s

theorem State.connectPort_keeps (κ : List Instr × Bool × Tap) (s : State) (p : ℕ) (i : Sys2Proof.IdentitySet) (hκ : Keeps κ s) :
    Keeps κ (State.connectPort s p i) := by
  unfold State.connectPort; grind [keeps_eq]

grind_pattern State.connectPort_keeps => State.connectPort s p i, Keeps κ s

theorem State.judgeIdentity_keeps (κ : List Instr × Bool × Tap) (s : State) (p : ℕ) (hκ : Keeps κ s) :
    Keeps κ (State.judgeIdentity s p) := by
  unfold State.judgeIdentity; grind [keeps_eq]

grind_pattern State.judgeIdentity_keeps => State.judgeIdentity s p, Keeps κ s

theorem State.announceIds_keeps (κ : List Instr × Bool × Tap) (s : State) (hκ : Keeps κ s) :
    Keeps κ (State.announceIds s) := by
  unfold State.announceIds; grind [keeps_eq]

grind_pattern State.announceIds_keeps => State.announceIds s, Keeps κ s

theorem State.afterValues_keeps (κ : List Instr × Bool × Tap) (s old : State) (hκ : Keeps κ s) : Keeps κ (State.afterValues s old) := by
  unfold State.afterValues
  extract_lets touched s1 s2 s3 c4 s4 s5 s6
  have h1 : Keeps κ s1 := foldl_keeps κ _ (fun s c w => keeps_ite (State.leaveFlight_keeps κ _ _ w) w) _ _ hκ
  have h2 : Keeps κ s2 := State.clearStrobes_keeps κ _ h1
  have h3 : Keeps κ s3 := keeps_ite (State.put_keeps κ _ _ h2) h2
  have h4 : Keeps κ s4 := keeps_ite h3 h3
  have h5 : Keeps κ s5 := keeps_ite h4 h4
  have h6 : Keeps κ s6 := keeps_ite (State.announceIds_keeps κ _ h5) h5
  exact keeps_ite (State.externalChange_keeps κ _ h6) h6

grind_pattern State.afterValues_keeps => State.afterValues s old, Keeps κ s

theorem State.resume_keeps (κ : List Instr × Bool × Tap) (s : State) (f : ℕ) (hκ : Keeps κ s) :
    Keeps κ (State.resume s f) := by
  unfold State.resume; grind [State.tu_memoryWf, → Keeps.memoryWf, TokenUnit.restart_memoryWf, keeps_eq]

grind_pattern State.resume_keeps => State.resume s f, Keeps κ s

theorem State.emptyMatching_keeps (κ : List Instr × Bool × Tap) (s : State) (g : ℕ) (hκ : Keeps κ s) :
    Keeps κ (State.emptyMatching s g) := by
  unfold State.emptyMatching; grind [State.engine_memoryWf, → Keeps.memoryWf, Engine.memoryWf_eq, keeps_eq]

grind_pattern State.emptyMatching_keeps => State.emptyMatching s g, Keeps κ s

theorem State.setReports_keeps (κ : List Instr × Bool × Tap) (s : State) (f : ℕ) (r : ℕ) (hκ : Keeps κ s) :
    Keeps κ (State.setReports s f r) := by
  unfold State.setReports; grind [State.cluster_memoryWf, → Keeps.memoryWf, Cluster.memoryWf_eq, keeps_eq]

grind_pattern State.setReports_keeps => State.setReports s f r, Keeps κ s

theorem State.scanNodes_keeps (κ : List Instr × Bool × Tap) (s : State) (g : ℕ) (f : ℕ) (a : ℕ) (hκ : Keeps κ s) :
    Keeps κ (State.scanNodes s g f a).2 := by
  fun_induction State.scanNodes s g f a <;> grind [keeps_eq]

grind_pattern State.scanNodes_keeps => State.scanNodes s g f a, Keeps κ s

theorem State.scanEngine_keeps (κ : List Instr × Bool × Tap) (s : State) (g : ℕ) (f : ℕ) (hκ : Keeps κ s) :
    Keeps κ (State.scanEngine s g f).2 := by
  unfold State.scanEngine; grind [State.tu_memoryWf, → Keeps.memoryWf, TokenUnit.restart_memoryWf, keeps_eq]

grind_pattern State.scanEngine_keeps => State.scanEngine s g f, Keeps κ s

theorem State.scanSpare_keeps (κ : List Instr × Bool × Tap) (s : State) (g : ℕ) (f : ℕ) (hκ : Keeps κ s) :
    Keeps κ (State.scanSpare s g f) := by
  unfold State.scanSpare; grind [keeps_eq]

grind_pattern State.scanSpare_keeps => State.scanSpare s g f, Keeps κ s

theorem State.restart_keeps (κ : List Instr × Bool × Tap) (s : State) (f : ℕ) (r : ℕ) (full : Bool) (hκ : Keeps κ s) :
    Keeps κ (State.restart s f r full) := by
  unfold State.restart
  extract_lets tmax s1 s2 s3 x s4 s5
  have h1 : Keeps κ s1 := keeps_ite (State.clearImages_keeps κ _ _ (State.emptyBog_keeps κ _ _ hκ)) hκ
  have h2 : Keeps κ s2 := foldl_keeps κ _ (fun s g w => by
    extract_lets s7 t
    have h7 : Keeps κ s7 := State.scanSpare_keeps κ _ _ _ w
    have h : Keeps κ t := keeps_ite (State.emptyMatching_keeps κ _ _ (State.clearJournal_keeps κ _ _ h7)) h7
    exact State.setTu_keeps κ _ _ _ (by rw [TokenUnit.restart_memoryWf]; exact State.tu_memoryWf _ g h.memoryWf) h) _ _ h1
  have h3 : Keeps κ s3 := State.setReports_keeps κ _ _ _ h2
  have h4 : Keeps κ s4 := State.enterFlight_keeps κ _ _ _ (State.setFlight_keeps κ _ _ _ h3)
  have h5 : Keeps κ s5 := State.epochTriggers_keeps κ _ _ _ (State.bogTrigger_keeps κ _ _ h4)
  exact foldl_keeps κ _ (fun s g w => State.sweep_keeps κ _ _ w) _ _ h5

grind_pattern State.restart_keeps => State.restart s f r full, Keeps κ s

theorem State.loadViews_keeps (κ : List Instr × Bool × Tap) (s : State) (f : ℕ) (r : ℕ) (hκ : Keeps κ s) :
    Keeps κ (State.loadViews s f r) := by
  unfold State.loadViews; grind [State.tu_memoryWf, → Keeps.memoryWf, TokenUnit.restart_memoryWf, keeps_eq]

grind_pattern State.loadViews_keeps => State.loadViews s f r, Keeps κ s

theorem State.applyCommand_keeps (κ : List Instr × Bool × Tap) (s : State) (f : ℕ) (root : ℕ) (cmd : ℕ) (arg : ℕ) (hκ : Keeps κ s) :
    Keeps κ (State.applyCommand s f root cmd arg) := by
  unfold State.applyCommand
  extract_lets ports s1 scans fl s3 s4 t
  have h3 : Keeps κ s3 := State.setFlight_keeps κ _ _ _ (State.sendDown_keeps κ _ _ _ hκ)
  have h4 : Keeps κ s4 := State.loadViews_keeps κ _ _ _ h3
  have h : Keeps κ t := by
    simp only [t]
    clear_value s4 s3
    grind [State.restart_keeps, keeps_eq]
  exact State.commandDone_keeps κ _ _ h

grind_pattern State.applyCommand_keeps => State.applyCommand s f root cmd arg, Keeps κ s

theorem State.rootCommand_keeps (κ : List Instr × Bool × Tap) (s : State) (f : ℕ) (cmd : ℕ) (arg : ℕ) (hκ : Keeps κ s) :
    Keeps κ (State.rootCommand s f cmd arg) := by
  unfold State.rootCommand; grind [keeps_eq]

grind_pattern State.rootCommand_keeps => State.rootCommand s f cmd arg, Keeps κ s

theorem State.issueCommands_keeps (κ : List Instr × Bool × Tap) (s : State) (staged : List Stage) (hκ : Keeps κ s) :
    Keeps κ (State.issueCommands s staged) := by
  unfold State.issueCommands; grind [keeps_eq]

grind_pattern State.issueCommands_keeps => State.issueCommands s staged, Keeps κ s

theorem State.applyTxn_keeps (κ : List Instr × Bool × Tap) (s : State) (hκ : Keeps κ s) : Keeps κ (State.applyTxn s) := by
  unfold State.applyTxn
  extract_lets staged old t0 t1 z t2 t3
  have h0 : Keeps κ t0 := foldl_keeps κ _ (fun t x w => State.applyRetire_keeps κ t x w) _ _ (State.applyStages_keeps κ s hκ)
  have h1 : Keeps κ t1 := State.flip_keeps κ _ (State.sequenceStates_keeps κ _ h0)
  have h2 : Keeps κ t2 := by
    refine keeps_ite ?_ h0
    exact Keeps.noc h1 _
  exact State.endTxn_keeps κ _ _ (State.issueCommands_keeps κ _ _ (State.afterValues_keeps κ _ _ h2))

grind_pattern State.applyTxn_keeps => State.applyTxn s, Keeps κ s

theorem State.applyCommit_keeps (κ : List Instr × Bool × Tap) (s : State) (hκ : Keeps κ s) :
    Keeps κ (State.applyCommit s) := by
  unfold State.applyCommit; grind [State.applyTxn_keeps, keeps_eq]

grind_pattern State.applyCommit_keeps => State.applyCommit s, Keeps κ s

theorem bodyLdr_keeps (κ : List Instr × Bool × Tap) (g : ℕ) (w : Sys2Proof.Word) (s : State) (hκ : Keeps κ s) :
    EffKeeps κ (bodyLdr g w s) := by
  unfold bodyLdr; grind [effKeeps_done, effKeeps_trap, effKeeps_stall, effKeeps_halt, keeps_eq]

grind_pattern bodyLdr_keeps => bodyLdr g w s, Keeps κ s

theorem State.identityStep_keeps (κ : List Instr × Bool × Tap) (s : State) (p : ℕ) (i : Sys2Proof.IdentitySet) (hκ : Keeps κ s) :
    Keeps κ (State.identityStep s p i) := by
  unfold State.identityStep; grind [State.setPort_keeps, State.judgeIdentity_keeps, State.announceIds_keeps, keeps_eq]

grind_pattern State.identityStep_keeps => State.identityStep s p i, Keeps κ s

theorem State.farIssue_keeps (κ : List Instr × Bool × Tap) (s : State) (g : ℕ) (k : ℕ) (space : ℕ) (off : ℕ) (op : ℕ) (len : ℕ) (data : List Sys2Proof.Word) (hκ : Keeps κ s) :
    Keeps κ (State.farIssue s g k space off op len data) := by
  unfold State.farIssue; grind [State.cluster_memoryWf, → Keeps.memoryWf, Cluster.memoryWf_eq, keeps_eq]

grind_pattern State.farIssue_keeps => State.farIssue s g k space off op len data, Keeps κ s

theorem farSpaceEff_keeps (κ : List Instr × Bool × Tap) (s : State) (g : ℕ) (w : Sys2Proof.Word) (hκ : Keeps κ s) :
    EffKeeps κ (farSpaceEff s g w) := by
  unfold farSpaceEff; grind [effKeeps_done, effKeeps_trap, effKeeps_stall, effKeeps_halt, keeps_eq]

grind_pattern farSpaceEff_keeps => farSpaceEff s g w, Keeps κ s

theorem bodyFld_keeps (κ : List Instr × Bool × Tap) (g : ℕ) (w : Sys2Proof.Word) (s : State) (hκ : Keeps κ s) :
    EffKeeps κ (bodyFld g w s) := by
  unfold bodyFld; grind [effKeeps_done, effKeeps_trap, effKeeps_stall, effKeeps_halt, keeps_eq]

grind_pattern bodyFld_keeps => bodyFld g w s, Keeps κ s

theorem bodyFsync_keeps (κ : List Instr × Bool × Tap) (g : ℕ) (_w : Sys2Proof.Word) (s : State) (hκ : Keeps κ s) :
    EffKeeps κ (bodyFsync g _w s) := by
  unfold bodyFsync; grind [effKeeps_done, effKeeps_trap, effKeeps_stall, effKeeps_halt, keeps_eq]

grind_pattern bodyFsync_keeps => bodyFsync g _w s, Keeps κ s

theorem State.timeConflict_keeps (κ : List Instr × Bool × Tap) (s : State) (source : ℕ) (hκ : Keeps κ s) :
    Keeps κ (State.timeConflict s source) := by
  unfold State.timeConflict; grind [State.raise_keeps, keeps_eq]

grind_pattern State.timeConflict_keeps => State.timeConflict s source, Keeps κ s

theorem State.checkLock_keeps (κ : List Instr × Bool × Tap) (s : State) (hκ : Keeps κ s) :
    Keeps κ (State.checkLock s) := by
  unfold State.checkLock; grind [State.goLive_keeps, State.becomeMaster_keeps, keeps_eq]

grind_pattern State.checkLock_keeps => State.checkLock s, Keeps κ s

theorem State.slew_keeps (κ : List Instr × Bool × Tap) (s : State) (hκ : Keeps κ s) :
    Keeps κ (State.slew s) := by
  unfold State.slew; grind [keeps_eq]

grind_pattern State.slew_keeps => State.slew s, Keeps κ s

theorem State.clearRecords_keeps (κ : List Instr × Bool × Tap) (s : State) (hκ : Keeps κ s) :
    Keeps κ (State.clearRecords s) := State.afterClear_keeps κ _ _ hκ

grind_pattern State.clearRecords_keeps => State.clearRecords s, Keeps κ s

theorem State.stepTime_keeps (κ : List Instr × Bool × Tap) (s : State) (offset : ℤ) (hκ : Keeps κ s) :
    Keeps κ (State.stepTime s offset) := State.clearRecords_keeps κ _ hκ

grind_pattern State.stepTime_keeps => State.stepTime s offset, Keeps κ s

theorem State.exchange_keeps (κ : List Instr × Bool × Tap) (s : State) (offset : ℤ) (hκ : Keeps κ s) :
    Keeps κ (State.exchange s offset) := by
  unfold State.exchange
  extract_lets z1 s1 live z2 s2 s3 z4 s4
  have h1 : Keeps κ s1 := Keeps.of hκ rfl rfl rfl rfl rfl rfl rfl
  have h2 : Keeps κ s2 := Keeps.of h1 rfl rfl rfl rfl rfl rfl rfl
  have h3 : Keeps κ s3 := keeps_ite (State.stepTime_keeps κ _ _ h2) (State.slew_keeps κ _ h2)
  have h4 : Keeps κ s4 := Keeps.of h3 rfl rfl rfl rfl rfl rfl rfl
  exact keeps_ite (State.timeConflict_keeps κ _ _ (Keeps.of h1 rfl rfl rfl rfl rfl rfl rfl)) (State.checkLock_keeps κ _ h4)

grind_pattern State.exchange_keeps => State.exchange s offset, Keeps κ s

theorem State.syncResponseStep_keeps (κ : List Instr × Bool × Tap) (s : State) (p : ℕ) (hκ : Keeps κ s) :
    Keeps κ (State.syncResponseStep s p) := by
  unfold State.syncResponseStep
  split
  · exact hκ
  · rename_i f x s1 h
    have h1 := State.takeSync_keeps κ s p 1 hκ _ h
    have h2 : Keeps κ { s1 with time := { s1.time with lost := s1.time.lost + 1 } } := Keeps.of h1 rfl rfl rfl rfl rfl rfl rfl
    split
    · exact keeps_ite h2 (State.exchange_keeps κ _ _ h1)
    · exact h2

grind_pattern State.syncResponseStep_keeps => State.syncResponseStep s p, Keeps κ s

theorem State.syncResponse_keeps (κ : List Instr × Bool × Tap) (s : State) (d : Sys2Proof.RspDst) (hκ : Keeps κ s) :
    Keeps κ (State.syncResponse s d) := by
  unfold State.syncResponse; grind [keeps_eq]

grind_pattern State.syncResponse_keeps => State.syncResponse s d, Keeps κ s

theorem State.fecStep_keeps (κ : List Instr × Bool × Tap) (s : State) (p : ℕ) (blocks : List (BitVec 1026)) (count : BitVec 10) (errors : ℕ) (hκ : Keeps κ s) :
    Keeps κ (State.fecStep s p blocks count errors) := by
  unfold State.fecStep; grind [keeps_eq]

grind_pattern State.fecStep_keeps => State.fecStep s p blocks count errors, Keeps κ s

theorem State.enterDiscover_keeps (κ : List Instr × Bool × Tap) (s : State) (p : ℕ) (hκ : Keeps κ s) :
    Keeps κ (State.enterDiscover s p) := by
  unfold State.enterDiscover; grind [keeps_eq]

grind_pattern State.enterDiscover_keeps => State.enterDiscover s p, Keeps κ s

theorem bodyFst_keeps (κ : List Instr × Bool × Tap) (g : ℕ) (w : Sys2Proof.Word) (s : State) (hκ : Keeps κ s) :
    EffKeeps κ (bodyFst g w s) := by
  unfold bodyFst; grind [effKeeps_done, effKeeps_trap, effKeeps_stall, effKeeps_halt, keeps_eq]

grind_pattern bodyFst_keeps => bodyFst g w s, Keeps κ s

theorem State.gainUrgency_keeps (κ : List Instr × Bool × Tap) (s : State) (k : ℕ) (i : ℕ) (v : ℕ) (u : Bool) (hκ : Keeps κ s) :
    Keeps κ (State.gainUrgency s k i v u) := by
  unfold State.gainUrgency; grind [keeps_eq]

grind_pattern State.gainUrgency_keeps => State.gainUrgency s k i v u, Keeps κ s

theorem bodyAtomic_keeps (κ : List Instr × Bool × Tap) (f : Sys2Proof.Word → Sys2Proof.Word → Sys2Proof.Word) (g : ℕ) (w : Sys2Proof.Word) (s : State) (hκ : Keeps κ s) :
    EffKeeps κ (bodyAtomic f g w s) := by
  unfold bodyAtomic; grind [effKeeps_done, effKeeps_trap, effKeeps_stall, effKeeps_halt, keeps_eq]

grind_pattern bodyAtomic_keeps => bodyAtomic f g w s, Keeps κ s

theorem State.enterRestore_keeps (κ : List Instr × Bool × Tap) (s : State) (d : ℕ) (hκ : Keeps κ s) :
    Keeps κ (State.enterRestore s d) := by
  unfold State.enterRestore; grind [State.setDomain_keeps, State.setPort_keeps, State.resetSource_keeps, foldl_keeps, keeps_eq]

grind_pattern State.enterRestore_keeps => State.enterRestore s d, Keeps κ s

theorem State.endDrain_keeps (κ : List Instr × Bool × Tap) (s : State) (d : ℕ) (hκ : Keeps κ s) :
    Keeps κ (State.endDrain s d) := by
  unfold State.endDrain; grind [keeps_eq]

grind_pattern State.endDrain_keeps => State.endDrain s d, Keeps κ s

theorem bodyVlut_keeps (κ : List Instr × Bool × Tap) (g : ℕ) (w : Sys2Proof.Word) (s : State) (hκ : Keeps κ s) :
    EffKeeps κ (bodyVlut g w s) := by
  unfold bodyVlut; grind [effKeeps_done, effKeeps_trap, effKeeps_stall, effKeeps_halt, keeps_eq]

grind_pattern bodyVlut_keeps => bodyVlut g w s, Keeps κ s

theorem bodySthf_keeps (κ : List Instr × Bool × Tap) (g : ℕ) (w : Sys2Proof.Word) (s : State) (hκ : Keeps κ s) :
    EffKeeps κ (bodySthf g w s) := by
  unfold bodySthf; grind [effKeeps_done, effKeeps_trap, effKeeps_stall, effKeeps_halt, keeps_eq]

grind_pattern bodySthf_keeps => bodySthf g w s, Keeps κ s

theorem bodyStp_keeps (κ : List Instr × Bool × Tap) (g : ℕ) (w : Sys2Proof.Word) (s : State) (hκ : Keeps κ s) :
    EffKeeps κ (bodyStp g w s) := by
  unfold bodyStp; grind [effKeeps_done, effKeeps_trap, effKeeps_stall, effKeeps_halt, keeps_eq]

grind_pattern bodyStp_keeps => bodyStp g w s, Keeps κ s

theorem bodyLd_keeps (κ : List Instr × Bool × Tap) (g : ℕ) (w : Sys2Proof.Word) (s : State) (hκ : Keeps κ s) :
    EffKeeps κ (bodyLd g w s) := by
  unfold bodyLd; grind [effKeeps_done, effKeeps_trap, effKeeps_stall, effKeeps_halt, keeps_eq]

grind_pattern bodyLd_keeps => bodyLd g w s, Keeps κ s

theorem State.sendClusterReport_keeps (κ : List Instr × Bool × Tap) (s : State) (c : ℕ) (f : ℕ) (v : ℕ) (hκ : Keeps κ s) :
    Keeps κ (State.sendClusterReport s c f v) := by
  unfold State.sendClusterReport; grind [State.cluster_memoryWf, → Keeps.memoryWf, Cluster.memoryWf_eq, keeps_eq]

grind_pattern State.sendClusterReport_keeps => State.sendClusterReport s c f v, Keeps κ s

theorem State.sendDeviceReport_keeps (κ : List Instr × Bool × Tap) (s : State) (f : ℕ) (v : ℕ) (hκ : Keeps κ s) :
    Keeps κ (State.sendDeviceReport s f v) := by
  unfold State.sendDeviceReport; grind [keeps_eq]

grind_pattern State.sendDeviceReport_keeps => State.sendDeviceReport s f v, Keeps κ s

theorem State.sendEngineReport_keeps (κ : List Instr × Bool × Tap) (s : State) (g : ℕ) (f : ℕ) (hκ : Keeps κ s) :
    Keeps κ (State.sendEngineReport s g f) := by
  unfold State.sendEngineReport; grind [State.tu_memoryWf, → Keeps.memoryWf, TokenUnit.restart_memoryWf, keeps_eq]

grind_pattern State.sendEngineReport_keeps => State.sendEngineReport s g f, Keeps κ s

theorem State.repeatStep_keeps (κ : List Instr × Bool × Tap) (s : State) (f : ℕ) (r : Sys2Proof.Reporter) (hκ : Keeps κ s) :
    Keeps κ (State.repeatStep s f r) := by
  unfold State.repeatStep; grind [keeps_eq]

grind_pattern State.repeatStep_keeps => State.repeatStep s f r, Keeps κ s

theorem State.statusStep_keeps (κ : List Instr × Bool × Tap) (s : State) (p : ℕ) (hκ : Keeps κ s) :
    Keeps κ (State.statusStep s p) := by
  unfold State.statusStep; grind [keeps_eq]

grind_pattern State.statusStep_keeps => State.statusStep s p, Keeps κ s

theorem State.hotWatch_keeps (κ : List Instr × Bool × Tap) (s : State) (hκ : Keeps κ s) : Keeps κ (State.hotWatch s) := by
  unfold State.hotWatch
  extract_lets sec s1
  have h1 : Keeps κ s1 := keeps_ite (State.bump_keeps κ _ _ _ _ (Keeps.of hκ rfl rfl rfl rfl rfl rfl rfl)) hκ
  exact keeps_ite (Keeps.of h1 rfl rfl rfl rfl rfl rfl rfl) h1

grind_pattern State.hotWatch_keeps => State.hotWatch s, Keeps κ s

theorem State.capWatch_keeps (κ : List Instr × Bool × Tap) (s : State) (hκ : Keeps κ s) :
    Keeps κ (State.capWatch s) := by
  unfold State.capWatch; grind [State.fresh_keeps, State.raise_keeps, keeps_eq]

grind_pattern State.capWatch_keeps => State.capWatch s, Keeps κ s

theorem State.hbmWatch_keeps (κ : List Instr × Bool × Tap) (s : State) (hκ : Keeps κ s) :
    Keeps κ (State.hbmWatch s) := by
  unfold State.hbmWatch; grind [State.raise_keeps, foldl_keeps, keeps_eq]

grind_pattern State.hbmWatch_keeps => State.hbmWatch s, Keeps κ s

theorem State.setCeiling_keeps (κ : List Instr × Bool × Tap) (s : State) (c : ℕ) (v : ℕ) (hκ : Keeps κ s) :
    Keeps κ (State.setCeiling s c v) := by
  unfold State.setCeiling; grind [State.cluster_memoryWf, → Keeps.memoryWf, Cluster.memoryWf_eq, keeps_eq]

grind_pattern State.setCeiling_keeps => State.setCeiling s c v, Keeps κ s

theorem State.lowerCeiling_keeps (κ : List Instr × Bool × Tap) (s : State) (c : ℕ) (hκ : Keeps κ s) :
    Keeps κ (State.lowerCeiling s c) := by
  unfold State.lowerCeiling; grind [keeps_eq]

grind_pattern State.lowerCeiling_keeps => State.lowerCeiling s c, Keeps κ s

theorem State.thermalDecision_keeps (κ : List Instr × Bool × Tap) (s : State) (cp : List ℕ) (hκ : Keeps κ s) :
    Keeps κ (State.thermalDecision s cp) := by
  unfold State.thermalDecision; grind [keeps_eq]

grind_pattern State.thermalDecision_keeps => State.thermalDecision s cp, Keeps κ s

theorem State.clockAction_keeps (κ : List Instr × Bool × Tap) (s : State) (f : ℕ) (c : ℕ) (hκ : Keeps κ s) :
    Keeps κ (State.clockAction s f c) := by
  unfold State.clockAction; grind [State.cluster_memoryWf, → Keeps.memoryWf, Cluster.memoryWf_eq, keeps_eq]

grind_pattern State.clockAction_keeps => State.clockAction s f c, Keeps κ s

theorem State.retryClock_keeps (κ : List Instr × Bool × Tap) (s : State) (c : ℕ) (hκ : Keeps κ s) :
    Keeps κ (State.retryClock s c) := by
  unfold State.retryClock; grind [keeps_eq]

grind_pattern State.retryClock_keeps => State.retryClock s c, Keeps κ s

theorem State.tetherSampleStep_keeps (κ : List Instr × Bool × Tap) (s : State) (f : ℕ) (hκ : Keeps κ s) :
    Keeps κ (State.tetherSampleStep s f) := by
  unfold State.tetherSampleStep; grind [keeps_eq]

grind_pattern State.tetherSampleStep_keeps => State.tetherSampleStep s f, Keeps κ s

theorem bodyFarAtomic_keeps (κ : List Instr × Bool × Tap) (op : ℕ) (g : ℕ) (w : Sys2Proof.Word) (s : State) (hκ : Keeps κ s) :
    EffKeeps κ (bodyFarAtomic op g w s) := by
  unfold bodyFarAtomic; grind [effKeeps_done, effKeeps_trap, effKeeps_stall, effKeeps_halt, keeps_eq]

grind_pattern bodyFarAtomic_keeps => bodyFarAtomic op g w s, Keeps κ s

theorem State.syncTimer_keeps (κ : List Instr × Bool × Tap) (s : State) (hκ : Keeps κ s) :
    Keeps κ (State.syncTimer s) := by
  unfold State.syncTimer; grind [State.queueSync_keeps, keeps_eq]

grind_pattern State.syncTimer_keeps => State.syncTimer s, Keeps κ s

theorem State.shutdownStep_keeps (κ : List Instr × Bool × Tap) (s : State) (p : ℕ) (hκ : Keeps κ s) :
    Keeps κ (State.shutdownStep s p) := by
  unfold State.shutdownStep; grind [keeps_eq]

grind_pattern State.shutdownStep_keeps => State.shutdownStep s p, Keeps κ s

theorem State.haltReplyStep_keeps (κ : List Instr × Bool × Tap) (s : State) (p : ℕ) (f : ℕ) (highest : ℕ) (hκ : Keeps κ s) :
    Keeps κ (State.haltReplyStep s p f highest) := by
  unfold State.haltReplyStep; grind [keeps_eq]

grind_pattern State.haltReplyStep_keeps => State.haltReplyStep s p f highest, Keeps κ s

theorem State.trainingFails_keeps (κ : List Instr × Bool × Tap) (s : State) (p : ℕ) (hκ : Keeps κ s) :
    Keeps κ (State.trainingFails s p) := by
  unfold State.trainingFails; grind [keeps_eq]

grind_pattern State.trainingFails_keeps => State.trainingFails s p, Keeps κ s

theorem State.valueTriggers_keeps (κ : List Instr × Bool × Tap) (s : State) (l : ℕ) (tok : BitVec 96) (epoch : ℕ) (hκ : Keeps κ s) :
    Keeps κ (State.valueTriggers s l tok epoch) := by
  unfold State.valueTriggers; grind [keeps_eq]

grind_pattern State.valueTriggers_keeps => State.valueTriggers s l tok epoch, Keeps κ s

theorem State.sendRecord_keeps (κ : List Instr × Bool × Tap) (s : State) (g : ℕ) (b : ℕ) (bits : BitVec 216) (hκ : Keeps κ s) :
    Keeps κ (State.sendRecord s g b bits) := by
  have hw := State.tu_memoryWf s g hκ.memoryWf
  unfold State.sendRecord
  extract_lets t k entry z1 bits2 s1 words src
  have h1 : Keeps κ s1 := State.setTu_keeps κ _ _ _ hw hκ
  exact keeps_ite (State.setTu_keeps κ _ _ _ hw (Keeps.of hκ rfl rfl rfl rfl rfl rfl rfl)) (State.sendPacket_keeps κ _ _ _ _ _ _ _ _ h1)

grind_pattern State.sendRecord_keeps => State.sendRecord s g b bits, Keeps κ s

theorem State.traceToken_keeps (κ : List Instr × Bool × Tap) (s : State) (g : ℕ) (tok : BitVec 96) (e : ℕ) (kind : ℕ) (hκ : Keeps κ s) :
    Keeps κ (State.traceToken s g tok e kind) := by
  unfold State.traceToken; grind [State.sendRecord_keeps, keeps_eq]

grind_pattern State.traceToken_keeps => State.traceToken s g tok e kind, Keeps κ s

theorem State.evaluateNode_keeps (κ : List Instr × Bool × Tap) (s : State) (g : ℕ) (n : ℕ) (hκ : Keeps κ s) :
    Keeps κ (State.evaluateNode s g n) := by
  unfold State.evaluateNode; grind [keeps_eq]

grind_pattern State.evaluateNode_keeps => State.evaluateNode s g n, Keeps κ s

theorem State.handToBog_keeps (κ : List Instr × Bool × Tap) (s : State) (g : ℕ) (e : ℕ) (x : Flit) (hκ : Keeps κ s) :
    Keeps κ (State.handToBog s g e x) := by
  unfold State.handToBog; grind [keeps_eq]

grind_pattern State.handToBog_keeps => State.handToBog s g e x, Keeps κ s

theorem State.settle_keeps (κ : List Instr × Bool × Tap) (s : State) (g : ℕ) (node : BitVec 14) (seq : BitVec 6) (tag : BitVec 8) (hκ : Keeps κ s) :
    Keeps κ (State.settle s g node seq tag) := by
  unfold State.settle; grind [State.tu_memoryWf, → Keeps.memoryWf, TokenUnit.restart_memoryWf, TokenUnit.settle, TokenUnit.answered, keeps_eq]

grind_pattern State.settle_keeps => State.settle s g node seq tag, Keeps κ s

theorem State.acceptToken_keeps (κ : List Instr × Bool × Tap) (s : State) (g : ℕ) (q : Sys2Proof.QueueSrc) (x : Flit) (hκ : Keeps κ s) :
    Keeps κ (State.acceptToken s g q x) := by
  unfold State.acceptToken; grind [keeps_eq]

grind_pattern State.acceptToken_keeps => State.acceptToken s g q x, Keeps κ s

theorem State.arrive_keeps (κ : List Instr × Bool × Tap) (s : State) (g : ℕ) (f : ℕ) (q : Sys2Proof.QueueSrc) (x : Flit) (d : ℕ) (owner : ℕ) (hκ : Keeps κ s) :
    Keeps κ (State.arrive s g f q x d owner) := by
  unfold State.arrive; grind [State.valueTriggers_keeps, State.traceToken_keeps, State.readEntry_keeps, State.raise_keeps, State.evaluateNode_keeps, State.tick1_keeps, State.handToBog_keeps, State.acceptToken_keeps, keeps_eq]

grind_pattern State.arrive_keeps => State.arrive s g f q x d owner, Keeps κ s

theorem State.checks6to9_keeps (κ : List Instr × Bool × Tap) (s : State) (g : ℕ) (q : Sys2Proof.QueueSrc) (x : Flit) (hκ : Keeps κ s) :
    Keeps κ (State.checks6to9 s g q x) := by
  unfold State.checks6to9; grind [keeps_eq]

grind_pattern State.checks6to9_keeps => State.checks6to9 s g q x, Keeps κ s

theorem State.popQueue_keeps (κ : List Instr × Bool × Tap) (s : State) (g : ℕ) (q : Sys2Proof.QueueSrc) (hκ : Keeps κ s) :
    Keeps κ (State.popQueue s g q) := by
  unfold State.popQueue; grind [State.tu_memoryWf, → Keeps.memoryWf, TokenUnit.restart_memoryWf, keeps_eq]

grind_pattern State.popQueue_keeps => State.popQueue s g q, Keeps κ s

theorem State.badToken_keeps (κ : List Instr × Bool × Tap) (s : State) (g : ℕ) (x : Flit) (c : CodeCheck) (hκ : Keeps κ s) :
    Keeps κ (State.badToken s g x c) := by
  unfold State.badToken; grind [keeps_eq]

grind_pattern State.badToken_keeps => State.badToken s g x c, Keeps κ s

theorem State.tokenArrivalStep_keeps (κ : List Instr × Bool × Tap) (s : State) (g : ℕ) (q : Sys2Proof.QueueSrc) (hκ : Keeps κ s) :
    Keeps κ (State.tokenArrivalStep s g q) := by
  unfold State.tokenArrivalStep; grind [keeps_eq]

grind_pattern State.tokenArrivalStep_keeps => State.tokenArrivalStep s g q, Keeps κ s

theorem State.lapStep_keeps (κ : List Instr × Bool × Tap) (s : State) (n : ℕ) (r : ℕ) (poisoned : ℕ) (leaves : Bool) (hκ : Keeps κ s) :
    Keeps κ (State.lapStep s n r poisoned leaves) := by
  unfold State.lapStep; grind [State.setObj_keeps, keeps_eq]

grind_pattern State.lapStep_keeps => State.lapStep s n r poisoned leaves, Keeps κ s

theorem State.dredgeFault_keeps (κ : List Instr × Bool × Tap) (s : State) (src : ℕ) (adr : ℕ) (region : ℕ) (injected : Bool) (during : Bool) (hκ : Keeps κ s) :
    Keeps κ (State.dredgeFault s src adr region injected during) := by
  unfold State.dredgeFault; grind [keeps_eq]

grind_pattern State.dredgeFault_keeps => State.dredgeFault s src adr region injected during, Keeps κ s

theorem State.dredgeHbm_keeps (κ : List Instr × Bool × Tap) (s : State) (n : ℕ) (hκ : Keeps κ s) :
    Keeps κ (State.dredgeHbm s n) := by
  unfold State.dredgeHbm; grind [State.lapStep_keeps, State.readLine_keeps, State.dredgeFault_keeps, keeps_eq]

grind_pattern State.dredgeHbm_keeps => State.dredgeHbm s n, Keeps κ s

theorem bodySt_keeps (κ : List Instr × Bool × Tap) (g : ℕ) (w : Sys2Proof.Word) (s : State) (hκ : Keeps κ s) :
    EffKeeps κ (bodySt g w s) := by
  unfold bodySt; grind [effKeeps_done, effKeeps_trap, effKeeps_stall, effKeeps_halt, keeps_eq]

grind_pattern bodySt_keeps => bodySt g w s, Keeps κ s

theorem State.retireStep_keeps (κ : List Instr × Bool × Tap) (s : State) (g : ℕ) (hκ : Keeps κ s) :
    Keeps κ (State.retireStep s g) := by
  unfold State.retireStep; grind [State.tu_memoryWf, → Keeps.memoryWf, TokenUnit.restart_memoryWf, keeps_eq]

grind_pattern State.retireStep_keeps => State.retireStep s g, Keeps κ s

theorem bodyVcnt_keeps (κ : List Instr × Bool × Tap) (g : ℕ) (w : Sys2Proof.Word) (s : State) (hκ : Keeps κ s) :
    EffKeeps κ (bodyVcnt g w s) := by
  unfold bodyVcnt; grind [effKeeps_done, effKeeps_trap, effKeeps_stall, effKeeps_halt, keeps_eq]

grind_pattern bodyVcnt_keeps => bodyVcnt g w s, Keeps κ s

theorem emitRun_keeps (κ : List Instr × Bool × Tap) (g : ℕ) (v1 : ℕ) (v2 : ℕ) (v3 : Option (ℕ × ℕ)) (v4 : State) (hκ : Keeps κ v4) :
    EffKeeps κ (emitRun g v1 v2 v3 v4) := by
  fun_induction emitRun g v1 v2 v3 v4 <;> grind [effKeeps_done, effKeeps_trap, effKeeps_stall, effKeeps_halt, keeps_eq]

grind_pattern emitRun_keeps => emitRun g v1 v2 v3 v4, Keeps κ v4

theorem bodyEmitl_keeps (κ : List Instr × Bool × Tap) (g : ℕ) (w : Sys2Proof.Word) (s : State) (hκ : Keeps κ s) :
    EffKeeps κ (bodyEmitl g w s) := by
  unfold bodyEmitl; grind [effKeeps_done, effKeeps_trap, effKeeps_stall, effKeeps_halt, keeps_eq]

grind_pattern bodyEmitl_keeps => bodyEmitl g w s, Keeps κ s

theorem State.commandStep_keeps (κ : List Instr × Bool × Tap) (s : State) (p : ℕ) (f : ℕ) (root : ℕ) (cmd : ℕ) (arg : ℕ) (hκ : Keeps κ s) :
    Keeps κ (State.commandStep s p f root cmd arg) := by
  unfold State.commandStep; grind [keeps_eq]

grind_pattern State.commandStep_keeps => State.commandStep s p f root cmd arg, Keeps κ s

theorem bodyEmitm_keeps (κ : List Instr × Bool × Tap) (g : ℕ) (w : Sys2Proof.Word) (s : State) (hκ : Keeps κ s) :
    EffKeeps κ (bodyEmitm g w s) := by
  unfold bodyEmitm; grind [State.markSlot_keeps, State.readFan_keeps, State.emitOne_keeps, State.refuse_keeps, emitHalt_keeps, Eff.next_keeps, State.evaluateNode_keeps, State.engineRead_keeps, effKeeps_done, effKeeps_trap, effKeeps_stall, effKeeps_halt, keeps_eq]

grind_pattern bodyEmitm_keeps => bodyEmitm g w s, Keeps κ s

theorem bodyVperm_keeps (κ : List Instr × Bool × Tap) (g : ℕ) (w : Sys2Proof.Word) (s : State) (hκ : Keeps κ s) :
    EffKeeps κ (bodyVperm g w s) := by
  unfold bodyVperm; grind [effKeeps_done, effKeeps_trap, effKeeps_stall, effKeeps_halt, keeps_eq]

grind_pattern bodyVperm_keeps => bodyVperm g w s, Keeps κ s

theorem bodyLdhf_keeps (κ : List Instr × Bool × Tap) (g : ℕ) (w : Sys2Proof.Word) (s : State) (hκ : Keeps κ s) :
    EffKeeps κ (bodyLdhf g w s) := by
  unfold bodyLdhf; grind [effKeeps_done, effKeeps_trap, effKeeps_stall, effKeeps_halt, keeps_eq]

grind_pattern bodyLdhf_keeps => bodyLdhf g w s, Keeps κ s

theorem State.acceptStep_keeps (κ : List Instr × Bool × Tap) (s : State) (g : ℕ) (hκ : Keeps κ s) :
    Keeps κ (State.acceptStep s g) := by
  unfold State.acceptStep; grind [State.engine_memoryWf, → Keeps.memoryWf, Engine.memoryWf_eq, keeps_eq]

grind_pattern State.acceptStep_keeps => State.acceptStep s g, Keeps κ s

theorem State.ppsDiscipline_keeps (κ : List Instr × Bool × Tap) (s : State) (hκ : Keeps κ s) :
    Keeps κ (State.ppsDiscipline s) := by
  unfold State.ppsDiscipline; grind [State.timeConflict_keeps, State.goLive_keeps, State.slew_keeps, State.stepTime_keeps, State.becomeMaster_keeps, keeps_eq]

grind_pattern State.ppsDiscipline_keeps => State.ppsDiscipline s, Keeps κ s

theorem State.ppsEdge_keeps (κ : List Instr × Bool × Tap) (s : State) (hκ : Keeps κ s) :
    Keeps κ (State.ppsEdge s) := by
  unfold State.ppsEdge; grind [State.ppsDiscipline_keeps, State.externalChange_keeps, keeps_eq]

grind_pattern State.ppsEdge_keeps => State.ppsEdge s, Keeps κ s

theorem State.tripClusters_keeps (κ : List Instr × Bool × Tap) (s : State) (temp : ℤ) (hκ : Keeps κ s) :
    Keeps κ (State.tripClusters s temp) := by
  unfold State.tripClusters
  extract_lets s1
  have h1 : Keeps κ s1 := foldl_keeps κ _ (fun s c w => State.raise_keeps κ _ _ _ _ _ _
    (State.setDomain_keeps κ _ _ _ (State.isolateCluster_keeps κ _ _ w))) _ _ (Keeps.of hκ rfl rfl rfl rfl rfl rfl rfl)
  exact keeps_ite (State.enterDev_keeps κ _ _ h1) h1

grind_pattern State.tripClusters_keeps => State.tripClusters s temp, Keeps κ s

theorem fpCompletionStep_keeps (κ : List Instr × Bool × Tap) (g : ℕ) (s : State) (hκ : Keeps κ s) :
    Keeps κ (fpCompletionStep g s) := by
  unfold fpCompletionStep; grind [keeps_eq]

grind_pattern fpCompletionStep_keeps => fpCompletionStep g s, Keeps κ s

theorem State.clusterReduce_keeps (κ : List Instr × Bool × Tap) (s : State) (c : ℕ) (f : ℕ) (hκ : Keeps κ s) :
    Keeps κ (State.clusterReduce s c f) := by
  unfold State.clusterReduce; grind [keeps_eq]

grind_pattern State.clusterReduce_keeps => State.clusterReduce s c f, Keeps κ s

theorem State.clusterReportStep_keeps (κ : List Instr × Bool × Tap) (s : State) (c : ℕ) (hκ : Keeps κ s) :
    Keeps κ (State.clusterReportStep s c) := by
  unfold State.clusterReportStep; grind [State.cluster_memoryWf, → Keeps.memoryWf, Cluster.memoryWf_eq, keeps_eq]

grind_pattern State.clusterReportStep_keeps => State.clusterReportStep s c, Keeps κ s

theorem State.deviceReduce_keeps (κ : List Instr × Bool × Tap) (s : State) (f : ℕ) (hκ : Keeps κ s) :
    Keeps κ (State.deviceReduce s f) := by
  unfold State.deviceReduce; grind [keeps_eq]

grind_pattern State.deviceReduce_keeps => State.deviceReduce s f, Keeps κ s

theorem State.deviceReportStep_keeps (κ : List Instr × Bool × Tap) (s : State) (hκ : Keeps κ s) :
    Keeps κ (State.deviceReportStep s) := by
  unfold State.deviceReportStep; grind [State.setFlight_keeps, State.raise_keeps, State.deviceReduce_keeps, keeps_eq]

grind_pattern State.deviceReportStep_keeps => State.deviceReportStep s, Keeps κ s

theorem bodyVscat_keeps (κ : List Instr × Bool × Tap) (g : ℕ) (w : Sys2Proof.Word) (s : State) (hκ : Keeps κ s) :
    EffKeeps κ (bodyVscat g w s) := by
  unfold bodyVscat; grind [effKeeps_done, effKeeps_trap, effKeeps_stall, effKeeps_halt, keeps_eq]

grind_pattern bodyVscat_keeps => bodyVscat g w s, Keeps κ s

theorem State.scanStep_keeps (κ : List Instr × Bool × Tap) (s : State) (g : ℕ) (hκ : Keeps κ s) :
    Keeps κ (State.scanStep s g) := by
  unfold State.scanStep; grind [State.loadViews_keeps, State.setFlight_keeps, State.undoLoad_keeps, State.enterFlight_keeps, State.scanEngine_keeps, State.commandDone_keeps, State.sendUp_keeps, keeps_eq]

grind_pattern State.scanStep_keeps => State.scanStep s g, Keeps κ s

theorem State.startQueued_keeps (κ : List Instr × Bool × Tap) (s : State) (d : ℕ) (hκ : Keeps κ s) :
    Keeps κ (State.startQueued s d) := by
  unfold State.startQueued; grind [keeps_eq]

grind_pattern State.startQueued_keeps => State.startQueued s d, Keeps κ s

theorem State.endRestore_keeps (κ : List Instr × Bool × Tap) (s : State) (d : ℕ) (ok : Bool) (hκ : Keeps κ s) :
    Keeps κ (State.endRestore s d ok) := by
  unfold State.endRestore; grind [keeps_eq]

grind_pattern State.endRestore_keeps => State.endRestore s d ok, Keeps κ s

theorem State.popInput_keeps (κ : List Instr × Bool × Tap) (s : State) (k : ℕ) (i : ℕ) (v : ℕ) (u : Bool) (hκ : Keeps κ s) :
    Keeps κ (State.popInput s k i v u) := by
  unfold State.popInput; grind [keeps_eq]

grind_pattern State.popInput_keeps => State.popInput s k i v u, Keeps κ s

theorem State.dropSpoiled_keeps (κ : List Instr × Bool × Tap) (s : State) (k : ℕ) (i : ℕ) (v : ℕ) (u : Bool) (hκ : Keeps κ s) :
    Keeps κ (State.dropSpoiled s k i v u) := by
  unfold State.dropSpoiled; grind [keeps_eq]

grind_pattern State.dropSpoiled_keeps => State.dropSpoiled s k i v u, Keeps κ s

theorem State.routeError_keeps (κ : List Instr × Bool × Tap) (s : State) (k : ℕ) (ctl : BitVec 96) (hκ : Keeps κ s) :
    Keeps κ (State.routeError s k ctl) := by
  unfold State.routeError; grind [keeps_eq]

grind_pattern State.routeError_keeps => State.routeError s k ctl, Keeps κ s

theorem State.dropMark_keeps (κ : List Instr × Bool × Tap) (s : State) (k : ℕ) (v : ℕ) (l : List NFlit) (hκ : Keeps κ s) :
    Keeps κ (State.dropMark s k v l) := by
  unfold State.dropMark; grind [keeps_eq]

grind_pattern State.dropMark_keeps => State.dropMark s k v l, Keeps κ s

theorem State.ejectSpoiled_keeps (κ : List Instr × Bool × Tap) (s : State) (k : ℕ) (v : ℕ) (x : NFlit) (hκ : Keeps κ s) :
    Keeps κ (State.ejectSpoiled s k v x) := by
  unfold State.ejectSpoiled; grind [State.dropMark_keeps, keeps_eq]

grind_pattern State.ejectSpoiled_keeps => State.ejectSpoiled s k v x, Keeps κ s

theorem State.stage_keeps (κ : List Instr × Bool × Tap) (s : State) (p : ℕ) (v : ℕ) (x : NFlit) (hκ : Keeps κ s) :
    Keeps κ (State.stage s p v x) := by
  unfold State.stage; grind [keeps_eq]

grind_pattern State.stage_keeps => State.stage s p v x, Keeps κ s

theorem State.refuseRequest_keeps (κ : List Instr × Bool × Tap) (s : State) (k : ℕ) (p : Pkt) (status : ℕ) (hκ : Keeps κ s) :
    Keeps κ (State.refuseRequest s k p status) := by
  unfold State.refuseRequest; grind [keeps_eq]

grind_pattern State.refuseRequest_keeps => State.refuseRequest s k p status, Keeps κ s

theorem State.deliver_keeps (κ : List Instr × Bool × Tap) (s : State) (k : ℕ) (v : ℕ) (h : NFlit) (data : List (BitVec 192)) (hκ : Keeps κ s) :
    Keeps κ (State.deliver s k v h data) := by
  unfold State.deliver; grind [State.cluster_memoryWf, → Keeps.memoryWf, Cluster.memoryWf_eq, keeps_eq]

grind_pattern State.deliver_keeps => State.deliver s k v h data, Keeps κ s

theorem State.ejectFlit_keeps (κ : List Instr × Bool × Tap) (s : State) (k : ℕ) (v : ℕ) (x : NFlit) (hκ : Keeps κ s) :
    Keeps κ (State.ejectFlit s k v x) := by
  unfold State.ejectFlit; grind [State.lostFlit_keeps, State.stage_keeps, State.returnPool_keeps, State.deliver_keeps, keeps_eq]

grind_pattern State.ejectFlit_keeps => State.ejectFlit s k v x, Keeps κ s

theorem State.eject_keeps (κ : List Instr × Bool × Tap) (s : State) (k : ℕ) (v : ℕ) (x : NFlit) (hκ : Keeps κ s) :
    Keeps κ (State.eject s k v x) := by
  unfold State.eject; grind [keeps_eq]

grind_pattern State.eject_keeps => State.eject s k v x, Keeps κ s

theorem Bid.forward_keeps (κ : List Instr × Bool × Tap) (b : Bid) (k i v : ℕ) (u : Bool) (hκ : Keeps κ b.after) :
    Keeps κ (Bid.forward b k i v u) := by
  unfold Bid.forward
  extract_lets inKey x y s n m
  have h : Keeps κ s := State.popInput_keeps κ _ _ _ _ _ hκ
  exact keeps_ite (Keeps.noc h _) (State.eject_keeps κ _ _ _ _ (Keeps.noc h _))

theorem State.headBid_keeps (κ : List Instr × Bool × Tap) (s : State) (k i v : ℕ) (u : Bool) (x : NFlit) (hκ : Keeps κ s) :
    ∀ b, State.headBid s k i v u x = some b → Keeps κ b.after := by
  intro b hb
  unfold State.headBid at hb
  dsimp only at hb
  split at hb
  · exact absurd hb (by simp)
  · rw [Option.map_eq_some_iff] at hb
    obtain ⟨a, ha, rfl⟩ := hb
    dsimp only
    split at ha
    · exact State.takeCredits_keeps κ _ _ _ _ _ hκ _ ha
    · exact (Option.some.inj ha) ▸ hκ

/-- What is left where a head from a peer link ends at its router. -/
def IngressKeeps (κ : List Instr × Bool × Tap) (x : Ingress) : Prop :=
  match x with
  | .go _ _ => True
  | .stop s => Keeps κ s

theorem State.tokenIngress_keeps (κ : List Instr × Bool × Tap) (s t : State) (k v : ℕ) (x : NFlit) (ht : Keeps κ t) :
    IngressKeeps κ (State.tokenIngress s t k v x) := by
  unfold State.tokenIngress
  grind [IngressKeeps, State.raise_keeps, State.routeError_keeps]

theorem State.requestIngress_keeps (κ : List Instr × Bool × Tap) (t : State) (k : ℕ) (x : NFlit) (s : State) (ht : Keeps κ t) :
    IngressKeeps κ (State.requestIngress s t k x) := by
  unfold State.requestIngress
  grind [IngressKeeps, State.raise_keeps, State.routeError_keeps]

theorem State.responseIngress_keeps (κ : List Instr × Bool × Tap) (s t : State) (k : ℕ) (x : NFlit) (ht : Keeps κ t) :
    IngressKeeps κ (State.responseIngress s t k x) := by
  unfold State.responseIngress
  extract_lets boot entry
  split
  · exact ht
  · trivial

theorem State.ingressHead_keeps (κ : List Instr × Bool × Tap) (s t : State) (k v : ℕ) (x : NFlit) (ht : Keeps κ t) :
    IngressKeeps κ (State.ingressHead s t k v x) := by
  unfold State.ingressHead
  repeat' split
  · exact State.routeError_keeps κ _ _ _ ht
  · exact State.requestIngress_keeps κ _ _ _ _ ht
  · exact State.responseIngress_keeps κ _ _ _ _ ht
  · exact State.tokenIngress_keeps κ _ _ _ _ _ ht

theorem State.bid_keeps (κ : List Instr × Bool × Tap) (s : State) (k i v : ℕ) (u : Bool) (hκ : Keeps κ s) :
    ∀ b, State.bid s k i v u = some b → Keeps κ b.after := by
  have he := State.endCut_keeps κ s k i v u hκ
  unfold State.bid
  intro b hb
  split at hb
  · cases hb
  · dsimp only at hb
    split at hb
    · split at hb
      · split at hb
        · exact State.headBid_keeps κ _ _ _ _ _ _ he _ hb
        · cases hb
      · exact State.headBid_keeps κ _ _ _ _ _ _ he _ hb
    · split at hb
      · cases hb
      · split at hb
        · exact (Option.some.inj hb) ▸ hκ
        · cases hb

theorem State.hopFlit_keeps (κ : List Instr × Bool × Tap) (s : State) (k : ℕ) (i : ℕ) (v : ℕ) (u : Bool) (hκ : Keeps κ s) :
    Keeps κ (State.hopFlit s k i v u) := by
  have hpop := State.popInput_keeps κ s k i v u hκ
  unfold State.hopFlit
  split
  · exact hκ
  · rename_i x _ _
    refine keeps_ite ?_ (keeps_ite hpop ?_)
    · have he := State.endCut_keeps κ s k i v u hκ
      generalize s.endCut k i v u = e at he
      have hc := State.checkCode_keeps κ e (routerSrc k) 0 (paritySyndrome x.ctl) he
      dsimp only
      generalize State.checkCode e (routerSrc k) 0 (paritySyndrome x.ctl) = q at hc
      obtain ⟨c, t⟩ := q
      dsimp only at hc ⊢
      have hp := State.popInput_keeps κ e k i v u he
      have hm : ∀ (y : NFlit) (vc : ℕ), Keeps κ (if e.badPort k ((ctlRoute y.ctl).toNat % 8) (ctlGen y.ctl) then (e.popInput k i v u).routeError k y.ctl
          else match e.headBid k i vc u y with
            | none => e
            | some b => if e.wins k i v u b then b.forward k i v u else e) := by
        intro y vc
        refine keeps_ite (State.routeError_keeps κ _ _ _ hp) ?_
        split
        · exact he
        · rename_i b hb
          exact keeps_ite (Bid.forward_keeps κ b k i v u (State.headBid_keeps κ _ _ _ _ _ _ he b hb)) he
      refine keeps_ite (State.parityError_keeps κ _ _ _ _ _ _ (State.popInput_keeps κ _ _ _ _ _ hc)) ?_
      split
      · have hi := State.ingressHead_keeps κ e (e.popInput k i v u) k v x hp
        split
        · exact hm _ _
        · rename_i hq; rw [hq] at hi; exact hi
      · exact hm x v
    · split
      · exact hκ
      · rename_i b hb
        exact keeps_ite (Bid.forward_keeps κ _ _ _ _ _ (State.bid_keeps κ _ _ _ _ _ hκ _ hb)) hκ

grind_pattern State.hopFlit_keeps => State.hopFlit s k i v u, Keeps κ s

theorem State.hopLink_keeps (κ : List Instr × Bool × Tap) (s : State) (k : ℕ) (v : ℕ) (u : Bool) (hκ : Keeps κ s) :
    Keeps κ (State.hopLink s k v u) := by
  unfold State.hopLink; grind [keeps_eq]

grind_pattern State.hopLink_keeps => State.hopLink s k v u, Keeps κ s

theorem State.toUnitBuffer_keeps (κ : List Instr × Bool × Tap) (s : State) (k : ℕ) (v : ℕ) (x : NFlit) (hκ : Keeps κ s) :
    Keeps κ (State.toUnitBuffer s k v x) := by
  unfold State.toUnitBuffer; grind [keeps_eq]

grind_pattern State.toUnitBuffer_keeps => State.toUnitBuffer s k v x, Keeps κ s

theorem State.checkOut_keeps (κ : List Instr × Bool × Tap) (s : State) (k : ℕ) (e : QEntry) (hκ : Keeps κ s) :
    Keeps κ (State.checkOut s k e).2 := by
  unfold State.checkOut; grind [keeps_eq]

grind_pattern State.checkOut_keeps => State.checkOut s k e, Keeps κ s

theorem State.readOut_keeps (κ : List Instr × Bool × Tap) (s : State) (k : ℕ) (v : ℕ) (a : ℕ) (hκ : Keeps κ s) :
    Keeps κ (State.readOut s k v a) := by
  induction a generalizing s with
  | zero => exact hκ
  | succ n ih =>
    unfold State.readOut
    split
    · exact hκ
    · extract_lets own n1
      clear_value own
      cases own with
      | some y => exact ih _ (State.toUnitBuffer_keeps κ _ _ _ _ (Keeps.noc hκ _))
      | none =>
        dsimp only
        split
        · exact hκ
        · exact ih _ (State.toUnitBuffer_keeps κ _ _ _ _ (State.checkOut_keeps κ _ _ _ (State.setCrossing_keeps κ _ _ _ _ _ hκ)))

grind_pattern State.readOut_keeps => State.readOut s k v a, Keeps κ s

theorem State.fillUnit_keeps (κ : List Instr × Bool × Tap) (s : State) (k : ℕ) (v : ℕ) (hκ : Keeps κ s) :
    Keeps κ (State.fillUnit s k v) := by
  unfold State.fillUnit
  exact State.readOut_keeps κ _ _ _ _ (Keeps.noc (State.setCrossing_keeps κ _ _ _ _ _ hκ) _)

grind_pattern State.fillUnit_keeps => State.fillUnit s k v, Keeps κ s

theorem State.hop_keeps (κ : List Instr × Bool × Tap) (s : State) (k : ℕ) (i : ℕ) (v : ℕ) (u : Bool) (hκ : Keeps κ s) :
    Keeps κ (State.hop s k i v u) := by
  unfold State.hop; grind [State.hopFlit_keeps, keeps_eq]

grind_pattern State.hop_keeps => State.hop s k i v u, Keeps κ s

theorem State.swapIn_keeps (κ : List Instr × Bool × Tap) (s : State) (g : ℕ) (n : ℕ) (e : ℕ) (d : Desc) (hκ : Keeps κ s) :
    Keeps κ (State.swapIn s g n e d).2 := by
  unfold State.swapIn; grind [keeps_eq]

grind_pattern State.swapIn_keeps => State.swapIn s g n e d, Keeps κ s

theorem State.start_keeps (κ : List Instr × Bool × Tap) (s : State) (g : ℕ) (f : ℕ) (r : REntry) (d : Desc) (hκ : Keeps κ s) :
    Keeps κ (State.start s g f r d) := by
  unfold State.start; grind [State.tu_memoryWf, → Keeps.memoryWf, TokenUnit.restart_memoryWf, keeps_eq]

grind_pattern State.start_keeps => State.start s g f r d, Keeps κ s

theorem State.dispatchStep_keeps (κ : List Instr × Bool × Tap) (s : State) (g : ℕ) (hκ : Keeps κ s) :
    Keeps κ (State.dispatchStep s g) := by
  unfold State.dispatchStep; grind [keeps_eq]

grind_pattern State.dispatchStep_keeps => State.dispatchStep s g, Keeps κ s

theorem bodyVst_keeps (κ : List Instr × Bool × Tap) (g : ℕ) (w : Sys2Proof.Word) (s : State) (hκ : Keeps κ s) :
    EffKeeps κ (bodyVst g w s) := by
  unfold bodyVst; grind [effKeeps_done, effKeeps_trap, effKeeps_stall, effKeeps_halt, keeps_eq]

grind_pattern bodyVst_keeps => bodyVst g w s, Keeps κ s

theorem State.absenceStep_keeps (κ : List Instr × Bool × Tap) (s : State) (p : ℕ) (f : ℕ) (hκ : Keeps κ s) :
    Keeps κ (State.absenceStep s p f) := by
  unfold State.absenceStep; grind [keeps_eq]

grind_pattern State.absenceStep_keeps => State.absenceStep s p f, Keeps κ s

theorem bodyVld_keeps (κ : List Instr × Bool × Tap) (g : ℕ) (w : Sys2Proof.Word) (s : State) (hκ : Keeps κ s) :
    EffKeeps κ (bodyVld g w s) := by
  unfold bodyVld; grind [effKeeps_done, effKeeps_trap, effKeeps_stall, effKeeps_halt, keeps_eq]

grind_pattern bodyVld_keeps => bodyVld g w s, Keeps κ s

theorem State.acceptanceTimeoutStep_keeps (κ : List Instr × Bool × Tap) (s : State) (g : ℕ) (n : BitVec 14) (e : ℕ) (hκ : Keeps κ s) :
    Keeps κ (State.acceptanceTimeoutStep s g n e) := by
  unfold State.acceptanceTimeoutStep; grind [keeps_eq]

grind_pattern State.acceptanceTimeoutStep_keeps => State.acceptanceTimeoutStep s g n e, Keeps κ s

theorem State.miredReportStep_keeps (κ : List Instr × Bool × Tap) (s : State) (p : ℕ) (f : ℕ) (reason : ℕ) (hκ : Keeps κ s) :
    Keeps κ (State.miredReportStep s p f reason) := by
  unfold State.miredReportStep; grind [keeps_eq]

grind_pattern State.miredReportStep_keeps => State.miredReportStep s p f reason, Keeps κ s

theorem State.sendProbeReport_keeps (κ : List Instr × Bool × Tap) (s : State) (g : ℕ) (x : Flit) (status : ℕ) (words : List Sys2Proof.Word) (hκ : Keeps κ s) :
    Keeps κ (State.sendProbeReport s g x status words) := by
  unfold State.sendProbeReport; grind [keeps_eq]

grind_pattern State.sendProbeReport_keeps => State.sendProbeReport s g x status words, Keeps κ s

theorem State.probe_keeps (κ : List Instr × Bool × Tap) (s : State) (g : ℕ) (x : Flit) (hκ : Keeps κ s) :
    Keeps κ (State.probe s g x) := by
  unfold State.probe; grind [keeps_eq]

grind_pattern State.probe_keeps => State.probe s g x, Keeps κ s

theorem State.probeBack_keeps (κ : List Instr × Bool × Tap) (s : State) (key : ℕ) (hκ : Keeps κ s) :
    Keeps κ (State.probeBack s key) := by
  unfold State.probeBack; grind [keeps_eq]

grind_pattern State.probeBack_keeps => State.probeBack s key, Keeps κ s

theorem State.probeStep_keeps (κ : List Instr × Bool × Tap) (s : State) (g : ℕ) (q : Sys2Proof.QueueSrc) (hκ : Keeps κ s) :
    Keeps κ (State.probeStep s g q) := by
  unfold State.probeStep; grind [keeps_eq]

grind_pattern State.probeStep_keeps => State.probeStep s g q, Keeps κ s

theorem bodyStn_keeps (κ : List Instr × Bool × Tap) (g : ℕ) (w : Sys2Proof.Word) (s : State) (hκ : Keeps κ s) :
    EffKeeps κ (bodyStn g w s) := by
  unfold bodyStn; grind [effKeeps_done, effKeeps_trap, effKeeps_stall, effKeeps_halt, keeps_eq]

grind_pattern bodyStn_keeps => bodyStn g w s, Keeps κ s

theorem State.announceStep_keeps (κ : List Instr × Bool × Tap) (s : State) (p : ℕ) (hκ : Keeps κ s) :
    Keeps κ (State.announceStep s p) := by
  unfold State.announceStep
  split
  · exact hκ
  · rename_i f x s1 h
    have h1 := State.takeSync_keeps κ s p 2 hκ _ h
    exact keeps_ite h1 (State.selectSource_keeps κ _ (State.setPort_keeps κ _ _ _ h1))

grind_pattern State.announceStep_keeps => State.announceStep s p, Keeps κ s

theorem State.powerUp_keeps (κ : List Instr × Bool × Tap) (s : State) (d : ℕ) (hκ : Keeps κ s) :
    Keeps κ (State.powerUp s d) := by
  unfold State.powerUp; grind [State.cluster_memoryWf, → Keeps.memoryWf, Cluster.memoryWf_eq, keeps_eq]

grind_pattern State.powerUp_keeps => State.powerUp s d, Keeps κ s

theorem State.chipLap_keeps (κ : List Instr × Bool × Tap) (s : State) (bank : ℕ) (after : ℕ) (hκ : Keeps κ s) :
    Keeps κ (State.chipLap s bank after) := by
  unfold State.chipLap; grind [keeps_eq]

grind_pattern State.chipLap_keeps => State.chipLap s bank after, Keeps κ s

theorem State.dredgeMatching_keeps (κ : List Instr × Bool × Tap) (s : State) (g : ℕ) (hκ : Keeps κ s) :
    Keeps κ (State.dredgeMatching s g) := by
  unfold State.dredgeMatching; grind [State.engine_memoryWf, → Keeps.memoryWf, Engine.memoryWf_eq, keeps_eq]

grind_pattern State.dredgeMatching_keeps => State.dredgeMatching s g, Keeps κ s

theorem State.dredgeStore_keeps (κ : List Instr × Bool × Tap) (s : State) (c : ℕ) (b : ℕ) (hκ : Keeps κ s) :
    Keeps κ (State.dredgeStore s c b) := by
  unfold State.dredgeStore; grind [State.cluster_memoryWf, → Keeps.memoryWf, Cluster.memoryWf_eq, keeps_eq]

grind_pattern State.dredgeStore_keeps => State.dredgeStore s c b, Keeps κ s

theorem State.dredgeLocal_keeps (κ : List Instr × Bool × Tap) (s : State) (g : ℕ) (b : ℕ) (hκ : Keeps κ s) :
    Keeps κ (State.dredgeLocal s g b) := by
  unfold State.dredgeLocal; grind [State.engine_memoryWf, → Keeps.memoryWf, Engine.memoryWf_eq, keeps_eq]

grind_pattern State.dredgeLocal_keeps => State.dredgeLocal s g b, Keeps κ s

theorem State.swapOut_keeps (κ : List Instr × Bool × Tap) (s : State) (g : ℕ) (a : Activation) (hκ : Keeps κ s) :
    Keeps κ (State.swapOut s g a) := by
  unfold State.swapOut; grind [keeps_eq]

grind_pattern State.swapOut_keeps => State.swapOut s g a, Keeps κ s

theorem State.refillQueue_keeps (κ : List Instr × Bool × Tap) (s : State) (g : ℕ) (f : ℕ) (hκ : Keeps κ s) :
    Keeps κ (State.refillQueue s g f) := by
  unfold State.refillQueue; grind [State.tu_memoryWf, → Keeps.memoryWf, TokenUnit.restart_memoryWf, keeps_eq]

grind_pattern State.refillQueue_keeps => State.refillQueue s g f, Keeps κ s

theorem State.enterWaiting_keeps (κ : List Instr × Bool × Tap) (s : State) (g : ℕ) (f : ℕ) (x : Waiting) (hκ : Keeps κ s) :
    Keeps κ (State.enterWaiting s g f x) := by
  unfold State.enterWaiting; grind [State.tu_memoryWf, → Keeps.memoryWf, TokenUnit.restart_memoryWf, keeps_eq]

grind_pattern State.enterWaiting_keeps => State.enterWaiting s g f x, Keeps κ s

theorem State.endActivation_keeps (κ : List Instr × Bool × Tap) (s : State) (g : ℕ) (f : ℕ) (a : Activation) (hκ : Keeps κ s) :
    Keeps κ (State.endActivation s g f a) := by
  unfold State.endActivation; grind [State.tu_memoryWf, → Keeps.memoryWf, TokenUnit.restart_memoryWf, TokenUnit.answered, keeps_eq]

grind_pattern State.endActivation_keeps => State.endActivation s g f a, Keeps κ s

theorem bodyEnda_keeps (κ : List Instr × Bool × Tap) (g : ℕ) (_w : Sys2Proof.Word) (s : State) (hκ : Keeps κ s) :
    EffKeeps κ (bodyEnda g _w s) := by
  unfold bodyEnda; grind [effKeeps_done, effKeeps_trap, effKeeps_stall, effKeeps_halt, keeps_eq]

grind_pattern bodyEnda_keeps => bodyEnda g _w s, Keeps κ s

theorem State.idle_keeps (κ : List Instr × Bool × Tap) (s : State) (hκ : Keeps κ s) :
    Keeps κ (State.idle s) := by
  unfold State.idle; grind [keeps_eq]

grind_pattern State.idle_keeps => State.idle s, Keeps κ s

theorem State.writeMsix_keeps (κ : List Instr × Bool × Tap) (s : State) (o : ℕ) (v : BitVec 32) (hκ : Keeps κ s) :
    Keeps κ (State.writeMsix s o v) := by
  unfold State.writeMsix
  extract_lets k h1 t
  have ht : Keeps κ t := hκ
  refine keeps_ite hκ (keeps_ite hκ (keeps_ite hκ (keeps_ite (State.vector_keeps κ _ _ ht) ht)))

grind_pattern State.writeMsix_keeps => State.writeMsix s o v, Keeps κ s

theorem State.writeConfig_keeps (κ : List Instr × Bool × Tap) (s : State) (o : ℕ) (v : BitVec 32) (hκ : Keeps κ s) :
    Keeps κ (State.writeConfig s o v) := by
  unfold State.writeConfig; grind [keeps_eq]

grind_pattern State.writeConfig_keeps => State.writeConfig s o v, Keeps κ s

theorem writeHalves_keeps (κ : List Instr × Bool × Tap) (write : State → ℕ → BitVec 32 → State) (o size : ℕ) (value : BitVec 64) (s : State)
    (hw : ∀ u o v, Keeps κ u → Keeps κ (write u o v)) (hκ : Keeps κ s) : ∀ t, writeHalves write o size value s = some t → Keeps κ t := by
  unfold writeHalves
  intro t h
  split at h
  · cases h; exact hw _ _ _ hκ
  · split at h
    · cases h; exact hw _ _ _ (hw _ _ _ hκ)
    · cases h

theorem State.bootTimeout_keeps (κ : List Instr × Bool × Tap) (s : State) (tag : BitVec 12) (hκ : Keeps κ s) :
    ∀ t, State.bootTimeout s tag = some t → Keeps κ t := by
  unfold State.bootTimeout; grind [keeps_eq]

theorem State.endProbe_keeps (κ : List Instr × Bool × Tap) (s : State) (tag : Sys2Proof.Word) (hκ : Keeps κ s) :
    Keeps κ (State.endProbe s tag) := by
  unfold State.endProbe
  split
  · exact hκ
  · extract_lets s1 n1
    have h1 : Keeps κ s1 := hκ
    exact keeps_ite (Keeps.noc h1 _) h1

grind_pattern State.endProbe_keeps => State.endProbe s tag, Keeps κ s

theorem State.policySample_keeps (κ : List Instr × Bool × Tap) (s : State) (temps : List Int) (power : ℕ) (cp : List ℕ) (hκ : Keeps κ s) :
    Keeps κ (State.policySample s temps power cp) := by
  have h1 : Keeps κ { s with temps := temps, power := power } := Keeps.of hκ rfl rfl rfl rfl rfl rfl rfl
  exact State.hotWatch_keeps κ _ (State.hbmWatch_keeps κ _ (State.capWatch_keeps κ _ (State.thermalDecision_keeps κ _ _ h1)))

grind_pattern State.policySample_keeps => State.policySample s temps power cp, Keeps κ s

theorem State.runDeferred_keeps (κ : List Instr × Bool × Tap) (s : State) (d : Deferred) (hκ : Keeps κ s) :
    Keeps κ (State.runDeferred s d) := by
  unfold State.runDeferred; grind [keeps_eq]

grind_pattern State.runDeferred_keeps => State.runDeferred s d, Keeps κ s

theorem State.endSwitch_keeps (κ : List Instr × Bool × Tap) (s : State) (hκ : Keeps κ s) :
    Keeps κ (State.endSwitch s) := by
  unfold State.endSwitch; grind [State.runDeferred_keeps, State.serveHeld_keeps, foldl_keeps, keeps_eq]

grind_pattern State.endSwitch_keeps => State.endSwitch s, Keeps κ s

end Sys2Proof.Machine
end

