-- ==== Sys2Proof/Laws/Link.lean ====
section
/-! SUPPORT. Laws of the link blocks: a CRC looks at its own bits alone, a sealed block carries its CRC-32 (R236), and descrambling undoes
scrambling from the same state (R235). -/

namespace Sys2Proof.Machine

-- One theorem at a time: proofs that wait for one another each hold a thread and its stack.
set_option Elab.async false

/-- A CRC of the low i bits depends on those bits alone. -/
theorem crcBits_congr {w n : Nat} (poly : BitVec w) (x y : BitVec n) :
    ∀ (i : Nat) (c : BitVec w), (∀ j < i, x.getLsbD j = y.getLsbD j) → crcBits poly x i c = crcBits poly y i c
  | 0, _, _ => rfl
  | i + 1, c, h => by
    unfold crcBits
    rw [h i (by omega)]
    exact crcBits_congr poly x y i _ (fun j hj => h j (by omega))

theorem getLsbD_setField {n lo len : Nat} (x : BitVec n) (v : BitVec len) (j : Nat) :
    (setField x lo len v).getLsbD j = if lo ≤ j ∧ j < lo + len ∧ j < n then v.getLsbD (j - lo) else x.getLsbD j := by
  unfold setField
  simp only [BitVec.getLsbD_or, BitVec.getLsbD_and, BitVec.getLsbD_not, BitVec.getLsbD_shiftLeft, BitVec.getLsbD_setWidth, BitVec.zeroExtend]
  by_cases hn : j < n
  · by_cases h1 : j < lo
    · have : ¬ lo ≤ j := by omega
      simp [hn, h1, this]
    · by_cases h2 : j < lo + len
      · have : j - lo < len := by omega
        have h3 : j - lo < n := by omega
        simp [hn, h1, h2, this, h3, Nat.le_of_not_lt h1]
      · have : ¬ j - lo < len := by omega
        have hv : v.getLsbD (j - lo) = false := BitVec.getLsbD_of_ge _ _ (by omega)
        simp [hn, h1, h2, this, hv]
  · have hx : x.getLsbD j = false := BitVec.getLsbD_of_ge _ _ (by omega)
    simp [hn, hx]

/-- A sealed block's CRC field is the CRC-32 of its bits (R236). -/
theorem crc32_sealBlock (b : BitVec 1024) : crc32Block (sealBlock b) = blockCrc (sealBlock b) := by
  have h : blockCrc (sealBlock b) = crc32Block b := by
    apply BitVec.eq_of_getLsbD_eq
    intro i hi
    unfold blockCrc sealBlock
    rw [BitVec.getLsbD_extractLsb', getLsbD_setField, if_pos ⟨by omega, by omega, by omega⟩]
    simp [hi]
  rw [h]
  unfold crc32Block
  apply crcBits_congr
  intro j hj
  unfold sealBlock
  rw [getLsbD_setField, if_neg (by omega)]

/-- Sealing a block leaves its fields below the CRC as they were. -/
theorem sealBlock_low (b : BitVec 1024) (lo n : Nat) (h : lo + n ≤ 992) : (sealBlock b).extractLsb' lo n = b.extractLsb' lo n := by
  apply BitVec.eq_of_getLsbD_eq
  intro i hi
  unfold sealBlock
  rw [BitVec.getLsbD_extractLsb', BitVec.getLsbD_extractLsb', getLsbD_setField, if_neg (by omega)]

theorem blockSeq_sealBlock (b : BitVec 1024) : blockSeq (sealBlock b) = blockSeq b := sealBlock_low b _ _ (by omega)
theorem blockCode_sealBlock (b : BitVec 1024) (i : Nat) (h : i < 5) : blockCode (sealBlock b) i = blockCode b i := by
  unfold blockCode; rw [sealBlock_low b _ _ (by omega)]
theorem blockSlot_sealBlock (b : BitVec 1024) (i : Nat) (h : i < 5) : blockSlot (sealBlock b) i = blockSlot b i := sealBlock_low b _ _ (by omega)

/-- Scrambling bits from i on leaves the bits below i as they were, and a bit above stays once set. -/
theorem scrambleBits_below (back : Bool) (x : BitVec 1024) :
    ∀ (n i : Nat) (c : BitVec 58) (y : BitVec 1024) (j : Nat), j < i → (scrambleBits back x i n c y).1.getLsbD j = y.getLsbD j
  | 0, _, _, _, _, _ => rfl
  | n + 1, i, c, y, j, h => by
    unfold scrambleBits
    rw [scrambleBits_below back x n (i + 1) _ _ j (by omega)]
    split
    · rw [BitVec.getLsbD_or, BitVec.getLsbD_shiftLeft, decide_eq_true h]; simp
    · rfl

/-- The bit that a step of the scrambler puts out. -/
theorem scrambleBits_at (x : BitVec 1024) (n i : Nat) (c : BitVec 58) (y : BitVec 1024) (hi : i < 1024) (hy : y.getLsbD i = false) :
    (scrambleBits false x i (n + 1) c y).1.getLsbD i = (x.getLsbD i ^^ c.getLsbD 38 ^^ c.getLsbD 57) := by
  unfold scrambleBits
  rw [scrambleBits_below false x n (i + 1) _ _ i (by omega)]
  cases (x.getLsbD i ^^ c.getLsbD 38 ^^ c.getLsbD 57)
  · simpa using hy
  · simp [hi]

/-- Descrambling the bits that scrambling put out gives the bits that went in. -/
theorem scrambleBits_inverse (x w : BitVec 1024) :
    ∀ (n i : Nat) (c : BitVec 58) (y z : BitVec 1024), i + n ≤ 1024 → (∀ j, i ≤ j → y.getLsbD j = false) → (∀ j, i ≤ j → z.getLsbD j = false) →
      (∀ j, i ≤ j → j < i + n → w.getLsbD j = (scrambleBits false x i n c y).1.getLsbD j) →
      ∀ j, (scrambleBits true w i n c z).1.getLsbD j = if i ≤ j ∧ j < i + n then x.getLsbD j else z.getLsbD j
  | 0, i, c, y, z, _, _, _, _, j => by rw [if_neg (by omega)]; rfl
  | n + 1, i, c, y, z, hn, hy, hz, hw, j => by
    have hb : w.getLsbD i = (x.getLsbD i ^^ c.getLsbD 38 ^^ c.getLsbD 57) := by
      rw [hw i (by omega) (by omega), scrambleBits_at x n i c y (by omega) (hy i (by omega))]
    have ho : (w.getLsbD i ^^ c.getLsbD 38 ^^ c.getLsbD 57) = x.getLsbD i := by
      rw [hb]; cases x.getLsbD i <;> cases c.getLsbD 38 <;> cases c.getLsbD 57 <;> rfl
    have clear : ∀ (v : BitVec 1024) (o : Bool), (∀ j, i ≤ j → v.getLsbD j = false) →
        ∀ j, i + 1 ≤ j → (if o then v ||| (1#1024 <<< i) else v).getLsbD j = false := by
      intro v o hv j hj
      cases o
      · exact hv j (by omega)
      · rw [if_pos rfl, BitVec.getLsbD_or, hv j (by omega), BitVec.getLsbD_shiftLeft]
        simp only [BitVec.getLsbD_one]
        have : ¬ j - i = 0 := by omega
        simp [this]
    unfold scrambleBits
    simp only [ho, if_true]
    have step : ∀ j, i + 1 ≤ j → j < i + 1 + n → w.getLsbD j = (scrambleBits false x (i + 1) n
        ((c <<< 1) ||| (BitVec.ofBool (w.getLsbD i)).zeroExtend 58)
        (if (x.getLsbD i ^^ c.getLsbD 38 ^^ c.getLsbD 57) then y ||| (1#1024 <<< i) else y)).1.getLsbD j := by
      intro j h1 h2
      rw [hw j (by omega) (by omega), hb]
      rfl
    rw [scrambleBits_inverse x w n (i + 1) _ _ _ (by omega) (clear y _ hy) (clear z _ hz) step j]
    by_cases h : j = i
    · subst h
      have hlt : j < 1024 := by omega
      rw [if_neg (show ¬ (j + 1 ≤ j ∧ j < j + 1 + n) by omega), if_pos (show j ≤ j ∧ j < j + (n + 1) by omega)]
      cases hx : x.getLsbD j
      · rw [if_neg (by simp)]; exact hz j (Nat.le_refl _)
      · rw [if_pos rfl, BitVec.getLsbD_or, BitVec.getLsbD_shiftLeft, BitVec.getLsbD_one]; simp [hlt]
    · by_cases h2 : i ≤ j ∧ j < i + (n + 1)
      · rw [if_pos h2, if_pos (by omega)]
      · rw [if_neg h2, if_neg (by omega)]
        cases hx : x.getLsbD i
        · simp
        · have : ¬ (i ≤ j ∧ j - i = 0) := by omega
          simp only [if_true, BitVec.getLsbD_or, BitVec.getLsbD_shiftLeft, BitVec.getLsbD_one]
          by_cases hj : j < i
          · simp [hj]
          · have : ¬ j - i = 0 := by omega
            simp [this]

/-- Descrambling undoes scrambling from the same state (R235). -/
theorem descramble_scramble (b : BitVec 1024) (c : BitVec 58) : (descramble (scramble b c).1 c).1 = b := by
  apply BitVec.eq_of_getLsbD_eq
  intro j hj
  have := scrambleBits_inverse b (scramble b c).1 1024 0 c 0 0 (by omega) (by simp) (by simp) (fun _ _ _ => rfl) j
  rw [if_pos (by omega)] at this
  exact this

end Sys2Proof.Machine
end

