-- ==== Sys2Proof/Tests/Slice0.lean ====
section
/-! SUPPORT. Small states, one-step tests, and for every statement a state and operands that meet its hypotheses, clause by clause. -/

namespace Sys2Proof.Tests

-- One theorem at a time: proofs that wait for one another each hold a thread and its stack.
set_option Elab.async false

open Sys2Proof Sys2Proof.Machine Sys2Proof.Safety Sys2Proof.Claims

/-! ### Small states -/

/-- The part LIVE, everything else as after reset. -/
def live : State := { State.reset with dev := .live, startStep := 10, porst := false }

/-- An activation with two fan-out entries at 0x9000. -/
def act : Activation :=
  { q := 1, node := 2, epoch := 5, refire := false, sent := 0, fanout := 2, fanlist := 0x9000, stateSrc := true, stateBase := 0xA000, stateLen := 4 }

/-- A local store that holds the words given. -/
def cells (l : List (Nat × Word)) : Tab Stored := l.foldl (fun t x => tput (encodeWord x.1 0) x.1 (encodeWord x.1 x.2) t) []

/-- Engine 0 with pipeline c, its activation running, instruction w at 0x40 and the words l. -/
def at40 (c : Core) (w : Word) (l : List (Nat × Word)) : State :=
  live.setEngine 0 { Engine.reset with core := { c with act := some act, pc := 0x40 }, mem := cells ((0x40, w) :: l) }

/-- An instruction word: opcode, mode, the lower 24 bits. -/
def word (op mode low : Nat) : Word := BitVec.ofNat 36 (op * 2 ^ 27 + mode * 2 ^ 24 + low)

/-- The pipeline with X at 0xA000 and Y at 0xB000. -/
def xy : Core := { Core.reset with a := 7, x := 0xA000, y := 0xB000, c := 2 }

/-- A check of the next state. -/
def after (r : Host.Outcome State Fault Refusal) (f : State → Bool) : Bool := match r with | .next v => f v | _ => false

/-! ### From checks to hypotheses -/

theorem pair_of {α β : Type} {p : α × β} {a : α} (h : p.1 = a) : p = (a, p.2) := by cases p; cases h; rfl

/-- What the fetch of engine 0 leaves. -/
def fetch (s : State) : State := (s.readLocal 0 (s.core 0).pc.toNat 31).2

/-- The conditions of `Stands` at engine 0, with `fetch s` for the state after. -/
def standsB (s : State) (op : Nat) (w : Word) : Bool :=
  s.issuing 0 && !(s.core 0).past && decide ((s.readLocal 0 (s.core 0).pc.toNat 31).1 = .ok w) && opOf w == op && legal w &&
    !((fetch s).core 0).fpStall w && !((fetch s).core 0).fpDue

theorem stands_of {s : State} {op : Nat} {w : Word} (h : standsB s op w = true) : Stands s 0 op w (fetch s) := by
  simp only [standsB, Bool.and_eq_true, Bool.not_eq_true', decide_eq_true_eq, beq_iff_eq] at h
  obtain ⟨⟨⟨⟨⟨⟨h1, h2⟩, h3⟩, h4⟩, h5⟩, h6⟩, h7⟩ := h
  exact ⟨h1, h2, pair_of h3, h4, h5, h6, h7⟩

/-- The state after the operand's read. -/
def readAfter (t : State) (w : Word) : State :=
  if modeOf w = 0 ∨ modeOf w = 7 then t else (t.engineRead 0 ((t.core 0).ea (modeOf w) (addrOf w)) 31).2

/-- The conditions of `Operand` at engine 0. -/
def operandB (t : State) (w m : Word) : Bool :=
  if modeOf w = 0 then decide (m = (w.extractLsb' 0 24).signExtend 36)
  else if modeOf w = 7 then decide (m = (t.core 0).reg (codeOf w))
  else decide ((t.engineRead 0 ((t.core 0).ea (modeOf w) (addrOf w)) 31).1 = some m)

theorem operand_of {t : State} {w m : Word} (h : operandB t w m = true) : Operand t 0 w m (readAfter t w) := by
  unfold operandB at h
  unfold Operand readAfter
  split
  · rename_i h0; rw [if_pos h0] at h; exact ⟨of_decide_eq_true h, by rw [if_pos (Or.inl h0)]⟩
  · rename_i h0
    split
    · rename_i h7; rw [if_neg h0, if_pos h7] at h; exact ⟨of_decide_eq_true h, by rw [if_pos (Or.inr h7)]⟩
    · rename_i h7; rw [if_neg h0, if_neg h7] at h; rw [if_neg (by omega)]; exact pair_of (of_decide_eq_true h)

/-- Some state, word and operand meet `Stands` and `Operand` for an opcode. -/
def Meets (op mode : Nat) : Prop :=
  ∃ (s t u : State) (w m : Word), modeOf w = mode ∧ Stands s 0 op w t ∧ Operand t 0 w m u

theorem meets_of {op mode low : Nat} {l : List (Nat × Word)} {m : Word}
    (h : (decide (modeOf (word op mode low) = mode) && standsB (at40 xy (word op mode low) l) op (word op mode low) &&
      operandB (fetch (at40 xy (word op mode low) l)) (word op mode low) m) = true) : Meets op mode := by
  simp only [Bool.and_eq_true, decide_eq_true_eq] at h
  exact ⟨_, _, _, _, _, h.1.1, stands_of h.1.2, operand_of h.2⟩

/-! ### Scalar arithmetic -/

/-- Every opcode of a list is met in a mode, by the same low bits, memory and operand. -/
theorem all_meet {mode low : Nat} {l : List (Nat × Word)} {m : Word} (ops : List Nat)
    (h : (ops.all fun op => decide (modeOf (word op mode low) = mode) && standsB (at40 xy (word op mode low) l) op (word op mode low) &&
      operandB (fetch (at40 xy (word op mode low) l)) (word op mode low) m) = true) : ∀ op ∈ ops, Meets op mode :=
  fun op hop => meets_of (List.all_eq_true.mp h op hop)

/-- NEG and NOT have mode 7 alone; every other row is met in modes 0, 2 and 7. -/
theorem met_ArithmeticResults :
    (∀ op ∈ [0x015, 0x01D], Meets op 7) ∧ (∀ op ∈ (arithmeticRows.map Row.op).filter (fun n => n != 0x015 && n != 0x01D), Meets op 0) ∧
    (∀ op ∈ [0x010, 0x013, 0x01C], Meets op 2) ∧ ∀ op ∈ [0x010, 0x013, 0x01C], Meets op 7 :=
  ⟨all_meet (low := 0) (l := []) (m := 7) _ (by decide +kernel), all_meet (low := 0x800000) (l := []) (m := 0xFFF800000) _ (by decide +kernel),
    all_meet (low := 0) (l := [(0xA000, 9)]) (m := 9) _ (by decide +kernel), all_meet (low := 2) (l := []) (m := 0xA000) _ (by decide +kernel)⟩

theorem met_ShiftResults : (∀ op ∈ shiftRows.map Row.op, Meets op 0) ∧ (∀ op ∈ [0x020, 0x025], Meets op 6) :=
  ⟨all_meet (low := 63) (l := []) (m := 63) _ (by decide +kernel), all_meet (low := 0) (l := [(0x1F000, 127)]) (m := 127) _ (by decide +kernel)⟩

theorem met_MultiplyDivideResults : (∀ op ∈ multiplyDivideRows.map Row.op, Meets op 0) ∧ (∀ op ∈ [0x02C, 0x02F], Meets op 7) :=
  ⟨all_meet (low := 0) (l := []) (m := 0) _ (by decide +kernel), all_meet (low := 2) (l := []) (m := 0xA000) _ (by decide +kernel)⟩

/-! ### Loads, stores and local memory -/

/-- Engine 0 with pipeline c and the words l stands at the instruction given, and P holds of the state its fetch leaves. -/
def Shows (c : Core) (op mode low : Nat) (l : List (Nat × Word)) (P : State → Word → Prop) : Prop :=
  Stands (at40 c (word op mode low) l) 0 op (word op mode low) (fetch (at40 c (word op mode low) l)) ∧
    P (fetch (at40 c (word op mode low) l)) (word op mode low)

theorem shows_of {c : Core} {op mode low : Nat} {l : List (Nat × Word)} {P : State → Word → Prop}
    (h : standsB (at40 c (word op mode low) l) op (word op mode low) = true) (p : P (fetch (at40 c (word op mode low) l)) (word op mode low)) :
    Shows c op mode low l P := ⟨stands_of h, p⟩

/-- LD in modes 0 and 2, LDR in modes 0 and 3, LDN of nonet 3, LDHF of the upper half, LDP at an even address. -/
theorem met_LoadResults : Meets 0x001 0 ∧ Meets 0x001 2 ∧ Shows xy 0x002 0 0x2FFF [] (fun _ w => modeOf w = 0) ∧ Meets 0x002 3 ∧
    Shows xy 0x003 2 0x3000 [(0xA000, 0xFF8000000)] (fun t w => (w.extractLsb' 12 2).toNat = 3 ∧
      ∃ m u, t.engineRead 0 (effective t 0 w) (1#5 <<< (w.extractLsb' 12 2).toNat) = (some m, u)) ∧
    Shows xy 0x004 2 0x1000 [(0xA000, 0xFFFFC0000)] (fun t w => (w.extractLsb' 12 1).toNat = 1 ∧
      ∃ m u, t.engineRead 0 (effective t 0 w) (3#5 <<< (2 * (w.extractLsb' 12 1).toNat)) = (some m, u)) ∧
    Shows xy 0x005 2 0 [(0xA000, 1), (0xA001, 2)] (fun t w => effective t 0 w % 2 = 0 ∧
      ∃ m h u, t.engineReads 0 (effective t 0 w) 2 = (.inr [m, h], u)) :=
  ⟨meets_of (low := 5) (l := []) (m := 5) (by decide +kernel), meets_of (low := 0) (l := [(0xA000, 9)]) (m := 9) (by decide +kernel),
    shows_of (by decide +kernel) (by decide +kernel), meets_of (low := 0x2000) (l := [(0xB000, 9)]) (m := 9) (by decide +kernel),
    shows_of (by decide +kernel) ⟨by decide +kernel, 0xFF8000000, _, pair_of (by decide +kernel)⟩,
    shows_of (by decide +kernel) ⟨by decide +kernel, 0xFFFFC0000, _, pair_of (by decide +kernel)⟩,
    shows_of (by decide +kernel) ⟨by decide +kernel, 1, 2, _, pair_of (by decide +kernel)⟩⟩

/-- The pipeline with X at the first address a store reaches and Y at the last word of bank 2. -/
def edges : Core := { xy with x := 0x8000, y := 0x17FFF }

/-- Each store in mode 2 at 0x8000, ST in mode 7, STP, and the atomics at 0x17FFF. -/
theorem met_StoreResults :
    (∀ op ∈ storeRows.map StoreRow.op, Shows edges op 2 0 [] (fun t w => modeOf w ≠ 7 ∧ effective t 0 w = 0x8000 ∧ MayStore t 0 (effective t 0 w))) ∧
    Shows xy 0x008 7 2 [] (fun _ w => modeOf w = 7) ∧
    Shows edges 0x00C 2 0 [] (fun t w => effective t 0 w % 2 = 0 ∧ MayStore t 0 (effective t 0 w)) ∧
    ∀ op ∈ [0x030, 0x031], Shows edges op 3 0 [] (fun t w => effective t 0 w = 0x17FFF ∧ ∃ m u, t.engineRead 0 (effective t 0 w) 31 = (some m, u)) := by
  have one : ∀ op ∈ storeRows.map StoreRow.op, standsB (at40 edges (word op 2 0) []) op (word op 2 0) = true ∧ modeOf (word op 2 0) ≠ 7 ∧
      effective (fetch (at40 edges (word op 2 0) [])) 0 (word op 2 0) = 0x8000 ∧
      (fetch (at40 edges (word op 2 0) [])).retiredPage 0 (effective (fetch (at40 edges (word op 2 0) [])) 0 (word op 2 0)) = false := by decide +kernel
  have two : ∀ op ∈ [0x030, 0x031], standsB (at40 edges (word op 3 0) []) op (word op 3 0) = true ∧
      effective (fetch (at40 edges (word op 3 0) [])) 0 (word op 3 0) = 0x17FFF ∧
      ((fetch (at40 edges (word op 3 0) [])).engineRead 0 (effective (fetch (at40 edges (word op 3 0) [])) 0 (word op 3 0)) 31).1 = some 0 := by
    decide +kernel
  refine ⟨fun op h => ?_, shows_of (by decide +kernel) (by decide +kernel),
    shows_of (by decide +kernel) ⟨by decide +kernel, by decide +kernel, by decide +kernel⟩, fun op h => ?_⟩
  · obtain ⟨a, b, c, d⟩ := one op h
    exact shows_of a ⟨b, c, c.ge, d⟩
  · obtain ⟨a, b, c⟩ := two op h
    exact shows_of a ⟨b, 0, _, pair_of c⟩

/-- Engine 0 with a correction in each of two banks. -/
def corrected : State := { live with engines := [(0, { Engine.reset with corr := [(2, (0x8000, 1)), (4, (0x8001, 3))] })] }

/-- The hypothesis of StoreFrame and CorrectionBuffers, in a state whose buffers are not empty. -/
theorem met_StoreFrame : (∀ k, ((corrected.engine k).corr.map Prod.fst).Nodup) ∧ (corrected.engine 0).corr.length = 2 := by
  refine ⟨fun k => ?_, by decide +kernel⟩
  cases k with
  | zero => decide +kernel
  | succ k => exact (by decide : (Engine.reset.corr.map Prod.fst).Nodup)

theorem met_CorrectionBuffers : (at40 xy 0 [(0x1FFFF, 0xFFFFFFFFF)]).col.armed = false ∧ (at40 xy 0 [(0x1FFFF, 0xFFFFFFFFF)]).retiredPage 0 0x1FFFF = false ∧
    ((at40 xy 0 [(0x1FFFF, 0xFFFFFFFFF)]).engine 0).cell 0x1FFFF = encodeWord 0x1FFFF 0xFFFFFFFFF := by decide +kernel

/-! ### Control flow, special registers, traps -/

/-- Loop registers with levels open up to n, each level i from 0x10 to the address e i with count k i. -/
def loopsAt (n : Nat) (e : Vector (BitVec 15) 3) (k : Vector (BitVec 24) 3) : LoopRegs :=
  { ls := Vector.replicate 3 0x10, le := e, lc := k, lst := BitVec.ofNat 2 n }

/-- The clauses of Completion: no level open, a level whose count goes on, the last count, and an outer level that ends at the same address. -/
theorem met_Completion :
    (let c := Core.reset; c.loopWrites = [] ∧ c.delay = [] ∧ c.loops.lst = 0) ∧
    (let c := { Core.reset with loops := loopsAt 3 #v[0x60, 0x50, 0x40] #v[1, 1, 5] }
     c.loopWrites = [] ∧ c.delay = [] ∧ c.handler = false ∧ c.loops.lst.toNat = 2 + 1 ∧ c.loops.le[2] = 0x40 ∧ c.loops.lc[2] ≠ 1) ∧
    (let c := { Core.reset with loops := loopsAt 1 #v[0x40, 0, 0] #v[1, 0, 0] }
     c.handler = false ∧ c.loops.lst.toNat = 0 + 1 ∧ c.loops.le[0] = 0x40 ∧ c.loops.lc[0] = 1 ∧ ∀ j, (hj : j < 3) → j + 1 = 0 → c.loops.le[j] ≠ 0x40) ∧
    (let c := { Core.reset with loops := loopsAt 2 #v[0x40, 0x40, 0] #v[7, 1, 0] }
     c.handler = false ∧ c.loops.lst.toNat = 1 + 1 ∧ c.loops.le[1] = 0x40 ∧ c.loops.lc[1] = 1 ∧ c.loops.le[0] = 0x40 ∧ c.loops.lc[0] ≠ 1) := by
  decide

theorem met_JumpResults : (∀ op ∈ jumpRows.map JumpRow.op, Shows xy op 0 0x7FFF [] (fun _ _ => True)) ∧
    Shows xy 0x090 7 2 [] (fun t _ => (t.core 0).pc ≠ 0x7FFF) ∧ Shows xy 0x091 7 0 [] (fun _ _ => True) := by
  have one : ∀ op ∈ jumpRows.map JumpRow.op, standsB (at40 xy (word op 0 0x7FFF) []) op (word op 0 0x7FFF) = true := by decide +kernel
  exact ⟨fun op h => shows_of (one op h) trivial, shows_of (by decide +kernel) (by decide +kernel), shows_of (by decide +kernel) trivial⟩

/-- Engine 0 at the last address of its code with CALL there. -/
def atEnd : State :=
  live.setEngine 0 { Engine.reset with core := { xy with act := some act, pc := 0x7FFF }, mem := cells [(0x7FFF, word 0x090 0 0x10)] }

theorem met_JumpResults_last : Stands atEnd 0 0x090 (word 0x090 0 0x10) (fetch atEnd) ∧ ((fetch atEnd).core 0).pc = 0x7FFF ∧ TrapOpen (fetch atEnd) 0 :=
  ⟨stands_of (by decide +kernel), by decide +kernel, by decide +kernel, by decide +kernel⟩

/-- The word of LPS for level n, count k, with e words of body. -/
abbrev lps (n k e : Nat) : Nat := n * 2 ^ 22 + k * 2 ^ 12 + e

/-- LPS that opens level 2 with the greatest count, LPS with count 0 and the longest body, LPS of a level that is not next, BRKL with all
levels open and with none. -/
theorem met_LoopResults :
    (let c := { xy with loops := loopsAt 2 #v[0x60, 0x50, 0] #v[1, 1, 0] }
     Shows c 0x094 0 (lps 2 1023 3) [] (fun t w => let d := t.core 0
      d.handler = false ∧ (w.extractLsb' 22 2).toNat < 3 ∧ (w.extractLsb' 22 2).toNat = d.loops.lst.toNat ∧
        d.pc.toNat + 1 + (w.extractLsb' 0 12).toNat ≤ 0x7FFF ∧ (∀ i, (h : i < 3) → i < (w.extractLsb' 22 2).toNat → d.loops.le[i] ≠ d.pc) ∧
        modeOf w ≠ 7 ∧ (w.extractLsb' 12 10).zeroExtend 24 ≠ (0 : BitVec 24))) ∧
    Shows xy 0x094 0 (lps 0 0 0xFFF) [] (fun t w => let d := t.core 0
      d.handler = false ∧ (w.extractLsb' 22 2).toNat = d.loops.lst.toNat ∧ (w.extractLsb' 12 10).toNat = 0 ∧
        d.pc.toNat + 1 + (w.extractLsb' 0 12).toNat < 0x7FFF) ∧
    Shows xy 0x094 0 (lps 1 1 1) [] (fun t w => (w.extractLsb' 22 2).toNat ≠ (t.core 0).loops.lst.toNat ∧ TrapOpen t 0) ∧
    (let c := { xy with loops := loopsAt 3 #v[0x60, 0x50, 0x48] #v[1, 1, 5] }
     Shows c 0x095 7 0 [] (fun t _ => (t.core 0).handler = false ∧ (t.core 0).loops.lst.toNat = 2 + 1 ∧ (t.core 0).loops.le[2] ≠ 0x7FFF)) ∧
    Shows xy 0x095 7 0 [] (fun t _ => (t.core 0).loops.lst = 0 ∧ TrapOpen t 0) :=
  ⟨shows_of (by decide +kernel) (by decide +kernel), shows_of (by decide +kernel) (by decide +kernel),
    shows_of (by decide +kernel) ⟨by decide +kernel, by decide +kernel, by decide +kernel⟩, shows_of (by decide +kernel) (by decide +kernel),
    shows_of (by decide +kernel) ⟨by decide +kernel, by decide +kernel, by decide +kernel⟩⟩

/-- Two elements are moved and filled; two pass or are equal, and of four the third stops CMPS and SCANS. -/
theorem met_StringResults :
    Shows xy 0x098 0 1 [(0xA000, 1), (0xA001, 2)] (fun t w => ∃ u, Moves 0 (stringBy w) 2 0xA000 0xB000 t u) ∧
    Shows xy 0x099 0 0xFFF [] (fun t w => ∃ u, Fills 0 (stringBy w) 7 2 0xB000 t u) ∧
    Shows xy 0x09A 0 1 [(0xA000, 1), (0xA001, 2), (0xB000, 1), (0xB001, 2)] (fun t w => (t.core 0).c.toNat = 2 ∧ ∃ u, Equals 0 (stringBy w) 2 0xA000 0xB000 t u) ∧
    Shows xy 0x09A 0 1 [(0xA000, 1)] (fun t w => (t.core 0).c.toNat = 2 ∧ ∃ u, Equals 0 (stringBy w) 0 0xA000 0xB000 t u ∧
      ∃ x r y v, u.engineRead 0 0xA000 31 = (some x, r) ∧ r.engineRead 0 0xB000 31 = (some y, v) ∧ x ≠ y) ∧
    Shows xy 0x09B 0 1 [(0xA000, 1), (0xA001, 2)] (fun t w => (t.core 0).c.toNat = 2 ∧ w.getLsbD 12 = false ∧ ∃ u, Passes 0 (stringBy w) 7 false 2 0xA000 t u) ∧
    Shows xy 0x09B 0 0x1001 [(0xA000, 7), (0xA001, 2)] (fun t w => (t.core 0).c.toNat = 2 ∧ w.getLsbD 12 = true ∧
      ∃ u, Passes 0 (stringBy w) 7 true 1 0xA000 t u ∧ ∃ x r, u.engineRead 0 0xA001 31 = (some x, r) ∧ x ≠ 7) :=
  ⟨shows_of (by decide +kernel) ⟨_, .one ⟨by decide, by decide +kernel⟩ (pair_of (a := some 1) (by decide +kernel))
      (.one ⟨by decide, by decide +kernel⟩ (pair_of (a := some 2) (by decide +kernel)) (.none _ _ _))⟩,
    shows_of (by decide +kernel) ⟨_, .one ⟨by decide, by decide +kernel⟩ (.one ⟨by decide, by decide +kernel⟩ (.none _ _))⟩,
    shows_of (by decide +kernel) ⟨by decide +kernel, _, .one (v := 1) (pair_of (by decide +kernel)) (pair_of (by decide +kernel))
      (.one (v := 2) (pair_of (by decide +kernel)) (pair_of (by decide +kernel)) (.none _ _ _))⟩,
    shows_of (by decide +kernel) ⟨by decide +kernel, _, .none _ _ _, 1, _, 0, _, pair_of (by decide +kernel), pair_of (by decide +kernel), by decide⟩,
    shows_of (by decide +kernel) ⟨by decide +kernel, by decide, _, .one (v := 1) (pair_of (by decide +kernel)) (by decide)
      (.one (v := 2) (pair_of (by decide +kernel)) (by decide) (.none _ _))⟩,
    shows_of (by decide +kernel) ⟨by decide +kernel, by decide, _, .one (v := 7) (pair_of (by decide +kernel)) (by decide) (.none _ _), 2, _,
      pair_of (by decide +kernel), by decide⟩⟩

/-- MFS and MTS of the lowest, the highest and an unlisted register; MTS of FSR with rounding codes 4 and 5. -/
theorem met_SpecialRegisters :
    Shows xy 0x1C0 7 0 [] (fun _ _ => True) ∧
    (∀ n ∈ [0x00, 0x13, 0x14, 0x15, 0x20, 0x5F], Shows xy 0x1C1 0 n [] (fun t w => (w.extractLsb' 0 7).toNat = n ∧ (t.core 0).seg[(n - 0x20) / 16 % 4].outstanding = false)) ∧
    (∀ n ∈ [0x16, 0x1F, 0x60, 0x7F], Shows xy 0x1C1 0 n [] (fun t w => (w.extractLsb' 0 7).toNat = n ∧ TrapOpen t 0)) ∧
    (∀ n ∈ [0x06, 0x12], Shows xy 0x1C2 0 n [] (fun _ w => (w.extractLsb' 0 7).toNat = n)) ∧
    Shows { xy with a := 0x1000 } 0x1C2 0 4 [] (fun t _ => ((t.core 0).a.extractLsb' 10 3).toNat < 5) ∧
    Shows { xy with a := 0x1400 } 0x1C2 0 4 [] (fun t _ => 5 ≤ ((t.core 0).a.extractLsb' 10 3).toNat ∧ TrapOpen t 0) ∧
    Shows xy 0x1C2 0 0 [] (fun t w => (∀ x ∈ writables, (w.extractLsb' 0 7).toNat ≠ x.1) ∧ TrapOpen t 0) := by
  have mfs : ∀ n ∈ [0x00, 0x13, 0x14, 0x15, 0x20, 0x5F], standsB (at40 xy (word 0x1C1 0 n) []) 0x1C1 (word 0x1C1 0 n) = true ∧
      ((word 0x1C1 0 n).extractLsb' 0 7).toNat = n ∧ ((fetch (at40 xy (word 0x1C1 0 n) [])).core 0).seg[(n - 0x20) / 16 % 4].outstanding = false := by decide +kernel
  have bad : ∀ n ∈ [0x16, 0x1F, 0x60, 0x7F], standsB (at40 xy (word 0x1C1 0 n) []) 0x1C1 (word 0x1C1 0 n) = true ∧
      ((word 0x1C1 0 n).extractLsb' 0 7).toNat = n ∧ ((fetch (at40 xy (word 0x1C1 0 n) [])).core 0).handler = false ∧
      ((fetch (at40 xy (word 0x1C1 0 n) [])).core 0).fpu = none := by decide +kernel
  have mts : ∀ n ∈ [0x06, 0x12], standsB (at40 xy (word 0x1C2 0 n) []) 0x1C2 (word 0x1C2 0 n) = true ∧ ((word 0x1C2 0 n).extractLsb' 0 7).toNat = n := by
    decide +kernel
  exact ⟨shows_of (by decide +kernel) trivial, fun n h => shows_of (mfs n h).1 (mfs n h).2, fun n h => shows_of (bad n h).1 ⟨(bad n h).2.1, (bad n h).2.2.1, (bad n h).2.2.2⟩,
    fun n h => shows_of (mts n h).1 (mts n h).2, shows_of (by decide +kernel) (by decide +kernel),
    shows_of (by decide +kernel) ⟨by decide +kernel, by decide +kernel, by decide +kernel⟩,
    shows_of (by decide +kernel) ⟨by decide +kernel, by decide +kernel, by decide +kernel⟩⟩

/-- TRAP 31 in codelet code, TRAP and RETT in a handler, RETT outside one. -/
theorem met_TrapAndReturn :
    Shows xy 0x1C3 0 31 [] (fun t _ => TrapOpen t 0) ∧ Shows { xy with handler := true } 0x1C3 0 0 [] (fun t _ => (t.core 0).handler = true ∧ (t.core 0).fpu = none) ∧
    Shows { xy with handler := true, tpc := 0x50 } 0x1C4 7 0 [] (fun t _ => (t.core 0).handler = true ∧ (t.core 0).delay = []) ∧
    Shows xy 0x1C4 7 0 [] (fun t _ => TrapOpen t 0) :=
  ⟨shows_of (by decide +kernel) ⟨by decide +kernel, by decide +kernel⟩, shows_of (by decide +kernel) (by decide +kernel),
    shows_of (by decide +kernel) (by decide +kernel), shows_of (by decide +kernel) ⟨by decide +kernel, by decide +kernel⟩⟩

/-- A reserved opcode, a legal word, and flow past the last address. -/
theorem met_IllegalInstructions :
    (let s := at40 xy (word 0x1FF 0 0) []
     s.issuing 0 = true ∧ TrapOpen s 0 ∧ (s.core 0).past = false ∧ s.readLocal 0 0x40 31 = (.ok (word 0x1FF 0 0), fetch s) ∧ legal (word 0x1FF 0 0) = false) ∧
    (let s := at40 xy (word 0x1C0 7 0) []
     s.issuing 0 = true ∧ TrapOpen s 0 ∧ (s.core 0).past = false ∧ s.readLocal 0 0x40 31 = (.ok (word 0x1C0 7 0), fetch s) ∧ legal (word 0x1C0 7 0) = true) ∧
    (let s := at40 { xy with past := true } 0 []
     s.issuing 0 = true ∧ TrapOpen s 0 ∧ (s.core 0).past = true) :=
  ⟨⟨by decide +kernel, ⟨by decide +kernel, by decide +kernel⟩, by decide +kernel, pair_of (by decide +kernel), by decide⟩,
    ⟨by decide +kernel, ⟨by decide +kernel, by decide +kernel⟩, by decide +kernel, pair_of (by decide +kernel), by decide⟩,
    by decide +kernel, ⟨by decide +kernel, by decide +kernel⟩, by decide +kernel⟩

/-- The pipeline with X odd and Y at 0x7FFF. -/
def odd : Core := { xy with x := 0xA001, y := 0x7FFE }

/-- Engine 0 with an operand at 0xA000 whose nonet 0 has two wrong bits. -/
def torn (op : Nat) : State :=
  live.setEngine 0 { Engine.reset with
    core := { xy with act := some act, pc := 0x40 }, mem := tput (encodeWord 0xA000 0) 0xA000 (encodeWord 0xA000 0 ^^^ 3) (cells [(0x40, word op 2 0)]) }

theorem met_AddressTraps :
    (∀ op ∈ [0x005, 0x00C], Shows odd op 2 0 [] (fun t w => TrapOpen t 0 ∧ effective t 0 w % 2 = 1)) ∧
    (∀ op ∈ storeRows.map StoreRow.op ++ [0x00C], Shows odd op 3 0 [] (fun t w => TrapOpen t 0 ∧ effective t 0 w < 0x8000 ∧ modeOf w ≠ 7 ∧ effective t 0 w % 2 = 0)) ∧
    (∀ op ∈ [0x010, 0x020, 0x02F, 0x001, 0x002], Stands (torn op) 0 op (word op 2 0) (fetch (torn op)) ∧ TrapOpen (fetch (torn op)) 0 ∧
      ∃ u, (fetch (torn op)).engineRead 0 (effective (fetch (torn op)) 0 (word op 2 0)) 31 = (none, u)) ∧
    ∀ op ∈ [0x030, 0x031], Shows odd op 3 0 [] (fun t w => TrapOpen t 0 ∧ effective t 0 w = 0x7FFE) ∧
      Shows { odd with y := 0x18000 } op 3 0 [] (fun t w => TrapOpen t 0 ∧ effective t 0 w = 0x18000) := by
  have one : ∀ op ∈ [0x005, 0x00C], standsB (at40 odd (word op 2 0) []) op (word op 2 0) = true ∧ ((fetch (at40 odd (word op 2 0) [])).core 0).handler = false ∧
      ((fetch (at40 odd (word op 2 0) [])).core 0).fpu = none ∧ effective (fetch (at40 odd (word op 2 0) [])) 0 (word op 2 0) % 2 = 1 := by decide +kernel
  have two : ∀ op ∈ storeRows.map StoreRow.op ++ [0x00C, 0x030, 0x031], standsB (at40 odd (word op 3 0) []) op (word op 3 0) = true ∧
      ((fetch (at40 odd (word op 3 0) [])).core 0).handler = false ∧ ((fetch (at40 odd (word op 3 0) [])).core 0).fpu = none ∧
      effective (fetch (at40 odd (word op 3 0) [])) 0 (word op 3 0) = 0x7FFE ∧ modeOf (word op 3 0) = 3 := by decide +kernel
  have three : ∀ op ∈ [0x010, 0x020, 0x02F, 0x001, 0x002], standsB (torn op) op (word op 2 0) = true ∧ ((fetch (torn op)).core 0).handler = false ∧
      ((fetch (torn op)).core 0).fpu = none ∧ ((fetch (torn op)).engineRead 0 (effective (fetch (torn op)) 0 (word op 2 0)) 31).1 = none := by decide +kernel
  have four : ∀ op ∈ [0x030, 0x031], standsB (at40 { odd with y := 0x18000 } (word op 3 0) []) op (word op 3 0) = true ∧
      ((fetch (at40 { odd with y := 0x18000 } (word op 3 0) [])).core 0).handler = false ∧
      ((fetch (at40 { odd with y := 0x18000 } (word op 3 0) [])).core 0).fpu = none ∧
      effective (fetch (at40 { odd with y := 0x18000 } (word op 3 0) [])) 0 (word op 3 0) = 0x18000 := by decide +kernel
  have sub : ∀ op ∈ storeRows.map StoreRow.op ++ [0x00C], op ∈ storeRows.map StoreRow.op ++ [0x00C, 0x030, 0x031] := by decide
  have sub' : ∀ op ∈ [0x030, 0x031], op ∈ storeRows.map StoreRow.op ++ [0x00C, 0x030, 0x031] := by decide
  refine ⟨fun op h => ?_, fun op h => ?_, fun op h => ?_, fun op h => ⟨?_, ?_⟩⟩
  · obtain ⟨a, b, c, d⟩ := one op h; exact shows_of a ⟨⟨b, c⟩, d⟩
  · obtain ⟨a, b, c, d, e⟩ := two op (sub op h)
    exact shows_of a ⟨⟨b, c⟩, by rw [d]; decide, by rw [e]; decide, by rw [d]⟩
  · obtain ⟨a, b, c, d⟩ := three op h; exact ⟨stands_of a, ⟨b, c⟩, _, pair_of d⟩
  · obtain ⟨a, b, c, d, _⟩ := two op (sub' op h); exact shows_of a ⟨⟨b, c⟩, d⟩
  · obtain ⟨a, b, c, d⟩ := four op h; exact shows_of a ⟨⟨b, c⟩, d⟩

/-! ### Vector, floating point and far instructions -/

/-- Eight words of a vector at an address, word i the value i + 1. -/
def eight (a : Nat) : List (Nat × Word) := (List.range 8).map (fun i => (a + i, BitVec.ofNat 36 (i + 1)))

/-- The vector with those words. -/
def vec8 : Vec := 8#36 ++ 7#36 ++ 6#36 ++ 5#36 ++ 4#36 ++ 3#36 ++ 2#36 ++ 1#36

theorem vector_of {t : State} {adr : Nat} {p : Vec} {l : List Word} (h : (adr % 8 == 0 && decide ((t.engineReads 0 adr 8).1 = .inr l) &&
      (List.range 8).all (fun i => p.extractLsb' (36 * i) 36 == l.getD i 0)) = true) : VectorAt t 0 adr p (t.engineReads 0 adr 8).2 := by
  simp only [Bool.and_eq_true, beq_iff_eq, decide_eq_true_eq, List.all_eq_true, List.mem_range] at h
  exact ⟨h.1.1, l, pair_of h.1.2, h.2⟩

/-- P at X and Q at Y. -/
abbrev twoVectors : List (Nat × Word) := eight 0xA000 ++ eight 0xB000

/-- The words of `eight`. -/
abbrev ones : List Word := [1, 2, 3, 4, 5, 6, 7, 8]

theorem operandP_of {t : State} {w : Word} {i p : Vec} (m : modeOf w ≠ 7) (h : (effective t 0 w % 8 == 0 &&
    decide ((t.engineReads 0 (effective t 0 w) 8).1 = .inr ones) && (List.range 8).all (fun i => p.extractLsb' (36 * i) 36 == ones.getD i 0)) = true) :
    OperandP t 0 w i p (t.engineReads 0 (effective t 0 w) 8).2 := by
  unfold OperandP; rw [if_neg m]; exact vector_of h

/-- Two vectors at X and Y in mode 2, VLUT with the displacements -48 and 0 in mode 3, and V itself in mode 7. -/
theorem met_VectorGates :
    (∀ op ∈ [0x104, 0x10D], Shows xy op 2 0 (eight 0xA000) (fun t w => ∃ u, OperandP t 0 w (t.core 0).v vec8 u)) ∧
    Shows xy 0x104 7 0 [] (fun t w => OperandP t 0 w (t.core 0).v (t.core 0).v t) ∧
    (∀ op ∈ [0x110, 0x115, 0x116], Shows xy op 2 0 twoVectors (fun t w => ∃ u, OperandsPQ t 0 w ((w.extractLsb' 12 12).signExtend 36) vec8 vec8 u)) ∧
    Shows { xy with x := 0xA030 } 0x118 3 0xCAA000 twoVectors (fun t w => (w.extractLsb' 12 4).toInt = -6 ∧
      ∃ u, OperandsPQ t 0 w (BitVec.ofInt 36 (8 * (w.extractLsb' 12 4).toInt)) vec8 vec8 u) := by
  refine ⟨?_, shows_of (by decide +kernel) (by unfold OperandP; rw [if_pos (by decide)]; exact ⟨rfl, rfl⟩), ?_,
    shows_of (by decide +kernel) ⟨by decide, _, _, vector_of (l := ones) (by decide +kernel), vector_of (l := ones) (by decide +kernel), by decide +kernel⟩⟩
  · simp only [List.forall_mem_cons]
    exact ⟨shows_of (by decide +kernel) ⟨_, operandP_of (by decide) (by decide +kernel)⟩, shows_of (by decide +kernel) ⟨_, operandP_of (by decide) (by decide +kernel)⟩,
      fun _ h => absurd h (by simp)⟩
  · simp only [List.forall_mem_cons]
    refine ⟨?_, ?_, ?_, fun _ h => absurd h (by simp)⟩ <;>
      exact shows_of (by decide +kernel) ⟨_, _, vector_of (l := ones) (by decide +kernel), vector_of (l := ones) (by decide +kernel), by decide +kernel⟩

/-- An index table of 96 words, the first naming element 1, element 0xFFE and none. -/
def table : List Word := (0xFFFFFE001 : Word) :: List.replicate 47 0

/-- Words of a list at rising addresses. -/
def run (a : Nat) (l : List Word) : List (Nat × Word) := (List.range l.length).zip l |>.map (fun x => (a + x.1, x.2))

theorem met_VectorMoves :
    Shows xy 0x100 2 0 (eight 0xA000) (fun t w => ∃ u, VectorAt t 0 (effective t 0 w) vec8 u) ∧
    Shows edges 0x101 2 0 [] (fun t w => effective t 0 w % 8 = 0 ∧ MayStore t 0 (effective t 0 w)) ∧
    Shows xy 0x102 7 0 [] (fun _ _ => True) ∧
    Shows xy 0x128 2 0 (eight 0xA000) (fun t w => ∃ u, VectorAt t 0 (effective t 0 w) vec8 u) ∧
    Shows xy 0x129 2 0x2000 (eight 0xA000) (fun t w => (w.extractLsb' 12 2).toNat = 2 ∧ ∃ u, OperandP t 0 w 0 vec8 u) ∧
    Shows xy 0x129 7 0 [] (fun t w => OperandP t 0 w 0 0 t) ∧
    (∀ op ∈ [0x120, 0x121], Shows xy op 2 0 (eight 0xA000 ++ run 0xB000 table) (fun t w => widthOf w = 2 ∧ (w.extractLsb' 21 3).toNat = 0 ∧
      nearAddress (t.core 0) w (addrWord w) = 0xA000 ∧ farAddress (t.core 0) w (BitVec.ofInt 36 (8 * (w.extractLsb' 12 8).toInt)) = 0xB000 ∧
      ∃ u r, t.engineReads 0 0xB000 48 = (.inr table, u) ∧ u.engineReads 0 0xA000 8 = (.inr ones, r))) ∧
    Shows xy 0x122 3 0 (run 0xB000 table) (fun t w => nearAddress (t.core 0) w (addrWord w) = 0xB000 ∧ ∃ u, t.engineReads 0 0xB000 48 = (.inr table, u)) := by
  refine ⟨shows_of (by decide +kernel) ⟨_, vector_of (l := ones) (by decide +kernel)⟩, shows_of (by decide +kernel) ⟨by decide +kernel, by decide +kernel, by decide +kernel⟩,
    shows_of (by decide +kernel) trivial, shows_of (by decide +kernel) ⟨_, vector_of (l := ones) (by decide +kernel)⟩,
    shows_of (by decide +kernel) ⟨by decide, _, operandP_of (by decide) (by decide +kernel)⟩,
    shows_of (by decide +kernel) (by unfold OperandP; rw [if_pos (by decide)]; exact ⟨rfl, rfl⟩), ?_,
    shows_of (by decide +kernel) ⟨by decide +kernel, _, pair_of (by decide +kernel)⟩⟩
  simp only [List.forall_mem_cons]
  refine ⟨?_, ?_, fun _ h => absurd h (by simp)⟩ <;>
    exact shows_of (by decide +kernel) ⟨by decide, by decide, by decide +kernel, by decide +kernel, _, _, pair_of (by decide +kernel), pair_of (by decide +kernel)⟩

theorem met_FpIssue :
    Shows xy 0x180 2 0 [(0xA000, 0x3F800000)] (fun t w => ∃ u, Operand t 0 w 0x3F800000 u) ∧
    Shows xy 0x181 2 0 [(0xA000, 1), (0xA001, 2)] (fun t w => effective t 0 w % 2 = 0 ∧ ∃ u, t.engineReads 0 (effective t 0 w) 2 = (.inr [1, 2], u)) ∧
    Shows xy 0x188 7 0 [] (fun _ _ => True) ∧
    (∀ op ∈ [0x194, 0x195], Shows xy op 2 0 twoVectors (fun t w => ∃ u r v z,
      nearAddress (t.core 0) w (addrWord w) = 0xA000 ∧ farAddress (t.core 0) w ((w.extractLsb' 12 12).signExtend 36) = 0xB000 ∧
      t.engineReads 0 0xA000 1 = (.inr [1], u) ∧ u.engineReads 0 0xB000 1 = (.inr [1], r) ∧
      t.engineReads 0 0xA000 2 = (.inr [1, 2], v) ∧ v.engineReads 0 0xB000 2 = (.inr [1, 2], z))) := by
  refine ⟨shows_of (by decide +kernel) ⟨_, operand_of (by decide +kernel)⟩, shows_of (by decide +kernel) ⟨by decide +kernel, _, pair_of (by decide +kernel)⟩,
    shows_of (by decide +kernel) trivial, ?_⟩
  simp only [List.forall_mem_cons]
  refine ⟨?_, ?_, fun _ h => absurd h (by simp)⟩ <;>
    exact shows_of (by decide +kernel) ⟨_, _, _, _, by decide +kernel, by decide +kernel, pair_of (by decide +kernel), pair_of (by decide +kernel),
      pair_of (by decide +kernel), pair_of (by decide +kernel)⟩

/-- A pipeline with FADD.S of the greatest number to itself outstanding, its result displaced or not, and n queued records. -/
def withFpu (n : Nat) (drop : Bool) : Core :=
  { xy with
    fpu := some { opcode := 0x180, pc := 0x3F, a := 0x7F7FFFFF, p := 0x7F7FFFFF, q := 0, drop := drop }
    fpq := List.replicate n { pc := 0x30, set := 4 }, fsr := 0x3E0 }

/-- With nothing queued, with four records, and with the result displaced. -/
theorem met_FpCompletion : ((at40 (withFpu 0 false) 0 []).core 0).fpu.isSome = true ∧ ((at40 (withFpu 4 false) 0 []).core 0).fpq.length = 4 ∧
    (((at40 (withFpu 0 true) 0 []).core 0).fpu.map FpOp.drop) = some true ∧ ((at40 xy 0 []).core 0).fpu = none := by decide +kernel

/-- A pipeline with n queued records. -/
def queued (n : Nat) : Core := { xy with fpq := List.replicate n { pc := 0x30, set := 4 } }

theorem met_FpTraps :
    Shows xy 0x1B0 7 0 [] (fun t _ => (t.core 0).fpq = []) ∧ Shows { queued 3 with handler := true } 0x1B0 7 0 [] (fun t _ => (t.core 0).handler = true) ∧
    Shows (queued 1) 0x1B0 7 0 [] (fun t _ => (t.core 0).handler = false ∧ (t.core 0).delay = [] ∧ (t.core 0).fpq = { pc := 0x30, set := 4 } :: []) ∧
    (let s := at40 (queued 4) (word 0x1C0 7 0) []
     s.issuing 0 = true ∧ (s.core 0).past = false ∧ s.readLocal 0 0x40 31 = (.ok (word 0x1C0 7 0), fetch s) ∧ ((fetch s).core 0).fpq.length = 4 ∧
      ((fetch s).core 0).handler = false ∧ ((fetch s).core 0).delay = []) := by
  refine ⟨shows_of ?_ ?_, shows_of ?_ ?_, shows_of ?_ ?_, ?_, ?_, pair_of ?_, ?_, ?_, ?_⟩ <;> decide +kernel

/-- A value halfway between two multiples, and a directed code on a negative one. -/
theorem met_RoundingCodes : (-1 : Int) < 0 ∧ (quantize 0 false 3 (-1) 0).1 = 2 ∧ (quantize 4 false 5 (-1) 0).1 = 3 ∧ (quantize 3 true 3 (-1) 0).1 = 2 := by decide +kernel

/-- A pipeline whose segments are as given, by number. -/
def segs (f : Nat → Segment) : Core := { xy with seg := Vector.ofFn (fun i => f i.val) }

/-- An outstanding segment, and one completed with a code. -/
def waiting : Segment := { Segment.reset with outstanding := true }
def ended (code : BitVec 4) (reported : Bool) : Segment := { Segment.reset with code := code, reported := reported }

theorem met_FarInstructions :
    Shows xy 0x0A8 7 0x3F0000 [] (fun t w => spaceOf w = 3 ∧ segmentOf w = 3 ∧ ((t.core 0).segment 3).outstanding = false) ∧
    Shows xy 0x0A9 2 0x0E0000 twoVectors (fun t w => spaceOf w < 4 ∧ segmentOf w = 3 ∧ lengthOf w = 1 ∧ ((t.core 0).segment 3).outstanding = false ∧
      ∃ u, t.engineReads 0 (effective t 0 w) 1 = (.inr [1], u)) ∧
    (∀ op ∈ [0x0AA, 0x0AB], Shows xy op 7 0x100000 [] (fun t w => spaceOf w = 1 ∧ ((t.core 0).segment (segmentOf w)).outstanding = false) ∧
      Shows xy op 7 0x400000 [] (fun t w => spaceOf w = 4 ∧ ((t.core 0).segment (segmentOf w)).outstanding = false ∧ TrapOpen t 0) ∧
      Shows xy op 7 0x200000 [] (fun t w => spaceOf w = 2 ∧ TrapOpen t 0)) ∧
    Shows (segs fun _ => waiting) 0x0A8 7 0 [] (fun t w => ((t.core 0).segment (segmentOf w)).outstanding = true) ∧
    Shows xy 0x0A8 7 0xF00000 [] (fun t w => 4 ≤ spaceOf w ∧ ((t.core 0).segment (segmentOf w)).outstanding = false ∧ TrapOpen t 0) := by
  refine ⟨shows_of (by decide +kernel) (by decide +kernel), shows_of (by decide +kernel) ⟨by decide, by decide, by decide, by decide +kernel, _, pair_of (by decide +kernel)⟩,
    ?_, shows_of (by decide +kernel) (by decide +kernel), shows_of (by decide +kernel) ⟨by decide, by decide +kernel, by decide +kernel, by decide +kernel⟩⟩
  simp only [List.forall_mem_cons]
  refine ⟨?_, ?_, fun _ h => absurd h (by simp)⟩ <;>
    exact ⟨shows_of (by decide +kernel) (by decide +kernel), shows_of (by decide +kernel) ⟨by decide, by decide +kernel, by decide +kernel, by decide +kernel⟩,
      shows_of (by decide +kernel) ⟨by decide, by decide +kernel, by decide +kernel⟩⟩

/-- Segments outstanding, without an error, with the error reported, and with codes 2 and 6 not yet reported. -/
theorem met_SegmentWaits :
    Shows (segs fun _ => waiting) 0x0AC 0 3 [] (fun t _ => ((t.core 0).segment 3).outstanding = true) ∧
    Shows (segs fun _ => ended 6 true) 0x0AC 0 3 [] (fun t _ => ((t.core 0).segment 3).outstanding = false ∧ ((t.core 0).segment 3).reported = true) ∧
    Shows (segs fun _ => ended 2 false) 0x0AC 0 0 [] (fun t _ => ((t.core 0).segment 0).outstanding = false ∧ ((t.core 0).segment 0).reported = false ∧
      ((t.core 0).segment 0).code = 2 ∧ TrapOpen t 0) ∧
    Shows (segs fun i => if i = 0 then waiting else Segment.reset) 0x0AD 7 0 [] (fun t _ => ((t.core 0).segment 0).outstanding = true) ∧
    Shows (segs fun _ => ended 1 false) 0x0AD 7 0 [] (fun t _ => ∀ j < 4, ((t.core 0).segment j).outstanding = false ∧ ((t.core 0).segment j).code = 1) ∧
    Shows (segs fun _ => ended 6 false) 0x0AD 7 0 [] (fun t _ => (∀ j < 4, ((t.core 0).segment j).outstanding = false) ∧ ((t.core 0).segment 0).reported = false ∧
      ((t.core 0).segment 0).code = 6 ∧ TrapOpen t 0) :=
  ⟨shows_of (by decide +kernel) (by decide +kernel), shows_of (by decide +kernel) (by decide +kernel),
    shows_of (by decide +kernel) ⟨by decide +kernel, by decide +kernel, by decide +kernel, by decide +kernel, by decide +kernel⟩,
    shows_of (by decide +kernel) (by decide +kernel), shows_of (by decide +kernel) (by decide +kernel),
    shows_of (by decide +kernel) ⟨by decide +kernel, by decide +kernel, by decide +kernel, by decide +kernel, by decide +kernel⟩⟩

/-! ### Tokens -/

/-- Device 0 with cluster 0 in flight 0, which runs with frames of 16 slots and T = F = 4; engine 0 has 2 nodes, its descriptors at 0x18000,
and the pipeline, token unit and words given. -/
def flying (c : Core) (t : TokenUnit) (l : List (Nat × Word)) : State :=
  { (((((live.setObj 0x2C00 3 0).setObj 0x2800 2 1).setObj 0x2800 4 16).setObj 0x2400 1 2).setObj 0x2400 2 0x18000).setEngine 0
      { Engine.reset with core := c, tu := { t with tether := 4, frames := 4, count := 2, scanned := true }, mem := cells l } with
    flights := [(0, { Flight.reset with state := .running, tether := 4, frames := 4 })] }

/-- The pipeline at 0x40 with an activation running. -/
def busy : Core := { xy with act := some act, pc := 0x40 }

/-- The first word of a fan-out entry. -/
def fanWord (slot engine device : Nat) (moored last : Bool) : Word :=
  BitVec.ofNat 36 (slot + 2 ^ 14 * engine + 2 ^ 23 * device + 2 ^ 33 * moored.toNat + 2 ^ 34 * last.toNat)

theorem entry_of {t : State} {a : Activation} {j : Nat} {p q : Word}
    (h : (t.engineReads 0 ((a.fanlist.toNat + 2 * j) % 0x20000) 2).1 = .inr [p, q]) :
    EntryAt t 0 a j (fanOf p q) (t.engineReads 0 ((a.fanlist.toNat + 2 * j) % 0x20000) 2).2 := ⟨p, q, pair_of h, rfl⟩

/-- Entry 1 of the list at 0x9000 reads as p and q in the state after the fetch. -/
def lists (w p q : Word) : State := flying busy TokenUnit.reset [(0x40, w), (0x9002, p), (0x9003, q), (0xA001, 9)]

/-- An unmoored entry to another engine and to the own one, a moored one whose reference is the second word of the state, and index 2 of
two entries. -/
theorem met_TokenInstructions :
    (∀ op ∈ [0x0A0, 0x0A1], ∀ e ∈ [0, 511], let w := word op 0 1; let s := lists w (fanWord 5 e 0 false true) 0; let x := fanOf (fanWord 5 e 0 false true) 0
      Stands s 0 op w (fetch s) ∧ ((fetch s).core 0).act = some act ∧ sendIndex ((fetch s).core 0) w = 1 ∧ act.sent < act.fanout ∧
        (∃ u, EntryAt (fetch s) 0 act 1 x u) ∧ x.reserved = false ∧ x.moored = false ∧ x.last = true ∧ x.engine = e ∧ x.device = (fetch s).devId) ∧
    (let w := word 0x0A2 0 1; let s := lists w (fanWord 5 3 0 true false) 0xA001; let x := fanOf (fanWord 5 3 0 true false) 0xA001
      Stands s 0 0x0A2 w (fetch s) ∧ x.reserved = false ∧ x.moored = true ∧ act.stateSrc = true ∧ act.stateBase.toNat ≤ x.reference ∧
        x.reference < act.stateBase.toNat + act.stateLen ∧ ∃ u, EntryAt (fetch s) 0 act 1 x u ∧ ∃ r, u.engineRead 0 x.reference 31 = (some 9, r)) ∧
    ∀ op ∈ [0x0A0, 0x0A1, 0x0A2], let w := word op 7 6; let s := lists w 0 0
      Stands s 0 op w (fetch s) ∧ sendIndex ((fetch s).core 0) w = act.fanout := by
  simp only [List.forall_mem_cons]
  refine ⟨⟨⟨?_, ?_, fun _ h => absurd h (by simp)⟩, ⟨?_, ?_, fun _ h => absurd h (by simp)⟩, fun _ h => absurd h (by simp)⟩, ?_, ⟨?_, ?_, ?_, fun _ h => absurd h (by simp)⟩⟩
  iterate 4 exact ⟨stands_of (by decide +kernel), by decide +kernel, by decide +kernel, by decide, ⟨_, entry_of (by decide +kernel)⟩, by decide +kernel⟩
  · exact ⟨stands_of (by decide +kernel), by decide +kernel, by decide +kernel, by decide, by decide +kernel, by decide +kernel, _, entry_of (by decide +kernel), _,
      pair_of (by decide +kernel)⟩
  iterate 3 exact ⟨stands_of (by decide +kernel), by decide +kernel⟩

/-- ENDA with everything closed, with a segment outstanding, and in handler mode. -/
theorem met_EndOfActivation :
    let s := fun c : Core => flying { c with act := some act, pc := 0x40 } TokenUnit.reset [(0x40, word 0x0A3 7 0)]
    let w := word 0x0A3 7 0
    (Stands (s xy) 0 0x0A3 w (fetch (s xy)) ∧ let c := (fetch (s xy)).core 0
      c.act = some act ∧ c.handler = false ∧ (∀ j < 4, (c.segment j).outstanding = false ∧ (c.segment j).code = 0) ∧ c.fpq = [] ∧ c.delay = [] ∧ act.refire = false) ∧
    (let c0 := segs fun i => if i = 3 then waiting else Segment.reset
     Stands (s c0) 0 0x0A3 w (fetch (s c0)) ∧ let c := (fetch (s c0)).core 0; c.handler = false ∧ ∃ j < 4, (c.segment j).outstanding = true) ∧
    (let c0 := { xy with handler := true }
     Stands (s c0) 0 0x0A3 w (fetch (s c0)) ∧ let c := (fetch (s c0)).core 0; c.handler = true ∧ c.fpu = none) :=
  ⟨⟨stands_of (by decide +kernel), by decide +kernel⟩, ⟨stands_of (by decide +kernel), by decide +kernel⟩, stands_of (by decide +kernel), by decide +kernel⟩

/-- A token for engine 0 of device 0 from engine 5, in the partition of router 45, in a state whose slots 0 and 1 belong to node 1. -/
def arriving (t : BitVec 96) (view : Nat) (base : Nat) : State :=
  flying Core.reset { TokenUnit.reset with
    view := view, parts := [(45, [{ token := t, ctl := mkCtl 0 false 2 8 { device := 0, engine := 5, node := 7, seq := 3 } }])],
    slotMap := [(0, 17), (1, 18)], store := [(base % 4 * 16 + 1, encodeEntry (base % 4 * 16 + 1) 6 true false)] }
    [(0x18004, 0x220000040), (0x18005, 0x20002), (0x18006, 0x9000)]

abbrev lastPart : QueueSrc := .partition 45

/-- A token of an epoch tag, slot, class and version. -/
def token (v : Word) (device slot tag flight cls : Nat) : BitVec 96 := mkToken v device 0 slot tag flight cls

theorem lastPart_exists : QueueExists lastPart := (by decide : (45#6).toNat < 46)

theorem atHead_of {s : State} {g : Nat} {q : QueueSrc} {x : Flit} (h : QueueExists q ∧ s.queueHead g q = some x ∧ s.clusterRuns (g / 16) = true ∧ tokClass x.token ≠ 6 ∧
    s.col.armed = false ∧ tokenSyndrome x.token = 0) : AtHead s g q x := ⟨h.1, h.2.1, h.2.2.1, h.2.2.2.1, h.2.2.2.2.1, h.2.2.2.2.2⟩

theorem wellAddressed_of {s : State} {g : Nat} {x : Flit} (h : x.token.extractLsb' 85 3 = 0 ∧ s.classFault x.ctl x.token = false ∧ tokDevice x.token = s.devId ∧
    s.flightOf (g / 16) = some (tokFlight x.token) ∧ tokClass x.token ≠ 2 ∧ tokClass x.token ≠ 3) : WellAddressed s g x :=
  ⟨h.1, h.2.1, h.2.2.1, h.2.2.2.1, h.2.2.2.2⟩

/-- The flit that `arriving` puts in the partition. -/
def flit (t : BitVec 96) : Flit := { token := t, ctl := mkCtl 0 false 2 8 { device := 0, engine := 5, node := 7, seq := 3 } }

/-- A bad CRC-8, version bits, a class its source may not use, another device or flight, both ends of the invalid distances, a slot past the
frame and one that no input owns, an empty queue, and the first router number that does not exist. -/
theorem met_TokenChecks :
    (let t := token 5 0 0 4 0 0 ^^^ 1; let s := arriving t 4 4
     QueueExists lastPart ∧ s.queueHead 0 lastPart = some (flit t) ∧ s.clusterRuns 0 = true ∧ tokClass t ≠ 6 ∧ s.col.armed = false ∧ tokenSyndrome t ≠ 0) ∧
    (let t := sealToken (token 5 0 0 4 0 0 ||| (1 <<< 87)); let s := arriving t 4 4; AtHead s 0 lastPart (flit t) ∧ t.extractLsb' 85 3 ≠ 0) ∧
    (let t := token 5 0 0 4 0 4; let s := arriving t 4 4; AtHead s 0 lastPart (flit t) ∧ t.extractLsb' 85 3 = 0 ∧ s.classFault (flit t).ctl t = true) ∧
    (∀ d ∈ [0, 1], ∀ f ∈ [0, 31], d + f ≠ 0 → let t := token 5 d 0 4 f 0; let s := arriving t 4 4
      AtHead s 0 lastPart (flit t) ∧ t.extractLsb' 85 3 = 0 ∧ s.classFault (flit t).ctl t = false ∧ (tokDevice t ≠ s.devId ∨ s.flightOf 0 ≠ some (tokFlight t))) ∧
    (∀ d ∈ [64, 191], let t := token 5 0 0 (4 + d) 0 0; let s := arriving t 4 4
      AtHead s 0 lastPart (flit t) ∧ WellAddressed s 0 (flit t) ∧ (s.flight 0).state ≠ .idle ∧ tagDistance (tokTag t).toNat (s.tu 0).view = d) ∧
    (∀ k ∈ [2, 15, 16, 16383], let t := token 5 0 k 4 0 0; let s := arriving t 4 4
      AtHead s 0 lastPart (flit t) ∧ WellAddressed s 0 (flit t) ∧ (s.frameSize 0 ≤ tokSlot t ∨ s.slotOwner 0 (tokSlot t) = none)) ∧
    (QueueExists lastPart ∧ (flying Core.reset TokenUnit.reset []).queueHead 0 lastPart = none) ∧ (46#6).toNat = 46 := by
  refine ⟨⟨lastPart_exists, by decide +kernel⟩, ⟨atHead_of ⟨lastPart_exists, by decide +kernel⟩, by decide +kernel⟩,
    ⟨atHead_of ⟨lastPart_exists, by decide +kernel⟩, by decide +kernel⟩, ?_, ?_, ?_, ⟨lastPart_exists, by decide +kernel⟩, by decide⟩
  all_goals simp only [List.forall_mem_cons]
  · refine ⟨⟨fun h => absurd rfl h, ?_, fun _ h => absurd h (by simp)⟩, ⟨?_, ?_, fun _ h => absurd h (by simp)⟩, fun _ h => absurd h (by simp)⟩ <;>
      exact fun _ => ⟨atHead_of ⟨lastPart_exists, by decide +kernel⟩, by decide +kernel⟩
  · exact ⟨⟨atHead_of ⟨lastPart_exists, by decide +kernel⟩, wellAddressed_of (by decide +kernel), by decide +kernel⟩,
      ⟨atHead_of ⟨lastPart_exists, by decide +kernel⟩, wellAddressed_of (by decide +kernel), by decide +kernel⟩, fun _ h => absurd h (by simp)⟩
  · refine ⟨?_, ?_, ?_, ?_, fun _ h => absurd h (by simp)⟩ <;>
      exact ⟨atHead_of ⟨lastPart_exists, by decide +kernel⟩, wellAddressed_of (by decide +kernel), by decide +kernel⟩

/-- The state after the descriptor of node 1 is read for the token at the head. -/
def described (s : State) : State := ((s.popQueue 0 lastPart).readDesc 0 1).2

theorem meant_of {s : State} {x : Flit} {d i : Nat} {e : Desc}
    (h : ((s.flight (tokFlight x.token)).state = .running ∨ (s.flight (tokFlight x.token)).state = .halting) ∧
      d = tagDistance (tokTag x.token).toNat (s.tu 0).view ∧ (d < 64 ∨ 192 ≤ d) ∧ tokSlot x.token < s.frameSize (tokFlight x.token) ∧
      s.slotOwner 0 (tokSlot x.token) = some (1, i) ∧ tokClass x.token ≠ 4)
    (k : ((s.popQueue 0 lastPart).readDesc 0 1).1 = some e ∧ (tokClass x.token = 0 → e.moored.getLsbD i = false) ∧
      (tokClass x.token = 1 → e.moored.getLsbD i = true)) : Meant s 0 lastPart x d 1 i (described s) :=
  ⟨h.1, h.2.1, h.2.2.1, h.2.2.2.1, h.2.2.2.2.1, h.2.2.2.2.2, e, pair_of k.1, k.2⟩

/-- The descriptor of node 1: entry 0x40, slots 0 and 1, slot 1 moored. -/
def node1 : Desc :=
  { entry := 0x40, base := 0, arity := 2, valid := true, moored := 2, stateSrc := false, fanout := 1, fanlist := 0x9000, stateLen := 0, stateBase := 0,
    reserved := false }

/-- A token of class c for slot i of the view's epoch plus d, value v, at a view near the wrap of the tag; the store holds 6 at slot 1 of it. -/
abbrev comes (v : Word) (i d : Nat) : BitVec 96 := token v 0 i ((250 + d) % 256) 0 i

abbrev there (v : Word) (i d : Nat) : State := arriving (comes v i d) 250 (250 + d)

/-- The three premises of TokenOutcomes. -/
def Comes (s : State) (v : Word) (i d : Nat) : Prop :=
  AtHead s 0 lastPart (flit (comes v i d)) ∧ WellAddressed s 0 (flit (comes v i d)) ∧ Meant s 0 lastPart (flit (comes v i d)) d 1 i (described s)

theorem comes_of {s : State} {v : Word} {i d : Nat} (h : let x := flit (comes v i d)
      (s.queueHead 0 lastPart = some x ∧ s.clusterRuns (0 / 16) = true ∧ tokClass x.token ≠ 6 ∧ s.col.armed = false ∧ tokenSyndrome x.token = 0) ∧
      (x.token.extractLsb' 85 3 = 0 ∧ s.classFault x.ctl x.token = false ∧ tokDevice x.token = s.devId ∧
        s.flightOf (0 / 16) = some (tokFlight x.token) ∧ tokClass x.token ≠ 2 ∧ tokClass x.token ≠ 3) ∧
      (((s.flight (tokFlight x.token)).state = .running ∨ (s.flight (tokFlight x.token)).state = .halting) ∧
        d = tagDistance (tokTag x.token).toNat (s.tu 0).view ∧ (d < 64 ∨ 192 ≤ d) ∧ tokSlot x.token < s.frameSize (tokFlight x.token) ∧
        s.slotOwner 0 (tokSlot x.token) = some (1, i) ∧ tokClass x.token ≠ 4) ∧
      ((s.popQueue 0 lastPart).readDesc 0 1).1 = some node1 ∧ (tokClass x.token = 0 → node1.moored.getLsbD i = false) ∧
        (tokClass x.token = 1 → node1.moored.getLsbD i = true)) : Comes s v i d :=
  ⟨atHead_of ⟨lastPart_exists, h.1⟩, wellAddressed_of h.2.1, meant_of h.2.2.1 h.2.2.2⟩

/-- A marked entry, and a node handled at the epoch. -/
def marked : State := (there 5 0 0).writeEntry 0 32 0 false true
def past3 : State := (there 5 0 3).setTu 0 { (there 5 0 3).tu 0 with next := [(1, 254)] }

/-- Both ends of the late and the bogged distances; an empty entry at the view and at the last epoch of the tether; the value that stands
there and another; a mark; a handled node. -/
theorem met_TokenOutcomes :
    (∀ d ∈ [192, 255, 4, 63], Comes (there 5 0 d) 5 0 d ∧ ((there 5 0 d).tu 0).tether = 4) ∧
    (∀ d ∈ [0, 3], Comes (there 5 0 d) 5 0 d ∧ (((described (there 5 0 d)).readEntry 0 ((250 + d) % 4 * 16)).1 = some (0, false, false)) ∧
      tget 0 ((there 5 0 d).tu 0).next 1 ≤ 250 + d) ∧
    (∀ v ∈ [5, 6], Comes (there v 1 0) v 1 0 ∧ ((described (there v 1 0)).readEntry 0 33).1 = some (6, true, false)) ∧
    (Comes marked 5 0 0 ∧ ((described marked).readEntry 0 32).1 = some (0, false, true)) ∧
    (Comes past3 5 0 3 ∧ ((described past3).readEntry 0 16).1 = some (0, false, false) ∧ 253 < tget 0 (past3.tu 0).next 1) := by
  simp only [List.forall_mem_cons]
  refine ⟨⟨?_, ?_, ?_, ?_, fun _ h => absurd h (by simp)⟩, ⟨?_, ?_, fun _ h => absurd h (by simp)⟩, ⟨?_, ?_, fun _ h => absurd h (by simp)⟩, ?_, ?_⟩ <;>
    exact ⟨comes_of (by decide +kernel), by decide +kernel⟩

/-- A queue entry for node 1 of an epoch. -/
def entry (epoch : Nat) (refire running : Bool) : REntry := { q := 63, node := 1, epoch := epoch, refire := refire, order := 0, running := running }

/-- Engine 0 with an entry of the last epoch of the tether at the head of its queue and one credit. -/
def ready : State :=
  (flying Core.reset { TokenUnit.reset with view := 250, ready := [entry 253 false false], credits := 1 }
    [(0x18004, 0x220000040), (0x18005, 0x20002), (0x18006, 0x9000)]).setObj 0x2400 5 4

theorem met_Dispatched :
    (ready.flightOf 0 = some 0 ∧ (ready.tu 0).head = some (entry 253 false false) ∧ (ready.core 0).act = none ∧ ready.unitStopped 0 = false ∧
      ready.retiredEngine 0 = false ∧ ready.clusterRuns 0 = true ∧ (ready.domain 0).contained = false ∧ (ready.cluster 0).phase ≠ .stopping ∧
      (ready.flight 0).state = .running ∧ 253 < (ready.tu 0).view + min (ready.tu 0).tether (ready.journalDepth 0) ∧
      (ready.readDesc 0 1).1 = some node1 ∧ node1.fanout ≤ (ready.tu 0).credits) ∧ (ready.tu 1).head = none := by decide +kernel

/-- A waterline token for device 0: value, tag, slot code, flight; from an engine or a unit. -/
def report (v slot : Nat) (src : Src) : Flit := { token := mkReport 0 0 slot 0 v, ctl := mkCtl 0 false 2 8 src }

theorem met_RetireReports :
    (let s := flying Core.reset { TokenUnit.reset with view := 250, lur := 253, next := [(0, 254), (1, 254)], fired := [(1, 253), (1, 254)] } []
     let t := s.tu 0
     s.flightOf 0 = some 0 ∧ (s.flight 0).state = .running ∧ s.unitStopped 0 = false ∧ s.retiredEngine 0 = false ∧ s.clusterRuns 0 = true ∧
       t.handledCount t.lur = t.count ∧ s.nothingOpen 0 t.lur = true ∧ t.lur < t.view + t.tether) ∧
    (let x := report 300 0x3FF0 { device := 0, engine := 15, node := 0, seq := 0 }
     let s := (flying Core.reset TokenUnit.reset []).setCluster 0 { Cluster.reset with wnIn := [x], wnReports := [(15, 299)] }
     tokenSyndrome x.token = 0 ∧ x.token.extractLsb' 85 3 = 0 ∧ tokClass x.token = 3 ∧ s.classFault x.ctl x.token = false ∧ tokDevice x.token = s.devId ∧
       (tokValue x.token).toNat % 256 = (tokTag x.token).toNat ∧ tokFlight x.token = 0 ∧ tokSlot x.token = 0x3FF0 ∧ s.flightOf 0 = some 0 ∧
       s.heldOff 0 300 = false ∧ nearestEpoch (tokValue x.token).toNat (s.flight 0).view = 300 ∧ ctlEngine x.ctl = 15 ∧
       tget 0 (s.cluster 0).wnReports (ctlEngine x.ctl) < 300) ∧
    (let x := report 300 0x3FF1 (unitSrc 0 4)
     let s := { flying Core.reset TokenUnit.reset [] with devIn := [(x, 0)] }
     tokenSyndrome x.token = 0 ∧ x.token.extractLsb' 85 3 = 0 ∧ tokClass x.token = 3 ∧ s.classFault x.ctl x.token = false ∧ tokDevice x.token = s.devId ∧
       (tokValue x.token).toNat % 256 = (tokTag x.token).toNat ∧ tokFlight x.token = 0 ∧ tokSlot x.token = 0x3FF1 ∧ s.inFlight 0 0 = true ∧
       s.heldOff 0 300 = false ∧ tget 0 (s.flight 0).clusterReports 0 < 300) ∧
    (let x := report 300 0x3FF3 (unitSrc 0 4)
     let s := { (flying Core.reset TokenUnit.reset []).setCluster 0 { Cluster.reset with wnIn := [x] } with devIn := [(x, 36 + 7)] }.setObj 0x2800 0xD 7
     tokenSyndrome x.token = 0 ∧ x.token.extractLsb' 85 3 = 0 ∧ tokClass x.token = 3 ∧ s.classFault x.ctl x.token = false ∧ tokDevice x.token = s.devId ∧
       (tokValue x.token).toNat % 256 = (tokTag x.token).toNat ∧ tokFlight x.token = 0 ∧ tokSlot x.token = 0x3FF3 ∧ s.flightOf 0 = some 0 ∧
       s.heldOff 0 300 = false ∧ s.passesInward 0 = true ∧ (s.setDomain 0 { Domain.reset with state := .isolate }).passesInward 0 = false ∧ 36 + 7 = 36 + s.obj 0x2800 0xD ∧ (s.flight 0).state ≠ .idle ∧ (s.flight 0).view < 300) ∧
    (let s := flying Core.reset { TokenUnit.reset with reported := some 4 } []
     s.flightOf 0 = some (0 % 32) ∧ s.clusterRuns 0 = true ∧ (s.tu 0).reported.isSome = true) := by decide +kernel

/-- The last of an activation's tokens at the last epoch of the tether, and an ACCEPT that names it. -/
def open1 : Obligation := { node := 16382, epoch := 253, seq := 63, tag := 253, credits := 1 }
def accept1 : Pkt := { ctl := 0, head := mkHead (16382 + 2 ^ 14 * 63 + 2 ^ 20 * 253) 0 0x30 1 0 0 0 false, data := [], inj := some 1 }

/-- Engine 0 with that obligation and the ready queue given. -/
def owing (l : List REntry) : State := flying Core.reset { TokenUnit.reset with obligations := [open1], credits := 4095, ready := l } []

/-- Windows 0 to 62 taken. -/
def full63 : List REntry := (List.range 63).map (fun i => { entry 253 false false with q := BitVec.ofNat 6 i })

/-- A recompute request for node 1 at the last epoch of the tether. -/
def again : Flit := { token := mkToken 0 0 0 1 253 0 2, ctl := mkCtl 0 false 3 8 (unitSrc 0 0) }
def asked : State := flying Core.reset { TokenUnit.reset with view := 250, lur := 253, recomp := [again], fired := [(1, 253)] } [(0x18004, 0x220000040)]

theorem met_AcceptanceAndRecompute :
    (hdOp accept1.head = 0x30 ∧ headSyndrome accept1.head = 0 ∧ ((owing []).tu 0).obligations = [open1] ∧
      open1.node = BitVec.ofNat 14 (hdOffset accept1.head) ∧ open1.seq = BitVec.ofNat 6 (hdOffset accept1.head / 2 ^ 14) ∧
      open1.tag = BitVec.ofNat 8 (hdOffset accept1.head / 2 ^ 20)) ∧
    ((owing full63).flightOf 0 = some 0 ∧ (owing full63).unitStopped 0 = false ∧ (owing full63).clusterRuns 0 = true ∧ ((owing full63).core 0).act = none ∧
      ((owing full63).tu 0).queued 16382 253 true = false ∧ ((owing full63).tu 0).freeWindow = some 63 ∧ ((owing []).tu 1).obligations = []) ∧
    (let taken := (asked.setTu 0 { asked.tu 0 with recomp := [] }).tick1 0 8
     asked.flightOf 0 = some 0 ∧ asked.clusterRuns 0 = true ∧ asked.col.armed = false ∧ tokenSyndrome again.token = 0 ∧ again.token.extractLsb' 85 3 = 0 ∧
       asked.classFault again.ctl again.token = false ∧ tokDevice again.token = asked.devId ∧ tokFlight again.token = 0 ∧ asked.unitStopped 0 = false ∧
       tokSlot again.token = 1 ∧ 1 < asked.nodeCount 0 ∧ (taken.readDesc 0 1).1 = some (descOf 0x220000040 0 0 0) ∧
       (descOf 0x220000040 0 0 0).valid = true ∧ tagDistance (tokTag again.token).toNat (asked.tu 0).view = 3 ∧ (asked.tu 0).lur ≤ 253 ∧
       (1, 253) ∈ (asked.tu 0).fired) ∧
    ((45#6).toNat < 46 ∧ 0 < tget 0 { live.noc with tokBack := [(45, 4)] }.tokBack (64 * 0 + 45)) := by
  refine ⟨by decide +kernel, by decide +kernel, by decide +kernel, by decide⟩

/-- A probe at the head of the last partition, and its report for a buffer that waits. -/
def probe1 : BitVec 96 := mkToken 0 0 0 0 4 0 6
def report1 : Pkt := { ctl := 0, head := mkHead 0 0 0x31 1 0 0 0 false, data := [dataFlit [9, 1, 2, 3, 4]], inj := some 1 }

/-- The probe of slot 1 at the view: an input of node 1, whose entry holds 6. -/
def probe2 : BitVec 96 := mkToken 9 0 0 1 250 0 6
def probeFlit : Flit := { token := probe2, ctl := mkCtl 0 false 2 8 (unitSrc 0 1) }
def probed : State :=
  let s := arriving probe2 250 250
  s.setTu 0 { s.tu 0 with parts := [(45, [probeFlit])] }

/-- A buffer that waits for tag 9, a credit of it outstanding, behind one of another tag. -/
def buffer (tag : Word) : Probe := { tag := tag, key := 45, credit := true }

theorem met_DebugProbes :
    (QueueExists lastPart ∧ (arriving probe1 4 4).queueHead 0 lastPart = some (flit probe1) ∧ (arriving probe1 4 4).clusterRuns 0 = true ∧ tokClass probe1 = 6 ∧
      (arriving probe1 4 4).col.armed = false ∧ tokenSyndrome probe1 = 0) ∧
    (hdOp report1.head = 0x31 ∧ headSyndrome report1.head = 0 ∧ (flitWords report1.data 5).getD 0 0 = 9) ∧ (∀ b ∈ report1.data, dataSyndrome b = 0) ∧
    ({ live with probes := [buffer 8, buffer 9] }.probes = [buffer 8] ++ buffer 9 :: [] ∧ (buffer 9).tag = 9 ∧ ∀ y ∈ [buffer 8], y.tag ≠ 9) := by
  refine ⟨⟨lastPart_exists, ?_⟩, ?_, fun b h => by rw [List.mem_singleton.mp h]; decide +kernel, ?_⟩ <;> decide +kernel

theorem met_DebugProbes_report :
    (probed.queueHead 0 lastPart = some probeFlit ∧ WellAddressed probed 0 probeFlit) ∧ (probed.flight 0).state ≠ .idle ∧ tokSlot probe2 < probed.frameSize 0 ∧ (probed.tu 0).mapBad (tokSlot probe2) = false ∧
      tagDistance (tokTag probe2).toNat (probed.tu 0).view < (probed.tu 0).tether ∧ probed.slotOwner 0 (tokSlot probe2) = some (1, 1) ∧
      let taken := (probed.popQueue 0 lastPart).probeBack (64 * 0 + 45)
      ∃ u, taken.readEntry 0 (taken.entryIx 0 0 250 1) = (some (6, true, false), u) :=
  ⟨⟨by decide +kernel, wellAddressed_of (by decide +kernel)⟩, by decide +kernel, by decide +kernel, by decide +kernel, by decide +kernel, by decide +kernel, _,
    pair_of (by decide +kernel)⟩

/-! ### The network -/

/-- A token flit on its way with a route and an urgency. -/
def travels (route urgency : Nat) : NFlit :=
  { bits := mkCtl (BitVec.ofNat 42 route) false 2 urgency { device := 0, engine := 5, node := 7, seq := 3 } ++ token 5 0 0 4 0 0, tag := 3, inj := 1 }

/-- Flits at port input p of router k, channel 2. -/
def standing (k p : Nat) (l : List NFlit) : State := { live with noc := { Noc.reset with bufs := [(bufKey k p 2 false, l)] } }

theorem atInput_of {s : State} {k p v : Nat} {u : Bool} {x : NFlit} {l : List NFlit} (h : k < 46 ∧ (1 ≤ p ∧ p ≤ 5) ∧ v < 4 ∧
    tget [] s.noc.bufs (bufKey k p v u) = x :: l ∧ x.tag = 3 ∧ paritySyndrome x.ctl = 0 ∧ x.spoiled = false ∧ s.aon = [] ∧ s.col.armed = false ∧
    tget 0 s.noc.follow (bufKey k p v u) = 0) : AtInput s k p v u x l := by
  obtain ⟨a, b, c, d, e, f, g, i, j, m⟩ := h
  exact { router := a, port := b, channel := c, buffer := d, whole := e, parity := f, sound := g, store := i, quiet := j, fresh := m }

theorem unrivalled_of {s : State} {k code n p v : Nat} {u : Bool} (h : (inputsOf k).all (fun i => match s.bid k i.1 i.2.1 i.2.2 with
    | none => true
    | some b => b.code != code || decide (b.urgency < n ∨ b.urgency = n ∧ s.turnsTo k code (inTurn p v u) ≤ s.turnsTo k code (inTurn i.1 i.2.1 i.2.2))) = true) :
    Unrivalled s k code n p v u := by
  intro i hi b hb hc
  have := List.all_eq_true.mp h i hi
  rw [hb] at this
  simpa [hc] using this

/-- Two heads of one urgency at ports 4 and 5 of router 0, for the same output, whose turn is at port 4. -/
def tied : State :=
  { live with noc := { Noc.reset with bufs := [(bufKey 0 4 2 false, [travels 2 8]), (bufKey 0 5 2 false, [travels 2 8])] } }

/-- From router 0 to router 1, alone and against a head of the same urgency, out of router 9 into its cluster, a hop that router 0 lacks, a
head at the highest urgency, a credit, and a queue that a writer of three flits fills up to its limit of 14. -/
theorem met_RouterHops :
    (let s := standing 0 4 [travels 2 8]; let x := travels 2 8; let out := outKey 0 4 2 2 false
     AtInput s 0 4 2 false x [] ∧ s.badPort 0 (hopOf x) (ctlGen x.ctl) = false ∧ (neighbour 0 (hopOf x)).isSome = true ∧ tget 0 s.noc.linkUsed out < 8 ∧
       tget 0 s.noc.holder (linkChannel out) = 0 ∧ Unrivalled s 0 (hopOf x) (ctlUrgency x.ctl).toNat 4 2 false) ∧
    (AtInput tied 0 4 2 false (travels 2 8) [] ∧ Unrivalled tied 0 (hopOf (travels 2 8)) 8 4 2 false) ∧
    (let s := standing 9 1 [travels 0 8]; let x := travels 0 8; let out := outKey 9 1 2 0 false
     AtInput s 9 1 2 false x [] ∧ s.badPort 9 (hopOf x) (ctlGen x.ctl) = false ∧ hopOf x = 0 ∧ tget 0 s.noc.holder (linkChannel out) = 0 ∧
       Unrivalled s 9 0 (ctlUrgency x.ctl).toNat 1 2 false) ∧
    (let s := standing 1 4 [travels 1 8]; let x := travels 1 8; AtInput s 1 4 2 false x [] ∧ s.badPort 1 (hopOf x) (ctlGen x.ctl) = true) ∧
    (let s := standing 45 5 [travels 0 15]; tget [] s.noc.bufs (bufKey 45 5 2 false) = [travels 0 15] ∧ (travels 0 15).isHead = true) ∧
    { Noc.reset with back := [.link 7] }.back[0]? = some (.link 7) ∧
    (let full := (CrossQ.reset.writeAll (List.replicate 13 (travels 0 8))).1
     full.occupancy ≤ 14 ∧ (full.writeAll [travels 0 8, travels 0 9, travels 0 10]).2 = [travels 0 9, travels 0 10]) := by
  refine ⟨?_, ⟨atInput_of ?_, unrivalled_of ?_⟩, ?_, ⟨atInput_of ?_, ?_⟩, ?_, ?_, ?_⟩
  · refine ⟨atInput_of ?_, ?_, ?_, ?_, ?_, unrivalled_of ?_⟩ <;> decide +kernel
  all_goals first
    | decide +kernel
    | (refine ⟨atInput_of ?_, ?_, ?_, ?_, unrivalled_of ?_⟩ <;> decide +kernel)

/-- Packet p on channel vc at the interface of cluster 0. -/
def ejected (p : Pkt) (vc : BitVec 2) : State := (flying Core.reset TokenUnit.reset []).setCluster 0 { Cluster.reset with niIn := [(p, vc)] }

/-- A packet from router 1. -/
def packet (ctl head : BitVec 96) : Pkt := { ctl := ctl, head := head, data := [], inj := some 1 }

/-- A control field of engine 5. -/
def from5 (vc : Nat) : BitVec 96 := mkCtl 0 false vc 8 { device := 0, engine := 5, node := 7, seq := 3 }

/-- Bad parity on channels 1 and 3, a token, a request of the own and of another flight, a response. -/
theorem met_InterfaceArrivals :
    (∀ vc : BitVec 2, vc = 1 ∨ vc = 3 → let s := ejected (packet (from5 2 ^^^ 1) 0) vc
      (s.cluster 0).niIn = [(packet (from5 2 ^^^ 1) 0, vc)] ∧ s.col.armed = false ∧ paritySyndrome (from5 2 ^^^ 1) ≠ 0) ∧
    (let s := ejected (packet (from5 2) (token 5 0 0 4 0 0)) 2
     paritySyndrome (from5 2) = 0 ∧ s.passesInward 0 = true ∧ (s.domain 0).imageLost = false) ∧
    (∀ f ∈ [0, 31], let h := mkHead 0 0 1 1 0 0 f true; let s := ejected (packet (from5 0) h) 0
      paritySyndrome (from5 0) = 0 ∧ headSyndrome h = 0 ∧ hdNamed h = true ∧ hdFlight h = f ∧ s.flightOf 0 = some 0 ∧ s.passesInward 0 = true) ∧
    (let s := ejected (packet (from5 1) (mkHead 0 0 0x21 1 0 0 0 false)) 1
     paritySyndrome (from5 1) = 0 ∧ s.passesInward 0 = true ∧ ctlUnit (from5 1) = false) := by
  refine ⟨fun vc h => ?_, by decide +kernel, by decide +kernel, by decide +kernel⟩
  rcases h with rfl | rfl <;> decide +kernel

/-- The network with a drain status, a flip wanted, and domains 0 to 3 in four states. -/
def draining (d : Nat) (flip : Bool) : State :=
  { live with
    noc := { Noc.reset with drain := d, flipWanted := flip }
    domains := [(0, { Domain.reset with state := .quiesce }), (1, { Domain.reset with state := .drain, cancelled := true }),
      (2, { Domain.reset with state := .join }), (3, { Domain.reset with state := .quiesce, cancelled := true })] }

theorem met_GenerationFlips :
    ((draining 0 true).noc.flipWanted = true ∧ (draining 0 true).noc.drain = 0 ∧ ((draining 0 true).domain 0).state = .quiesce ∧
      ((draining 0 true).domain 1).cancelled = true ∧ ((draining 0 true).domain 2).state = .join ∧ ((draining 0 true).domain 2).queued ≠ 1 ∧
      ((draining 0 true).domain 39).state = .live ∧ ∀ j < 32, (live.domain j).state ≠ .join) ∧
    ((draining 0 false).noc.flipWanted = false ∧ (draining 2 true).noc.drain ≠ 0) ∧
    (let s := { standing 0 4 [{ travels 2 8 with bits := (mkCtl 2 true 2 8 { device := 0, engine := 5, node := 7, seq := 3 }) ++ token 5 0 0 4 0 0 }] with
       noc := { (standing 0 4 [{ travels 2 8 with bits := (mkCtl 2 true 2 8 { device := 0, engine := 5, node := 7, seq := 3 }) ++ token 5 0 0 4 0 0 }]).noc with drain := 2 } }
     s.noc.drain ≠ 0 ∧ s.oldPackets ≠ 0) ∧
    ((draining 2 false).oldPackets = 0 ∧ (draining 2 false).noc.syncs = [] ∧ (draining 1 false).noc.drain = 1) := by decide +kernel

/-! ### Far transactions and the bog -/

theorem atTarget_of {s : State} {t : Target} {p : Pkt} {l : List Pkt} (h : s.nextRequest t (requestOp p.head) = some (p, l) ∧ s.targetRuns t = true ∧ s.col.armed = false ∧
    headSyndrome p.head = 0) (d : ∀ f ∈ p.data, dataSyndrome f = 0) : AtTarget s t p l := ⟨h.1, h.2.1, h.2.2.1, h.2.2.2, d⟩

/-- A request of engine 0 through the crossbar: space, opcode, length, offset, flight named, data. -/
def asks (space op len offset : Nat) (named : Bool) (l : List Word) : Pkt :=
  { ctl := mkCtl 0 false 0 8 { device := 0, engine := 0, node := 7, seq := 3 }, head := mkHead offset space op len 5 0 0 named, data := dataFlits 13 l, inj := none }

/-- That request at the store of cluster 0, whose last word is 9; at HBM stack 0, of which words 0 to 6143 are design memory of flight 0. -/
def atStore (p : Pkt) : State :=
  (flying Core.reset TokenUnit.reset []).setCluster 0 { Cluster.reset with reqQ := [p], store := [(2 ^ 19 - 1, encodeWord (2 ^ 19 - 1) 9)] }
def atHbm (p : Pkt) : State :=
  { (((flying Core.reset TokenUnit.reset []).setObj 0x3440 1 1).setObj 0x3440 3 6144).setObj 0x3440 4 0 with hbmQ := [(0, [p])] }
def atService (p : Pkt) : State := { flying Core.reset TokenUnit.reset [] with svcReq := [p] }

abbrev store0 : Target := .cluster 0
abbrev stack0 : Target := .hbm 0

theorem no_data {p : Pkt} (h : p.data = []) : ∀ f ∈ p.data, dataSyndrome f = 0 := fun f m => by rw [h] at m; cases m

theorem one_flit {p : Pkt} {ws : List Word} (h : p.data = [dataFlit ws]) (k : dataSyndrome (dataFlit ws) = 0) : ∀ f ∈ p.data, dataSyndrome f = 0 :=
  fun f m => by rw [h] at m; rw [List.mem_singleton.mp m]; exact k

/-- The states that a store, a stack or the service router leaves its request to. -/
abbrev fromStore (p : Pkt) : State := (atStore p).takeRequest store0 p []
abbrev fromHbm (p : Pkt) : State := (atHbm p).takeRequest stack0 p []

theorem met_RequestsServed_cluster :
    (let p := asks 0 1 1 (2 ^ 19 - 1) true []; let q := fromStore p
     AtTarget (atStore p) store0 p [] ∧ hdOp p.head = 1 ∧ q.place store0 p 1 false = .store 0 (2 ^ 19 - 1) ∧ q.readStore 0 (2 ^ 19 - 1) = (.ok 9, q) ∧
       q.physical (srcOf p.ctl).engine = some 0) ∧
    (let p := asks 0 1 2 (2 ^ 19 - 1) true []; let q := fromStore p
     AtTarget (atStore p) store0 p [] ∧ hdLen p.head = 2 ∧ q.place store0 p 2 false = .status 6) ∧
    (let p := asks 0 2 1 0 true [7]; let q := fromStore p
     AtTarget (atStore p) store0 p [] ∧ hdOp p.head = 2 ∧ q.place store0 p 1 true = .store 0 0 ∧ q.retiredBank 0 0 = false) ∧
    (∀ op ∈ [3, 4], let p := asks 0 op 1 0 true [7]; let q := fromStore p
      AtTarget (atStore p) store0 p [] ∧ hdOp p.head = op ∧ q.place store0 p 1 true = .store 0 0 ∧ ∃ u, q.readStore 0 0 = (.ok 0, u)) := by
  refine ⟨⟨atTarget_of ?_ (no_data ?_), ?_⟩, ⟨atTarget_of ?_ (no_data ?_), ?_⟩,
    ⟨atTarget_of ?_ (one_flit (ws := [7]) rfl ?_), ?_⟩, ?_⟩
  case refine_10 =>
    simp only [List.forall_mem_cons]
    refine ⟨?_, ?_, fun _ h => absurd h (by simp)⟩ <;>
      exact ⟨atTarget_of (by decide +kernel) (one_flit (ws := [7]) rfl (by decide +kernel)), by decide +kernel, by decide +kernel, _, pair_of (by decide +kernel)⟩
  all_goals decide +kernel

/-- Bank 0 of cluster 0 is retired: a write of two words from word 15 on meets it with its second. -/
theorem met_RequestsServed_retired : let p := asks 0 2 2 15 true [7, 8]
    let s := atStore p
    let t := { s with retired := [2] }
    AtTarget t store0 p [] ∧ (t.takeRequest store0 p []).place store0 p 2 true = .store 0 15 ∧ (wordsOf p).length = 2 ∧
      (t.takeRequest store0 p []).retiredBank 0 (16 % 16) = true ∧ (t.takeRequest store0 p []).retiredBank 0 15 = false := by
  refine ⟨atTarget_of ?_ (one_flit (ws := [7, 8]) rfl ?_), ?_⟩ <;> decide +kernel

/-- Three requests at a stack: one for line 0 at urgency 8, a later one for the same line at 15, and one for another line at 9. -/
def urgent (u offset : Nat) : Pkt := { asks 2 1 1 offset true [] with ctl := mkCtl 0 false 0 u { device := 0, engine := 0, node := 7, seq := 3 } }
def three : List Pkt := [urgent 8 0, urgent 15 1, urgent 9 6]

theorem met_RequestsServed_hbm :
    (let p := asks 2 1 1 6143 true []; let q := fromHbm p
     AtTarget (atHbm p) stack0 p [] ∧ q.place stack0 p 1 false = .hbm 6143 ∧ q.regionAt 6143 = some 0 ∧ hdNamed p.head = true ∧
       q.readHbm 6143 (q.requesterSrc p (srcId 20 (stackOf (6143 / 6)))).1 = (.ok 0, q)) ∧
    (let p := asks 2 2 1 6144 true [7]; let q := fromHbm p; AtTarget (atHbm p) stack0 p [] ∧ q.place stack0 p 1 true = .status 5) ∧
    (let p := asks 2 2 1 0 true [7]; let q := fromHbm p
     AtTarget (atHbm p) stack0 p [] ∧ q.place stack0 p 1 true = .hbm 0 ∧
       (q.writeHbm 0 (wordsOf p) (q.requesterSrc p (srcId 20 0)).1 (q.requesterSrc p (srcId 20 0)).2).1 = .done) ∧
    (let p := asks 15 5 1 0 true []; AtTarget (atService p) .service p [] ∧ hdOp p.head = 5) ∧
    (let s := { atHbm (urgent 8 0) with hbmQ := [(0, three)] }; AtTarget s stack0 (urgent 9 6) [urgent 8 0, urgent 15 1]) := by
  refine ⟨⟨atTarget_of ?_ (no_data ?_), ?_⟩, ⟨atTarget_of ?_ (one_flit (ws := [7]) rfl ?_), ?_⟩,
    ⟨atTarget_of ?_ (one_flit (ws := [7]) rfl ?_), ?_⟩, ⟨atTarget_of ?_ (no_data ?_), ?_⟩, atTarget_of ?_ (no_data ?_)⟩ <;> decide +kernel

/-- A response for segment 3 of engine 0, its tag 7, which expects one word. -/
def answers (rop status : Nat) (l : List Word) : Pkt := { ctl := from5 1, head := mkHead 0 0 rop 1 7 status 0 false, data := dataFlits 13 l, inj := some 1 }
def expects (out : Bool) (p : Pkt) : State :=
  let c := segs fun i => if i = 3 then { waiting with outstanding := out, tag := 7, len := 1, dest := 45 } else Segment.reset
  live.setEngine 0 { Engine.reset with core := c, rspIn := [p] }

theorem atEngine_of {s : State} {p : Pkt} {l : List Pkt} {k : Nat} (h : (s.engine 0).rspIn = p :: l ∧ s.col.armed = false ∧ headSyndrome p.head = 0 ∧
    k = (hdTag p.head).toNat % 4 ∧ hdTag p.head ≠ traceTag ∧ ((s.core 0).segment k).outstanding = true ∧ ((s.core 0).segment k).tag = hdTag p.head)
    (d : ∀ f ∈ p.data, dataSyndrome f = 0) : AtEngine s 0 p l k :=
  ⟨h.1, h.2.1, h.2.2.1, d, h.2.2.2.1, h.2.2.2.2.1, h.2.2.2.2.2.1, h.2.2.2.2.2.2⟩

/-- Success with a word, success in part, and the highest status; no segment that waits; a bad head; a timeout while a drain lasts; SYNC_RSP. -/
theorem met_ResponsesTaken :
    (∀ op ∈ [0x21, 0x23, 0x24], let p := answers op 0 [9]; AtEngine (expects true p) 0 p [] 3 ∧ ((expects true p).core 0 |>.segment 3).len ≤ 16 ∧ hdOp p.head = op) ∧
    (∀ st ∈ [0, 1, 15], let p := answers 0x22 st []; AtEngine (expects true p) 0 p [] 3 ∧ hdOp p.head = 0x22 ∧ hdStatus p.head = st) ∧
    (let p := answers 0x21 4 []; ((expects false p).engine 0).rspIn = [p] ∧ ((expects false p).core 0 |>.segment ((hdTag p.head).toNat % 4)).outstanding = false) ∧
    (let p := { answers 0x21 0 [] with head := (answers 0x21 0 []).head ^^^ 1 }
     ((expects true p).engine 0).rspIn = [p] ∧ p.inj ≠ none ∧ headSyndrome p.head ≠ 0 ∧ hdOp p.head = 0x21) ∧
    (let s := { expects true (answers 0x21 0 []) with noc := { Noc.reset with drain := 1 } }
     ((s.core 0).segment 3).outstanding = true ∧ ((s.core 0).segment 3).tag = 7 ∧ (7#12).toNat % 4 = 3 ∧ (7 : BitVec 12) ≠ traceTag ∧ s.noc.drain ≠ 0 ∧
       ((s.core 0).segment 3).dest < 46 ∧ ((expects false (answers 0x21 0 [])).core 0 |>.segment 3).outstanding = false) ∧
    (let p := { answers 0x25 0 [] with head := mkHead 29 0 0x25 1 180 0 0 false }
     ((expects true p).engine 0).rspIn = [p] ∧ hdOp p.head = 0x25 ∧ headSyndrome p.head = 0) := by
  refine ⟨?_, ?_, by decide +kernel, by decide +kernel, by decide +kernel, by decide +kernel⟩ <;> simp only [List.forall_mem_cons]
  · refine ⟨?_, ?_, ?_, fun _ h => absurd h (by simp)⟩ <;> exact ⟨atEngine_of (by decide +kernel) (one_flit (ws := [9]) rfl (by decide +kernel)), by decide +kernel⟩
  · refine ⟨?_, ?_, ?_, fun _ h => absurd h (by simp)⟩ <;> exact ⟨atEngine_of (by decide +kernel) (no_data (by decide +kernel)), by decide +kernel⟩

/-- A timeout of a SYNC that was issued during a drain, and one of a tag that nothing awaits. -/
theorem met_ResponsesTaken_sync :
    (let s := { live with noc := { Noc.reset with drain := 1, syncUsed := [(64 * 45, 1)] } }
     (180#12).toNat % 4 = 0 ∧ (180 : BitVec 12) ≠ traceTag ∧ ((s.core 0).segment 0).outstanding = false ∧ tget 0 s.noc.syncUsed (64 * ((180#12).toNat / 4)) ≠ 0 ∧
       (180#12).toNat / 4 < 46) ∧
    ((live.core 0).segment 0).outstanding = false ∧ tget 0 live.noc.syncUsed (64 * ((180#12).toNat / 4)) = 0 := by decide +kernel

/-- A region of the bog of 2,048 slots, flight 0 with a quota, the write buffer, slots and words given. -/
def bogged (quota : Nat) (l : List Flit) (b : List BogSlot) (hbm : Tab Line) : State :=
  { ((((flying Core.reset TokenUnit.reset []).setObj 0x3440 1 4).setObj 0x3440 3 6144).setObj 0x3440 4 0xFF).setObj 0x3410 1 quota with bogIn := l, bog := b, hbm := hbm }

/-- Slot 0 with a token of epoch 63; drawn under number 5; written after a closed window. -/
def slot0 : BogSlot := { idx := 0, flight := 0, engine := 0, tag := 63, lap := 63, draw := none, copies := 0, queued := true, back := false, held := false }
def drawn5 : BogSlot := { slot0 with draw := some 5, copies := 1, queued := false }
def closed0 : BogSlot := { slot0 with queued := false, back := true }

/-- The token of slot 0, and its line. -/
def kept : BitVec 96 := token 5 0 0 63 0 0
def line0 : Tab Line :=
  [(0, encodeLine 0 ((0 : BitVec 108) ++ (slotWords kept true false 63).getD 2 0 ++ (slotWords kept true false 63).getD 1 0 ++ (slotWords kept true false 63).getD 0 0) 0)]

/-- A slot for the token with the quota just reached, one short, an idle flight, a bad CRC-8 from a unit; a draw, its timeout, its ACCEPT, one that
names no draw; a recompute request that names none; a slot that goes back into the queue. -/
theorem met_BogTokens :
    (let x := flit kept
     (AtBog (bogged 2 [x] [slot0] []) x [] ∧ ((bogged 2 [x] [slot0] []).flight 0).state ≠ .idle ∧ tokDevice kept = (bogged 2 [x] [slot0] []).devId ∧
       (bogged 2 [x] [slot0] []).bogBase = some 0 ∧ (bogged 2 [x] [slot0] []).freeSlot 0 (bogged 2 [x] [slot0] []).bogRegionSlots 63 = some (64, { chunks := [1], next := 1 }) ∧
       (bogged 2 [x] [slot0] []).bogFill 0 + 1 ≤ (bogged 2 [x] [slot0] []).obj 0x3410 1) ∧
     (AtBog (bogged 1 [x] [slot0] []) x [] ∧ (bogged 1 [x] [slot0] []).obj 0x3410 1 < (bogged 1 [x] [slot0] []).bogFill 0 + 1) ∧
     bogEpoch 63 ((bogged 2 [x] [slot0] []).flight 0).view = some 63 ∧ bogEpoch 192 0 = none ∧ (live.flight 0).state = .idle) ∧
    (let t := kept ^^^ 1; tokenSyndrome t ≠ 0 ∧ ctlUnit (mkCtl 0 false 3 8 (unitSrc 0 0)) = true) ∧
    (let s := bogged 2 [] [slot0] line0
     s.nextDraw = some slot0 ∧ s.bogBase = some 0 ∧ tokenSyndrome kept = 0 ∧ slot0.epochAt (s.flight 0).view % 2 ^ 14 = slot0.lap ∧
       (bogged 2 [] [drawn5] line0).nextDraw = none ∧ (bogged 2 [] [drawn5] line0).drawOf 63 5 = some drawn5 ∧
       (bogged 2 [] [drawn5] line0).drawOf 63 6 = none ∧ (bogged 2 [] [drawn5] line0).drawOf 63 63 = none) ∧
    (∀ b ∈ [slot0, drawn5], ∃ a b' c u, (bogged 2 [] [b] line0).readHbms (bogBack 0) 0 3 = (.inr [a, b', c], u) ∧ slotToken a b' c = kept) ∧
    (let p := { accept1 with head := mkHead (2 ^ 14 * 5 + 2 ^ 20 * 63) 0 0x30 1 0 0 0 false }
     hdOp p.head = 0x30 ∧ headSyndrome p.head = 0 ∧ hdOffset p.head / 2 ^ 20 % 256 = 63 ∧ hdOffset p.head / 2 ^ 14 % 64 = 5) ∧
    (closed0 ∈ (bogged 2 [] [closed0] []).bog ∧ closed0.back = true ∧ (bogged 2 [] [closed0] []).draws 0 = true) := by
  refine ⟨⟨⟨⟨?_, ?_, ?_⟩, ?_⟩, ⟨⟨?_, ?_, ?_⟩, ?_⟩, ?_⟩, ?_, ?_, ?words, ?_, ?_⟩
  case words =>
    simp only [List.forall_mem_cons]
    refine ⟨?_, ?_, fun _ h => absurd h (by simp)⟩ <;>
      exact ⟨kept.extractLsb' 0 36, kept.extractLsb' 36 36, (slotWords kept true false 63).getD 2 0, _, pair_of (by decide +kernel), by decide +kernel⟩
  all_goals decide +kernel

/-! ### Flights -/

/-- Flight 0 as given, its root, parent port and child ports; its snapshot region, its quota. -/
def aloft (x : Flight) (root parent children : Nat) : State :=
  let s := ((flying Core.reset TokenUnit.reset []).setFlight 0 x).setObj 0x2800 0xC root
  let s := ((s.setObj 0x2800 0xD parent).setObj 0x2800 0xE children).setObj 0x3440 1 4
  let s := ((s.setObj 0x3440 3 6144).setObj 0x3441 1 5).setObj 0x3441 4 0
  ((s.setObj 0x3410 1 2000).setObj 0x3410 3 1000).setObj 0x3410 6 1000

/-- Flight 0 in a state. -/
def inState (st : FState) : Flight := { Flight.reset with state := st, tether := 4, frames := 4, view := 250 }

/-- A command of flight 0 in progress whose last completion comes through a port. -/
def awaits (cmd port : Nat) : PendingCmd := { cmd := cmd, arg := 0, wait := 1#8 <<< port, scans := [], failed := false }

/-- Commands 1 to 6 on the edge, at the root's own port or elsewhere; off the edge; numbers that name no command; completions and timeouts. -/
theorem met_FlightCommands :
    (let s := aloft (inState .idle) 0 255 0x80
     OnEdge s 255 0 0 ∧ (s.flight 0).state = .idle ∧ s.imageLost 0 = false ∧ s.hbmContained = false ∧ s.quotaOk 0 = true ∧
       s.regionOf (fun r => decide (r.kind = 5) && decide (r.flight = 0)) = some 1 ∧ 0 ∈ s.enginesOf 0 ∧ s.mayRun = true) ∧
    (∀ st ∈ [FState.loaded, .halted, .mired], let s := aloft (inState st) 9 7 0x81
      OnEdge s 7 0 9 ∧ (s.flight 0).state = st ∧ s.imageLost 0 = false ∧ s.mayRun = true ∧ (s.flight 0).lost = false ∧ (s.flight 0).absence = false ∧
        s.bog = [] ∧ (s.core 0).act = none) ∧
    (let s := aloft (inState .running) 9 7 0x81; OnEdge s 7 0 9 ∧ (s.flight 0).state = .running ∧ s.isRoot 0 = false) ∧
    (let s := aloft (inState .running) 9 7 0x81; ¬ OnEdge s 6 0 9 ∧ ¬ OnEdge s 7 0 8 ∧ (7#8).toNat = 7) ∧
    (∀ cmd ∈ [1, 4], let s := aloft { inState .idle with cmd := some (awaits cmd 7) } 0 255 0x80
      (s.flight 0).cmd = some (awaits cmd 7) ∧ (awaits cmd 7).wait.getLsbD 7 = true ∧ (awaits cmd 7).wait = 1#8 <<< 7 ∧ (awaits cmd 7).scans = [] ∧ s.isRoot 0 = true) ∧
    (let s := aloft { inState .halted with cmd := some (awaits 4 0) } 9 7 1; s.isRoot 0 = false ∧ s.parentPort 0 < 8) := by
  unfold OnEdge; decide +kernel

/-- A descriptor: slots, state source, fan-out list, state area. -/
def desc (base arity fanlist stateBase stateLen : Nat) : Desc :=
  { entry := 0x40, base := base, arity := arity, valid := true, moored := 0, stateSrc := false, fanout := 2, fanlist := fanlist, stateLen := stateLen,
    stateBase := stateBase, reserved := false }

/-- The words of such a descriptor at n of the table at 0x18000. -/
def descWords (n base arity fanlist stateBase stateLen : Nat) : List (Nat × Word) :=
  [(0x18000 + 4 * n, BitVec.ofNat 36 (0x40 + 2 ^ 15 * base + 2 ^ 29 * (arity - 1) + 2 ^ 33)), (0x18001 + 4 * n, BitVec.ofNat 36 (2 ^ 17 * 2)),
    (0x18002 + 4 * n, BitVec.ofNat 36 (fanlist + 2 ^ 17 * stateLen)), (0x18003 + 4 * n, BitVec.ofNat 36 stateBase)]

/-- Engine 0 with two descriptors, the second from slot b, its list and its state area as given, to be scanned for a load. -/
def scanned (b list area : Nat) (journal : Nat) : State :=
  let s := aloft { inState .idle with cmd := some { awaits 1 0 with wait := 0, scans := [0] } } 0 255 0
  let s := s.setEngine 0 { Engine.reset with mem := cells (descWords 0 0 16 0x8000 0x1FFFE 2 ++ descWords 1 b 2 list area 2) }
  ((s.setObj 0x2400 3 0x18100).setObj 0x2400 4 journal).setObj 0x2400 5 4 |>.setObj 0x2800 4 18

/-- Its table. -/
def pairOfDescs (b list area : Nat) : List Desc := [desc 0 16 0x8000 0x1FFFE 2, desc b 2 list area 2]

theorem described_of {s : State} {table : List Desc} (h : s.nodeCount 0 = table.length ∧ ∀ n < table.length, s.readDesc 0 n = (table[n]?, s)) :
    Described s 0 table :=
  ⟨h.1, fun n d hd => by
    have hn : n < table.length := by
      rcases Nat.lt_or_ge n table.length with hlt | hge
      · exact hlt
      · rw [List.getElem?_eq_none hge] at hd; cases hd
    rw [h.2 n hn, hd]⟩

theorem good_of {s : State} {size : Nat} {d : Desc} (none : s.outOfService = []) (h : d.reserved = false ∧ 0x40 ≤ d.entry.toNat ∧ d.base + d.arity ≤ size ∧
    (d.fanout ≠ 0 → d.fanlist % 2 = 0 ∧ 0x8000 ≤ d.fanlist ∧ d.fanlist + 2 * d.fanout ≤ 0x18000) ∧
    (d.stateLen ≠ 0 → d.stateBase + d.stateLen ≤ 0x20000 ∧ bankOf d.stateBase = bankOf (d.stateBase + d.stateLen - 1))) : DescriptorGood s 0 size d :=
  ⟨h.1, h.2.1, h.2.2.1, h.2.2.2.1, h.2.2.2.2, fun a _ => by simp [State.retiredPage, none]⟩

theorem tableGood_of {s : State} {size n : Nat} {t : List Desc} (a : ∀ k < n, ∀ d ∈ t[k]?, d.valid = true → DescriptorGood s 0 size d)
    (b : ∀ k < n, ∀ j < k, ∀ d ∈ t[j]?, ∀ e ∈ t[k]?, d.valid = true → e.valid = true → d.base + d.arity ≤ e.base ∨ e.base + e.arity ≤ d.base) :
    TableGood s 0 size t n := ⟨fun k d hk hd => a k hk d hd, fun j k d e hj hk hd he => b k hk j hj d hd e he⟩

/-- The premises that the clauses share. -/
abbrev ScanOf (s : State) (table : List Desc) : Prop :=
  s.flightOf 0 = some 0 ∧ (∃ c, (s.flight 0).cmd = some c ∧ c.cmd = 1 ∧ c.scans = [0] ∧ c.wait = 0 ∧ c.failed = false) ∧ s.isRoot 0 = true ∧
    Described s 0 table

theorem scanOf_of {b l a j : Nat} (h : let s := scanned b l a j; let table := pairOfDescs b l a
      s.flightOf 0 = some 0 ∧ (s.flight 0).cmd = some { awaits 1 0 with wait := 0, scans := [0] } ∧ s.isRoot 0 = true ∧
        s.nodeCount 0 = table.length ∧ ∀ n < table.length, s.readDesc 0 n = (table[n]?, s)) : ScanOf (scanned b l a j) (pairOfDescs b l a) :=
  ⟨h.1, ⟨_, h.2.1, rfl, rfl, rfl, rfl⟩, h.2.2.1, described_of h.2.2.2⟩

/-- The first descriptor is good in each of the states. -/
theorem first_good (b l a j : Nat) : TableGood (scanned b l a j) 0 18 (pairOfDescs b l a) 1 := by
  refine tableGood_of (fun k hk d hd _ => ?_) (fun k hk j hj => absurd hj (by omega))
  obtain rfl : k = 0 := by omega
  obtain rfl : desc 0 16 0x8000 0x1FFFE 2 = d := by simpa [pairOfDescs] using hd
  exact good_of rfl (by decide)

/-- Two slot groups that fill a frame of 18, and a journal that meets the standing values. -/
theorem met_DescriptorScans :
    (∀ j ∈ [0x19000, 0x18100], let s := scanned 16 0x17FFC 0xFFFE j; let t := pairOfDescs 16 0x17FFC 0xFFFE
      ScanOf s t ∧ TableGood s 0 18 t t.length ∧ s.layoutOk 0 0 38 = decide (j = 0x19000)) ∧ live.flightOf 0 = none := by
  have good : ∀ j, TableGood (scanned 16 0x17FFC 0xFFFE j) 0 18 (pairOfDescs 16 0x17FFC 0xFFFE) 2 := fun j => by
    refine tableGood_of (fun k hk d hd _ => ?_) (by decide)
    rcases (by omega : k = 0 ∨ k = 1) with rfl | rfl
    · obtain rfl : desc 0 16 0x8000 0x1FFFE 2 = d := by simpa [pairOfDescs] using hd
      exact good_of rfl (by decide)
    · obtain rfl : desc 16 2 0x17FFC 0xFFFE 2 = d := by simpa [pairOfDescs] using hd
      exact good_of rfl (by decide)
  simp only [List.forall_mem_cons]
  exact ⟨⟨⟨scanOf_of (by decide +kernel), good _, by decide +kernel⟩, ⟨scanOf_of (by decide +kernel), good _, by decide +kernel⟩, fun _ h => absurd h (by simp)⟩, by decide⟩

/-- A list that ends past bank 2, a state area over two banks, and a list in a retired page. -/
theorem met_DescriptorScans_bad :
    (ScanOf (scanned 16 0x17FFE 0xFFFE 0x19000) (pairOfDescs 16 0x17FFE 0xFFFE) ∧
      ¬ DescriptorGood (scanned 16 0x17FFE 0xFFFE 0x19000) 0 18 (desc 16 2 0x17FFE 0xFFFE 2)) ∧
    (ScanOf (scanned 16 0x8000 0xFFFF 0x19000) (pairOfDescs 16 0x8000 0xFFFF) ∧
      ¬ DescriptorGood (scanned 16 0x8000 0xFFFF 0x19000) 0 18 (desc 16 2 0x8000 0xFFFF 2)) ∧
    (let s := { scanned 16 0x8000 0xFFFE 0x19000 with retired := [1 + 2 ^ 13 * 8] }; ¬ DescriptorGood s 0 18 (desc 0 16 0x8000 0x1FFFE 2)) :=
  ⟨⟨scanOf_of (by decide +kernel), fun h => absurd (h.2.2.2.1 (by decide)) (by decide)⟩,
    ⟨scanOf_of (by decide +kernel), fun h => absurd (h.2.2.2.2.1 (by decide)) (by decide)⟩,
    fun h => absurd (h.2.2.2.2.2 0x8000 (.inl (by decide))) (by decide +kernel)⟩

/-- A halting flight whose last reply comes through port 0, at the root and below it; requests and reports of a child; a flight whose lull
watch acts, becalmed or not; an occupancy of its threshold. -/
theorem met_FlightHalts :
    (let s := aloft { inState .halting with haltWait := some (1#8 <<< 7, 250), hreq := some 250 } 0 255 0x80
     (s.flight 0).haltWait = some (1#8 <<< 7, 250) ∧ s.isRoot 0 = true ∧ (s.flight 0).state = .halting ∧ (s.flight 0).cmd = none ∧
       (s.obj 0x2800 0xE).testBit 7 = true) ∧
    (let s := aloft (inState .halting) 9 0 0x80
     (s.flight 0).haltWait = none ∧ s.parentPort 0 = 0 ∧ (s.flight 0).state = .halting ∧ s.isRoot 0 = false ∧ s.parentPort 0 < 8 ∧ s.parentPort 0 ≠ 7) ∧
    (let s := aloft (inState .running) 0 255 0x80; s.isRoot 0 = true ∧ (s.flight 0).state = .running ∧ (s.obj 0x2800 0xE).testBit 7 = true) ∧
    (∀ b : Bool, let s := (aloft { inState .running with becalmed := b } 9 0 0).setObj 0x2840 3 1
      (s.flight 0).state = .running ∧ s.obj 0x2840 3 = 1 ∧ (s.flight 0).becalmed = b ∧ s.parentPort 0 = 0) ∧
    (let s := (aloft (inState .running) 9 0 0).setObj 0x2820 2 0
     (s.flight 0).becalmed = false ∧ s.obj 0x2820 9 ≠ 0 ∧ (s.flight 0).tether ≤ (s.flight 0).frames ∧
       s.obj 0x2820 2 * (s.obj 0x2800 4 * (s.flight 0).tether) ≤ 100 * s.occupancy 0) ∧
    (live.flight 0).state ≠ .running := by decide +kernel

/-! ### The dictionary -/

theorem reachable_of {s : State} {path : Path} (h : s.dictOpen = true ∧ s.fw.held = false ∧ s.fw.bootMode = false ∧ (path = .can → s.can.stopped = false) ∧
    (path = .pcie → s.hostServes = true) ∧ s.aon = [] ∧ (path = .pcie → s.host.mb.busy = false ∧ s.host.mb.collect = none)) : Reachable s path :=
  ⟨⟨h.1, h.2.1, h.2.2.1, h.2.2.2.1, h.2.2.2.2.1, h.2.2.2.2.2.1⟩, h.2.2.2.2.2.2⟩

/-- The part LIVE serves both paths. -/
theorem live_reachable : Reachable live .can ∧ Reachable live .pcie := ⟨reachable_of (by decide), reachable_of (by decide)⟩

/-- The object exists and is as P says. -/
theorem info_of {ix k : Nat} {P : ObjInfo → Prop} [DecidablePred P] (h : (match objInfo ix k with | some o => decide (P o) | none => false) = true) :
    ∃ o, objInfo ix k = some o ∧ P o := by
  split at h
  · exact ⟨_, by assumption, of_decide_eq_true h⟩
  · cases h

/-- The greatest and the least delay of a port's link; objects that do not exist, read-only ones, lengths and values that do not fit. -/
theorem met_ObjectWrites :
    (∀ data ∈ [[(0x10 : BitVec 8), 0x27], [0xF0, 0xD8]], ∃ o, objInfo 0x2208 1 = some o ∧ o.cls = .lv ∧ o.domain = false ∧ data.length = o.bytes ∧
      bytesToNat data < 2 ^ o.bits ∧ o.ok (bytesToNat data) = true ∧ live.rangeOk 0x2208 1 (bytesToNat data) = true) ∧ PlainObject 0x2208 ∧ PlainObject 0x309D ∧
    (∃ o, objInfo 0x2326 1 = some o ∧ True) ∧ (∃ o, objInfo 0x2100 0xF = some o ∧ True) ∧
    (objInfo 0x2208 2).isNone = true ∧ objIndex 0x2208 = true ∧ (objInfo 0xFFFF 0).isNone = true ∧ objIndex 0xFFFF = false ∧
    (∃ o, objInfo 0x1000 0 = some o ∧ (o.cls = .ro ∨ o.cls = .const)) ∧
    (∃ o, objInfo 0x2208 1 = some o ∧ o.cls = .lv ∧ [(0 : BitVec 8)].length ≠ o.bytes ∧ o.ok 10001 = false) ∧
    (∃ o, objInfo 0x2400 1 = some o ∧ o.cls = .tx ∧ live.txn.status ≠ 1) ∧
    ({ live with can := { Can.reset with stopped := true } }.can.stopped = true ∧ State.reset.dictOpen = false ∧ State.reset.hostServes = false) := by
  refine ⟨?two, ?_, ?_, info_of ?_, info_of ?_, ?_, ?_, ?_, ?_, info_of ?_, info_of ?_, info_of ?_, ?_⟩
  case two =>
    simp only [List.forall_mem_cons]
    exact ⟨info_of (by decide +kernel), info_of (by decide +kernel), fun _ h => absurd h (by simp)⟩
  all_goals first | decide +kernel | (unfold PlainObject; decide)

/-- The part LIVE with a mailbox as given, in boot mode, during a switch. -/
def boxing (mb : Mailbox) (boot held : Bool) : State :=
  { live with host := { HostIf.reset with mb := mb }, fw := { live.fw with bootMode := boot, held := held } }

/-- A busy mailbox, boot mode, a write between its chunks, a switch, each on a path that serves. -/
theorem met_ObjectWrites_mailbox :
    (let s := boxing { Mailbox.reset with busy := true } false false; s.hostServes = true ∧ s.host.mb.busy = true) ∧
    (let s := boxing Mailbox.reset true false; s.hostServes = true ∧ s.host.mb.busy = false ∧ s.fw.bootMode = true) ∧
    (let s := boxing { Mailbox.reset with collect := some (5, []) } false false; s.host.mb.busy = false ∧ s.host.mb.collect.isSome = true) ∧
    (let s := boxing Mailbox.reset false true; s.dictOpen = true ∧ s.fw.held = true ∧ s.can.stopped = false ∧ s.hostServes = true ∧ s.fw.bootMode = false ∧
      s.host.mb.busy = false) := by decide

theorem met_ObjectWrites_chunks : Served (boxing { Mailbox.reset with collect := some (5, []) } false false) .pcie :=
  { opened := by decide, free := by decide, booted := by decide, can := by decide, pcie := by decide, sound := by decide }

/-- A transaction of CAN in a status, at a commit point, with the values staged. -/
def within (status : Nat) (point : Nat) (l : List Stage) : State :=
  { (flying Core.reset { TokenUnit.reset with view := 250 } []).setFlight 0 (inState .running) with
    txn := { Txn.reset with status := status, owner := some .can, seq := 7, point := point, staged := l } }

/-- Node count and descriptor base of engine 511. -/
def two : List Stage := [{ index := 0x25FF, sub := 1, route := none, value := 3 }, { index := 0x25FF, sub := 2, route := none, value := 0x18010 }]

/-- No transaction, an open one with room for the last staged value, a preparation at once and for a waterline, the commit point reached and not
reached, a validation that fails. -/
theorem met_Transactions :
    Reachable (within 0 0 []) .can ∧ (within 7 0 []).txn.status = 7 ∧
    (∃ o, objInfo 0x25FF 1 = some o ∧ o.cls = .tx ∧ o.domain = false ∧ [(3 : BitVec 8), 0].length = o.bytes ∧ bytesToNat [(3 : BitVec 8), 0] < 2 ^ o.bits ∧
      o.ok (bytesToNat [(3 : BitVec 8), 0]) = true ∧ (within 1 0 []).rangeOk 0x25FF 1 (bytesToNat [(3 : BitVec 8), 0]) = true) ∧
    (within 1 0 two).validate.1 = 0 ∧ (7 : BitVec 16) = (within 1 0 two).txn.seq ∧ (8 : BitVec 16) ≠ (within 1 0 two).txn.seq ∧
    (within 2 (2 ^ 63 + 250) two).txn.atWaterline = true ∧ (∀ y ∈ two, PlainStage y) ∧ (two.map (fun y => (y.index, y.sub))).Nodup ∧
    ((within 2 0 two).txn.atWaterline = false ∧ (within 3 0 two).validate.1 = 0) ∧
    ((within 3 (2 ^ 63 + 250) two).pointHolds = true ∧ (within 3 (2 ^ 63 + 250) two).validate.1 = 0) ∧
    ((within 3 0 [{ index := 0x2801, sub := 2, route := none, value := 1 }]).pointHolds = true ∧
      (within 3 0 [{ index := 0x2801, sub := 2, route := none, value := 1 }]).validate.1 ≠ 0) ∧
    (within 3 (2 ^ 63 + 251) two).pointHolds = false :=
  by
    refine ⟨reachable_of ?_, ?_, info_of ?_, ?_, ?_, ?_, ?_, ?_, ?_, ?_, ?_, ?_, ?_⟩
    all_goals first | decide +kernel | (unfold PlainStage; decide)

/-- Nothing saved and copy A in use; the record empty and full; injection idle and armed with a mask its checker has; an update resting and
pending; capture idle and running; a buffer whose post-trigger records are done. -/
theorem met_ObjectRows :
    (live.txn.status = 0 ∧ live.nvInUse = none ∧
      { live with fw := { live.fw with nv := #v[{ count := 0xFFFFFFFF, crc := nvCrc 0xFFFFFFFF [], values := [] }, { count := 0, crc := ~~~(nvCrc 0 []), values := [] }] } }.nvInUse = some 0) ∧
    (live.col.full = false ∧ { live with col := { live.col with full := true } }.col.full = true) ∧
    ((29#5).toNat < 30 ∧ 30 ≤ (30#5).toNat ∧ live.causePersists (srcId 29 0) = false ∧
      { live with noc := { live.noc with drain := 2 } }.causePersists (srcId 25 0) = true) ∧
    (let s := ((live.setObj 0x3002 1 (srcId 17 31)).setObj 0x3002 2 2).setObj 0x3002 3 (2 ^ 12 - 1)
     s.col.armed = false ∧ sourceListed (s.obj 0x3002 1) = true ∧ checkerWidth (s.obj 0x3002 1) (s.obj 0x3002 2) = some 12 ∧ s.obj 0x3002 3 ≠ 0 ∧ s.obj 0x3002 3 < 2 ^ 12) ∧
    (¬ (live.fw.update = 3 ∨ live.fw.update = 4) ∧ { live with fw := { live.fw with update := 4 } }.fw.update = 4 ∧ (live.slot live.inactiveSlot).state ≠ 1 ∧
      ({ live with fw := { live.fw with preferred := true } }.slot { live with fw := { live.fw with preferred := true } }.inactiveSlot).state = 1) ∧
    (live.capturing = false ∧ (live.domain 39).state = .live ∧ (live.domain 39).contained = false ∧ (∀ n < 4, live.obj (0x3620 + n) 1 ≠ 1) ∧ { live with trace := { live.trace with state := 2 } }.capturing = true) ∧
    (let s := live.setTraceBuf 15 { TraceBuf.reset with left := some 0 }; (s.traceBuf 15).left = some 0 ∧ (s.traceBuf 15).stopped = false) ∧
    (live.traceBuf 0).left ≠ some 0 := by decide +kernel

/-! ### Power, clocks, temperatures -/

/-- Domain n as given. -/
def domained (n : Nat) (x : Domain) : State := (flying Core.reset TokenUnit.reset []).setDomain n x

/-- Domains 31, 35, 38 and 39 in the states that the clauses name; a cluster whose flight runs. -/
theorem met_PowerSequences :
    Reachable (flying Core.reset TokenUnit.reset []) .can ∧ Reachable (flying Core.reset TokenUnit.reset []) .pcie ∧
    FlightRests (flying Core.reset TokenUnit.reset []) 31 ∧ ¬ FlightRests (flying Core.reset TokenUnit.reset []) 0 ∧
    (let s := flying Core.reset TokenUnit.reset []
     ∀ n ∈ [0, 31, 36, 38, 39], (s.domain n).state = .live ∧ (s.domain n).contained = false) ∧
    (∀ n ∈ [0, 31, 32, 39], ∀ st ∈ [DState.off, .isolate, .quiesce, .power, .restore], let s := domained n { Domain.reset with state := st }
      (s.domain n).state = st ∧ (s.domain n).queued ≠ 1) ∧
    (let s := domained 31 { Domain.reset with state := .drain }
     (s.domain 31).state = .drain ∧ (s.domain 31).cancelled = false ∧ s.drained 31 = true ∧ { s with noc := { s.noc with drain := 1 } }.drained 31 = false) ∧
    (let s := domained 35 { Domain.reset with state := .drain, resetting := true }
     s.drained 35 = true ∧ { s with hbmQ := [(3, [asks 2 1 1 0 true []])] }.drained 35 = false) ∧
    ((domained 31 { Domain.reset with state := .restore, contained := true }).domain 31).contained = true ∧ (39#6).toNat < 40 ∧ 40 ≤ (40#6).toNat := by
  refine ⟨reachable_of (by decide), reachable_of (by decide), ?_, ?_, ?_, ?_, ?_, ?_, ?_, ?_⟩
  case refine_1 => intro f h; exact absurd h (by rw [show (flying Core.reset TokenUnit.reset []).flightOf 31 = none by decide +kernel]; simp)
  case refine_2 => intro h; exact absurd (h 0 (by decide +kernel)) (by decide +kernel)
  all_goals decide +kernel

/-- Sensor readings: one at t among cool ones, at place i. -/
def readings (i : Nat) (t : Int) : List Int := (List.range 46).map fun k => if k = i then t else 0

/-- The least and the greatest setting, one that is none; each phase of a change; temperatures at each threshold; the cap exceeded; the trip. -/
theorem met_ClocksAndPolicy :
    (1000 ≤ (1000#12).toNat ∧ (1000#12).toNat % 125 = 0 ∧ (3000#12).toNat ≤ 3000 ∧ (3000#12).toNat % 125 = 0 ∧ ¬ (1000 ≤ (875#12).toNat) ∧
      (live.domain 31).state = .live ∧ min 3000 (live.cluster 31).ceiling = (live.cluster 31).clock ∧ min 1000 (live.cluster 31).ceiling ≠ (live.cluster 31).clock) ∧
    (∀ p ∈ [ClockPhase.locking, .stopping], let s := live.setCluster 31 { Cluster.reset with phase := p, target := 1000 }
      (s.cluster 31).phase = p ∧ (s.domain 31).state = .live ∧ (∀ i < 16, (s.core (16 * 31 + i)).act = none) ∧
        ((s.setDomain 31 { Domain.reset with state := .quiesce }).domain 31).state ≠ .live) ∧
    (let s := (at40 xy 0 []).setCluster 0 { Cluster.reset with phase := .stopping }; (s.cluster 0).phase = .stopping ∧ (s.core (16 * 0 + 0)).act ≠ none) ∧
    (live.dictOpen = true ∧ live.fw.held = false ∧ State.reset.dictOpen = false ∧ { live with fw := { live.fw with held := true } }.dictOpen = true) ∧
    ((1000 : Int) ≤ (readings 37 1000).getD 37 0 ∧ (∀ i < 38, (readings 31 999).getD i 0 < 1000) ∧ 10 * (live.obj 0x2380 2 : Int) ≤ (readings 31 999).getD 31 0) ∧
    ((∀ i < 32, (readings 45 999).getD i 0 < 10 * (live.obj 0x2380 2 : Int)) ∧ live.obj 0x2380 1 < 2000 ∧
      ∀ i < 32, [(7 : Nat), 5, 5].getD i 0 ≤ [(7 : Nat), 5, 5].getD 0 0) ∧
    (live.dev ≠ .off ∧ live.dev ≠ .reset ∧ State.reset.dev = .off ∧ railDomains .hbm ≠ [] ∧ ∃ r, railDomains r = []) := by
  refine ⟨?_, ?_, ?_, ?_, ?_, ?_, ?_, ?_, ?_, ?_, .aon, ?_⟩ <;> decide +kernel

/-! ### Faults and storage -/

/-- An event of the last source of class 29, of level 2, stamped 5; n events that wait in its queue. -/
def event1 : Event :=
  { src := 959, code := 8, level := 2, d0 := 2 ^ 40 - 1, d1 := 7, stamp := 5, injected := false, during := false, close := 5, late := false, reached := true, cfg := sourceConfig }
def detects (n : Nat) : State := { live with col := { live.col with detected := [{ event1 with src := 3 }, event1], queues := [(29, List.replicate n event1)] } }

/-- The entry of sequence number 65,535 plus 7 · 65,536. -/
def logged (pinned : Bool) : LogItem := { entry := BitVec.ofNat 256 (7 * 65536 + 65535), pinned := pinned }

/-- The start of event1's window at a stamp. -/
def startOf (stamp : Nat) : Nat :=
  let span := (detects 15).obj (0x3040 + event1.src / 32) (event1.src % 32 + 1) / 2 ^ 16 % 2 ^ 16 * 10 ^ 6
  stamp / span * span

/-- Entries written in this second as against the least limit of a second. -/
def counting (n : Nat) : State := { live with col := { live.col with logQ := [logged false], rate := (0, n) } }.setObj 0x3003 8 1

/-- A queue with its last place free and a full one; the event that its source's window counts as the sixteenth; the only event of its stamp,
with the record empty and full; an entry for the last ring slot. -/
theorem met_FaultCollection :
    OldestOf (detects 15) 29 event1 [{ event1 with src := 3 }] ∧ (tget [] (detects 15).col.queues 29).length < 16 ∧
    16 ≤ (tget [] (detects 16).col.queues 29).length ∧ event1.src < 960 ∧
    ((detects 15).col.closed ≤ event1.stamp ∧ event1.level ≤ 2 ∧ event1.injected = false ∧
      (tget (0, 0) (detects 15).col.windows event1.src).1 = startOf 5 ∧ (tget (0, 0) (detects 15).col.windows event1.src).1 < startOf (10 ^ 9 + 5)) ∧
    (∀ x ∈ live.col.detected, x.src / 32 ≠ 29) ∧
    (∀ full : Bool, let s := { live with col := { live.col with taken := [event1], full := full, headKnown := true } }
      (s.col.taken ++ s.col.queues.flatMap (fun x => x.2)).filter (fun x => x.close == 5) = [event1] ∧ 1 ≤ recordedLevel s event1 ∧ s.col.full = full ∧
        s.obj 0x3001 3 ≤ recordedLevel s event1 ∧ s.col.pinnedUsed < 256 ∧ recordedLevel s event1 = 3 ∧ (reactionsAt sourceConfig 3).testBit 1 = true) ∧
    (∀ p : Bool, { live with col := { live.col with logQ := [logged p] } }.col.logQ = [logged p]) ∧
    ((logged true).entry.extractLsb' 0 24).toNat % 65536 = 65535 ∧ live.col.freePinned = some 0 ∧
    (∀ n ∈ [0, 1], let s := counting n; (s.obj 0x3003 8 ≤ (if s.col.rate.1 = s.now / 10 ^ 9 then s.col.rate.2 else 0)) ↔ n = 1) := by
  refine ⟨⟨[{ event1 with src := 3 }], [], rfl, rfl, ?_, ?_⟩, ?_, ?_, ?_, ?_, ?_, ?_, ?_, ?_, ?_, ?_⟩ <;> decide +kernel

/-- Engine 511 with the dredge pointer of bank b at p and a stored word there. -/
def dredges (b p : Nat) (x : Tab Stored) : State := live.setEngine 511 { Engine.reset with mem := x, dredge := tput 0 b p [] }

/-- The last words of banks 2, 3 and of the sluice and an HBM line, each holding whatever stands there (clean, one bit or two bits inverted); the
least and the greatest places of those bits; a clean entry and store word; words in correction buffers. -/
theorem met_DredgeReads :
    (∀ b ∈ [(2, 0x7FFF, 0x17FFF), (3, 0x77FF, 0x1F7FF), (4, 0x7FF, 0x1FFFF)], ∀ x : Stored, let s := dredges b.1 b.2.1 [(b.2.2, x)]
      s.col.armed = false ∧ s.dredgeEngine 511 = true ∧ s.retiredPage 511 b.2.2 = false ∧ tget 0 (s.engine 511).dredge b.1 = b.2.1 ∧
        (s.engine 511).corr = [] ∧ (s.engine 511).cell b.2.2 = x) ∧
    (∀ x : Line, let s := { live with hbmDredge := [(3, 5)], hbm := [(stackLine 3 5, x)] }
      s.obj 0x2E00 2 = 1 ∧ s.hbmServes 3 = true ∧ s.dev = .live ∧ s.retiredRow (stackLine 3 5) = false ∧ s.hbmLine (stackLine 3 5) = x) ∧
    (0 < 56 ∧ 55 < 56 ∧ 255 < 256 ∧ 3 < 4 ∧ 0 < 14 ∧ 13 < 14 ∧ 0 ≠ 13) ∧
    (let s := dredges 5 16383 []
     (s.engine 511).entry 16383 = encodeEntry 16383 0 false false ∧ s.obj 0x2E00 1 = 1 ∧ s.storageRuns 31 = true ∧ s.retiredBank 31 15 = false ∧
       (s.cluster 31).cell (16 * 0x7FFF + 15) = encodeWord (16 * 0x7FFF + 15) 0) ∧
    ((live.setObj 0x2E00 1 0).obj 0x2E00 1 ≠ 1 ∧ (live.setObj 0x2E00 2 0).obj 0x2E00 2 ≠ 1) ∧
    ((corrected.engine 0).corr.find? (fun x => x.1 == 4) = some (4, 0x8001, 3) ∧ (corrected.engine 0).corr.find? (fun x => x.1 == 0) = none ∧
      ((live.setEngine 0 { Engine.reset with matchCorr := some (16383, 7) }).engine 0).matchCorr = some (16383, 7)) := by
  refine ⟨?_, fun x => ⟨by rfl, by rfl, by rfl, by rfl, by rfl⟩, by decide, by decide +kernel, by decide +kernel, by decide +kernel⟩
  simp only [List.forall_mem_cons]
  refine ⟨?_, ?_, ?_, fun _ h => absurd h (by simp)⟩ <;> intro x <;> exact ⟨by rfl, by rfl, by rfl, by rfl, by rfl, by rfl⟩

/-! ### Peer links and time -/

/-- Port 7 as given. -/
def ported (y : Port) : State := live.setPort 7 y
def linked : Port := { Port.reset with state := .connected, fec := true }

/-- A block without its CRC: the first slot with a code, and a sequence number; sealed, as the lanes deliver it to a port whose descrambler is at rest. -/
def bare (f : BitVec 192) (code : BitVec 3) (seq : BitVec 16) : BitVec 1024 := 0#45 ++ code ++ seq ++ 0#768 ++ f
def onLanes (b : BitVec 1024) : BitVec 1026 := (scramble (sealBlock b) 0).1 ++ 1#2

theorem goodBlock_of {s : State} {b : BitVec 1024} (h : (s.port 7).state = .connected ∧ (s.port 7).rxScram = 0 ∧ s.col.armed = false) :
    GoodBlock s 7 (onLanes b) (sealBlock b) where
  connected := h.1
  header := by unfold onLanes; exact BitVec.extractLsb'_append_eq_right
  body := by
    have : (onLanes b).extractLsb' 2 1024 = (scramble (sealBlock b) 0).1 := by unfold onLanes; exact BitVec.extractLsb'_append_eq_left
    rw [this, h.2.1]; exact descramble_scramble _ _
  code := crc32_sealBlock _
  quiet := h.2.2

/-- A status flit that acknowledges sequence number n, and asks for a replay from m. -/
def statusFlit (n : Nat) (replay : Bool) (m : Nat) : BitVec 192 := BitVec.ofNat 192 (2 ^ 4 * n + 2 ^ 20 * replay.toNat + 2 ^ 21 * m)

/-- The next block in sequence, one 1,025 places behind and an unsequenced one; both bad sync headers; a codeword of 15 and of 16 errors; an
acknowledgment and a replay request of one kept block; its timeout, first and after seven failures; a status flit due; a block to send
again; a new flit under the last credit of its set; nothing to send. -/
theorem met_LinkBlocks :
    (∀ c ∈ [(5#3, 0#16), (5#3, 0xFBFF#16), (1#3, 0#16)], let b := sealBlock (bare 0 c.1 c.2); let s := ported linked
      GoodBlock s 7 (onLanes (bare 0 c.1 c.2)) b ∧ (s.port 7).rxNext = 0 ∧ blockSeq b = c.2 ∧ blockCode b 0 = c.1.toNat ∧ ∀ i < 5, 1 ≤ i → blockCode b i = 0) ∧
    (0#16 - 0xFBFF#16).toNat = 1025 ∧
    ((0 : BitVec 1026).extractLsb' 0 2 = 0 ∧ (3 : BitVec 1026).extractLsb' 0 2 = 3 ∧ linked.wantReplay = false ∧ linked.fec = true ∧ linked.failures = none ∧
      (live.port 7).state ≠ .connected) ∧
    (let b := bare 0 5 9; blockSeq b = 9 ∧ (statusFlit 9 false 0).getLsbD 20 = false ∧ ((statusFlit 9 false 0).extractLsb' 4 16 + 1 - blockSeq b).toNat = 1 ∧
      (statusFlit 8 true 9).getLsbD 20 = true ∧ ((statusFlit 8 true 9).extractLsb' 4 16 + 1 - blockSeq b).toNat = 0 ∧ blockSeq b = (statusFlit 8 true 9).extractLsb' 21 16) ∧
    (∀ l ∈ [[], [bare 0 5 9]], ∀ n ∈ [none, some (9#16, 7)], let y := (ported { linked with replay := l, resend := l, failures := n, statusIn := [statusFlit 9 false 0] }).port 7
      y.state = .connected ∧ y.replay = l ∧ y.resend = l ∧ y.failures = n ∧ y.statusIn = [statusFlit 9 false 0] ∧ y.statusDue = false ∧ y.syncOut = [] ∧ y.sinceFiller < 2047) ∧
    (let y := (ported { linked with statusDue := true }).port 7; y.statusDue = true ∧ y.syncOut = []) ∧
    (let y := (ported { linked with statusIn := [statusFlit 8 true 9] }).port 7; y.statusIn = [statusFlit 8 true 9] ∧ y.replay = []) ∧
    (∀ n ∈ [3, 4], let y := { linked with fecOut := List.replicate n 0 }; y.fec = true ∧ y.fecOut.length = n) ∧
    (∀ v : BitVec 2, ∀ u : Bool, let y := { linked with staging := [{ flit := { bits := 0, tag := 3, inj := 1 }, chan := v, upper := u }],
                                                        credUsed := [(2 * v.toNat + u.toNat, setSize (2 * v.toNat + u.toNat) - 1)] }
      y.txHead = none ∧ y.replay.length < 1024 ∧ tget 0 y.credUsed (2 * v.toNat + u.toNat) < setSize (2 * v.toNat + u.toNat)) := by
  refine ⟨?blocks, ?_, ?_, ?_, ?_, ?_, ?_, ?_, ?staged⟩
  case blocks =>
    simp only [List.forall_mem_cons]
    refine ⟨?_, ?_, ?_, fun _ h => absurd h (by simp)⟩ <;>
      exact ⟨goodBlock_of (by decide +kernel), by decide +kernel, by rw [blockSeq_sealBlock]; decide +kernel,
        by rw [blockCode_sealBlock _ _ (by omega)]; decide +kernel, fun i h k => by
          rw [blockCode_sealBlock _ _ h]; revert k; revert h; revert i; decide +kernel⟩
  case staged =>
    intro v u
    refine ⟨rfl, (by decide : ([] : List (BitVec 1024)).length < 1024), ?_⟩
    revert v u; decide +kernel
  all_goals decide +kernel

/-- The identity set of a device and port. -/
def identity (d : BitVec 10) (rate : Bool) : IdentitySet :=
  { device := d, upperKnown := true, port := 5, kind := 0, stepping := 0, rate := rate, fec := true, idSource := 0, tmstr := false, tbkup := false }

/-- Each state that the clauses name at port 7, enabled, of device 0; its own and another device's identity; the end of step 8. -/
theorem met_PortStates :
    (∀ st ∈ [PState.detect, .absent, .shutdown, .train, .align, .fecLock, .discover, .connected, .disabled],
      let s := (flying Core.reset TokenUnit.reset []).setPort 7 { Port.reset with state := st }
      s.portMayRun 7 = true ∧ (s.port 7).state = st ∧ s.obj 0x2C00 2 = 0 ∧ (s.port 7).retrain = false ∧ (s.domain (36 + 7 / 4)).state = .live) ∧
    State.reset.portMayRun 7 = false ∧
    ((flying Core.reset TokenUnit.reset []).deviceId = some 0 ∧ (identity 0 false).upperKnown = true ∧ (identity 1023 false).device.toNat ≠ 0 ∧
      (identity 1023 false).rate = Port.reset.rate ∧ { Port.reset with fec := true }.fec = (identity 1023 false).fec ∧ Port.reset.held ≠ 1) ∧
    (let y := (ported { Port.reset with state := .align, retrain := true }).port 7; y.retrain = true ∧ y.state ≠ .connected ∧ y.state ≠ .train) ∧
    (∀ e ∈ [0, 6, 7], ∀ g : Bool, let y := (ported { linked with good := g, empty := e }).port 7; y.state = .connected ∧ y.good = g ∧ y.empty = e) ∧
    Reachable (live.setObj 0x2C27 2 0) .can ∧ (live.setObj 0x2C27 2 0).obj 0x2C27 2 = 0 ∧
    (let s := { live with dev := .config, startStep := 8 }; s.dev = .config ∧ s.startStep = 8 ∧ live.startStep ≠ 8) := by
  refine ⟨?_, ?_, ?_, ?_, ?_, reachable_of ?_, ?_, ?_⟩ <;> decide +kernel

/-- A time-sync flit: subtype kind, sequence. -/
def syncFlit (kind seq : Nat) : BitVec 192 := BitVec.ofNat 192 (1 + 2 ^ 4 * kind + 2 ^ 6 * seq)

/-- Port 7 connected with the flits received, and the time base given. -/
def timed (l : List (BitVec 192 × Nat)) (t : TimeBase) : State := { ported { linked with syncIn := l } with time := t }

/-- A follower of port 7 whose request 255 is asked. -/
def follower : TimeBase := { TimeBase.reset with role := .follower, upstream := some 7, asked := some (255, 1000), seq := 255 }

/-- The flit of each kind behind one of another; offsets of 1 µs and just beyond it; a source, a backup, a follower; an edge of the PPS input at each
end of its tolerance; step 9 with and without the external inputs; a strobe with one pulse. -/
theorem met_TimeKeeping :
    (∀ k ∈ [0, 1, 2], let s := timed [(syncFlit ((k + 1) % 3) 0, 0), (syncFlit k 255, 2000)] follower
      (s.port 7).syncIn = [(syncFlit ((k + 1) % 3) 0, 0)] ++ (syncFlit k 255, 2000) :: [] ∧ ((syncFlit k 255).extractLsb' 4 2).toNat = k ∧
        (∀ x ∈ [(syncFlit ((k + 1) % 3) 0, 0)], (x.1.extractLsb' 4 2).toNat ≠ k) ∧ (s.port 7).state = .connected ∧ (s.port 7).kind < 2 ∧
        s.time.asked = some (255, 1000) ∧ s.time.upstream = some 7 ∧ (syncFlit k 255).extractLsb' 6 8 = 255 ∧ s.startStep = 10 ∧ PlainFollower s) ∧
    (∀ d ∈ [65536000, 65536001], ((((d : Nat) : Int) - 0) - ((0 : Nat) - (d : Nat) : Int)) / 2 = d) ∧
    OnlyAnnounce (timed [] follower) 7 ∧ OnlyAnnounce (timed [] follower) 8 ∧ (timed [] follower).time.role = .follower ∧
    (let s := timed [] { follower with asked := none, upstream := none, stepped := false }; s.time.asked = none ∧ s.time.upstream = none ∧ (live.port 7).syncIn = [] ∧
      { s with time := { s.time with gaveUp := some 255 } }.time.gaveUp = some ((syncFlit 1 255).extractLsb' 6 8)) ∧
    (let s := { live with straps := { Straps.zero with tbkup := true } }; s.straps.tbkup = true ∧ s.straps.tmstr = false ∧ s.time.takenOver = false ∧ live.straps.tbkup = false) ∧
    (∀ n ∈ [10 ^ 9 + 1000, 10 ^ 9 - 1000], let s := { live with time := { TimeBase.reset with value := BitVec.ofNat 96 (n * 2 ^ 32), ppsLast := some 0 } }
      s.time.master = false ∧ s.usesExternal = false ∧ s.time.ppsLast = some 0 ∧ s.now = n) ∧
    (∀ x : Bool, let s := ({ live with dev := .config, startStep := 9, straps := { Straps.zero with tmstr := x } }).setObj 0x2200 0xB 1
      s.time.upstream = none ∧ s.usesExternal = x ∧ s.externalValid = false ∧ s.time.master = false ∧ s.dev = .config ∧ s.startStep = 9) ∧
    (let s := { live with eps := #v[0, 0, 0, 1] }.setObj 0x2240 1 1; 0 < s.eps.toList.getD 3 0 ∧ s.outputsOn = true ∧ s.eps.toList.getD 0 0 = 0) := by
  unfold PlainFollower OnlyAnnounce
  and_intros <;> decide +kernel

/-! ### The management paths and the host -/

/-- Values as in met_ObjectWrites; an object that is write-only; the heartbeat in each state; a transaction of CAN and one of PCIe. -/
theorem met_CanPort :
    (∃ o, objInfo 0x2208 1 = some o ∧ o.cls ≠ .wo) ∧ PlainObject 0x2208 ∧ (∃ o, objInfo 0x2100 0xF = some o ∧ o.cls = .wo) ∧
    (live.dictOpen = true ∧ live.can.stopped = false ∧ State.reset.dictOpen = false ∧ live.can.transfers = []) ∧
    (let s := { live with can := { Can.reset with transfers := [(256 * 0x2208 + 1, [0x10]), (5, [])] } }
     s.can.transfers.filter (fun x => x.1 != 256 * 0x2208 + 1) = [(5, [])] ∧
       (s.can.transfers.find? (fun x => x.1 == 256 * 0x2208 + 1)).map Prod.snd = some [0x10]) ∧
    (∀ d ∈ [DevState.config, .live, .degraded], let s := { live with dev := d }.setObj 0x1017 0 1
      s.dictOpen = true ∧ s.obj 0x1017 0 ≠ 0 ∧ s.dev = d) ∧ (live.setObj 0x1017 0 0).obj 0x1017 0 = 0 ∧
    ((within 1 0 two).txn.owner = some .can ∧ 1 ≤ (within 1 0 two).txn.status ∧ (within 1 0 two).txn.status ≤ 3 ∧ live.txn.owner ≠ some .can) :=
  by
    refine ⟨info_of ?_, ?_, info_of ?_, ?_, ?_, ?_, ?_, ?_⟩
    all_goals first | decide +kernel | (unfold PlainObject; decide)

/-- The mailbox at an object with a length and offset, collecting what is given. -/
def boxed (ix k len off : Nat) (l : Option (Nat × List (BitVec 8))) : State :=
  { live with
    host := { HostIf.reset with
      mb := { Mailbox.reset with index := BitVec.ofNat 32 (ix + 65536 * k), len := BitVec.ofNat 32 len, offset := BitVec.ofNat 32 off, data := [(0, 0x10), (1, 0x27)], collect := l } } }

/-- Both operations, with the last-chunk bit and without; the least and the greatest length; chunks in and out of place; a busy mailbox, boot mode,
a held switch; the ends of the register ranges. -/
theorem met_MailboxAndRegisters :
    (∀ n ∈ [1, 4096], let m := (boxed 0x2208 1 n 0 none).host.mb; m.object = (0x2208, 1) ∧ 1 ≤ m.len.toNat ∧ m.len.toNat ≤ 4096 ∧ m.offset = 0 ∧ m.collect = none ∧ m.busy = false) ∧
    (∃ o, objInfo 0x2208 1 = some o ∧ (o.cls = .lv ∧ o.domain = false ∧ (boxed 0x2208 1 2 0 none).host.mb.chunk.length = o.bytes ∧
      bytesToNat (boxed 0x2208 1 2 0 none).host.mb.chunk = 10000 ∧ 10000 < 2 ^ o.bits ∧ o.ok 10000 = true)) ∧
    ((2#32).extractLsb' 0 2 = 2 ∧ (6#32).getLsbD 2 = true ∧ (2#32).getLsbD 2 = false ∧ (1#32).extractLsb' 0 2 = 1 ∧ (3#32).extractLsb' 0 2 = 3) ∧
    (let m := (boxed 0x2208 1 2 3 (some (256 * 0x2208 + 1, [1, 2, 3]))).host.mb
     m.collect = some (256 * 0x2208 + 1, [1, 2, 3]) ∧ m.offset.toNat = [(1 : BitVec 8), 2, 3].length ∧ (0x2208, 1) ≠ (0x2190, 1)) ∧
    Reachable (boxed 0x2208 1 2 0 none) .pcie ∧ (boxed 0x2208 1 2 0 none).hostServes = true ∧ State.reset.hostServes = false ∧
    (let s := boxed 0x2208 1 2 0 none; { s with host := { s.host with mb := { s.host.mb with busy := true } } }.hostServes = true ∧
      { s with fw := { s.fw with bootMode := true } }.hostServes = true) ∧
    ((0xB0#16).toNat = 0x40 + 8 * (14 : Fin 15).val ∧ (0x2380#16).toNat = 0x2000 + 0x80 * (7 : Fin 8).val ∧ (0x1FFC#16).toNat < 0x2000 ∧ (0x104#16).toNat = 0x104) := by
  refine ⟨?_, info_of ?_, ?_, ?_, reachable_of ?_, ?_, ?_, ?_, ?_⟩ <;> decide +kernel

/-- A vector whose pending bit is set, with nothing sent in this microsecond; a write that is collected, as a read meets it. -/
theorem met_MailboxAndRegisters_more :
    (let s := { live with host := { HostIf.reset with pendingBits := 1 <<< 14 } }
     s.host.pendingBits.getLsbD (0xEC / 16) = true ∧ tget 0 s.host.sentTick 14 ≠ s.now / 1000 + 1 ∧ (0xEC#16).toNat < 0x400 ∧ (0xEC#16).toNat % 16 = 12) ∧
    Served (boxed 0x2208 1 2 3 (some (5, []))) .pcie ∧ (0#32).extractLsb' 0 2 = 0 ∧ (3#32).extractLsb' 0 2 = 3 ∧
    ({ live with startStep := 7, host := { HostIf.reset with link := 2 } } : State).configServes = true ∧ State.reset.configServes = false ∧
    (0x24#16).toNat = 0x10 + 8 * (2 : Fin 3).val + 4 * true.toNat :=
  ⟨by decide, { opened := by decide, free := by decide, booted := by decide, can := by decide, pcie := by decide, sound := by decide }, by decide, by decide, by decide, by decide, by decide⟩

/-- Live routes at the host's router to cluster 0 and stack 0; words 0 to 6143 as design memory that the host may reach; words 6144 on barred. -/
def hosted : State :=
  let s := (((live.setObj 0x2C00 3 0).setObj 0x3440 1 1).setObj 0x3440 3 6144).setObj 0x3440 4 0
  let s := ((s.setObj 0x3441 1 3).setObj 0x3441 2 6144).setObj 0x3441 3 6144
  ((s.setObj 0x3441 5 0).setObj (0x2A40 + 44) 1 (2 ^ 42 + 2 ^ 42 * 2 ^ (64 * 31))).setObj (0x2A40 + 44) 3 (2 ^ 42 * (2 ^ 128 + 2 ^ (64 * 5)))

/-- Channel 7 running with a descriptor at its tail. -/
def channel : State := hosted.setDma 7 { Dma.reset with state := 1, enable := true, head := 1 }

/-- A descriptor: space, offset, length, direction. -/
def transfer (space offset length : Nat) (toHost : Bool) : BitVec 256 :=
  BitVec.ofNat 256 (2 ^ 64 * offset + 2 ^ 100 * space + 2 ^ 128 * length + 2 ^ 160 * toHost.toNat)

/-- The ends of the window's parts; slots that read and one that fails; a write of one slot; boot mode; descriptors that are refused, read
and written. -/
theorem met_HostTraffic :
    (15 * 2 ^ 29 + 2 ^ 24 ≤ 15 * 2 ^ 29 + 2 ^ 24 ∧ hosted.serving 0 = true ∧ entryState (hosted.routeEntry 44 1 (hosted.logicalCluster 0)) = 1 ∧
      (hosted.setDomain 31 { Domain.reset with state := .off }).serving 31 = false) ∧
    (hosted.regionAt 6143 = some 0 ∧ (hosted.region 0).host = true ∧ (hosted.region 0).kind = 1 ∧ entryState (hosted.routeEntry 44 3 (2 + stackOf (6143 / 6))) = 1 ∧
      hosted.hbmServes (stackOf (6143 / 6)) = true ∧ hosted.regionAt 6144 = some 1 ∧ (hosted.region 1).host = false ∧ hosted.regionAt 12288 = none ∧
      hosted.host.aperture[(0 : Fin 15)].toNat + 12288 = 12288) ∧
    (hosted.hostServes = true ∧ hosted.dictOpen = true ∧ hosted.fw.bootMode = false ∧ State.reset.hostServes = false) ∧
    (hosted.hostReadWord (srcId 22 0) (hosted.slotWord 0 false) = (.inr 0, hosted) ∧ hosted.hostReadWord (srcId 22 0) (hosted.slotWord 6144 false) = (.inl 5, hosted) ∧
      slotsOf 0 8 = 1 ∧ slotsOf (8 * 6144 - 1) 2 = 2) ∧
    (hosted.slotWord 6144 true = .status 5 ∧ hosted.slotWord (15 * 2 ^ 29) true = .store 0 0 ∧ hosted.retiredBank 0 0 = false ∧ hosted.slotWord 0 true = .hbm 0) ∧
    (channel.dma 7).state = 1 ∧ (channel.dma 7).head ≠ (channel.dma 7).tail ∧ (hosted.dma 7).state ≠ 1 ∧
    ((descriptorOf (transfer 2 0 0 true)).length = 0 ∧ (descriptorOf (transfer 2 28991029248 1 true)).offset + 1 > 28991029248 ∧
      (descriptorOf (transfer 8 (2 ^ 26 - 1) 1 true)).offset / 2 ^ 17 = 511) ∧
    (channel.descriptorFault (descriptorOf (transfer 2 0 1 true)) = 0 ∧ (descriptorOf (transfer 2 0 1 true)).toHost = true ∧
      channel.hostReadWord (srcId 22 8) (channel.descriptorWord (descriptorOf (transfer 2 0 1 true)) 0) = (.inr 0, channel)) ∧
    (channel.descriptorFault (descriptorOf (transfer 8 (2 ^ 26 - 1) 1 false)) = 0 ∧
      channel.descriptorWord (descriptorOf (transfer 8 (2 ^ 26 - 1) 1 false)) 0 = .loc 511 0x1FFFF ∧ channel.retiredPage 511 0x1FFFF = false) ∧
    ((channel.setDomain 0 { Domain.reset with state := .off }).physicalCluster 0 (channel.setDomain 0 { Domain.reset with state := .off }).noc.gen = some 0 ∧
      ((channel.setDomain 0 { Domain.reset with state := .off }).domain 0).state ≠ .live) := by
  and_intros <;> decide +kernel

/-- The pool of the host interface at the unit of a word, with room for the longest request of one word, and with one flit too few. -/
theorem met_HostTraffic_pools :
    (PoolReady hosted (.hbm 0) (writeFlits 1) ∧ PoolReady hosted (.hbm 0) 1 ∧ writeFlits 1 ≤ 28) ∧
    PoolEmpty { hosted with noc := { hosted.noc with poolUsed := [(64 * 32 + 44, 28)] } } (.hbm 0) 1 :=
  ⟨⟨⟨by decide, fun t h => by cases h; decide⟩, ⟨by decide, fun t h => by cases h; decide⟩, by decide⟩, 32, rfl, by decide⟩

/-- A slot that is barred reads so whatever the counts of the pools. -/
theorem met_HostTraffic_reads : ∀ a b, (pooled hosted a b).hostReadWord (srcId 22 0) (hosted.slotWord 6144 false) = (.inl 5, pooled hosted a b) := by
  rw [show hosted.slotWord 6144 false = .status 5 by decide +kernel]; intro a b; rfl

/-- Channel 7 over an HBM line with two bits of a pair inverted. -/
def spoiled : State := { channel with hbm := [(0, encodeLine 0 0 0 ^^^ 3)] }

/-- A write that poisons the line, one that ends well, and a clear host interface after both. -/
theorem met_HostTraffic_lines :
    ((spoiled.writeHbm 0 [5] (srcId 22 8) 2).1 = .poisoned ∧ spoiled.descriptorWord (descriptorOf (transfer 2 0 1 false)) 0 = .hbm 0 ∧
      (spoiled.writeHbm 0 [5] (srcId 22 8) 2).2.domains = spoiled.domains ∧ (spoiled.writeHbm 0 [5] (srcId 22 8) 2).2.host = spoiled.host) ∧
    (channel.writeHbm 0 [5] (srcId 22 0) 2).1 = .done ∧ channel.slotWord 0 true = .hbm 0 ∧
    (spoiled.descriptorFault (descriptorOf (transfer 2 0 6 false)) = 0 ∧ (descriptorOf (transfer 2 0 6 false)).length = 6 ∧
      (descriptorOf (transfer 2 0 6 false)).toHost = false ∧ (descriptorOf (transfer 2 0 6 false)).interrupt = false ∧ spoiled.retiredRow 0 = false ∧
      ∀ i < 6, spoiled.descriptorWord (descriptorOf (transfer 2 0 6 false)) i = .hbm (0 + i)) := by
  and_intros <;> decide +kernel

/-- Six words that fill the line with the double error: written with no read, so no error is found (R202); five words poison the sixth. -/
theorem test_dma_line :
    ((spoiled.moveWords (srcId 22 8) (descriptorOf (transfer 2 0 6 false)) [1, 2, 3, 4, 5, 6]).1.code = 0 ∧
      (spoiled.moveWords (srcId 22 8) (descriptorOf (transfer 2 0 6 false)) [1, 2, 3, 4, 5, 6]).1.done = 6 ∧
      ((spoiled.moveWords (srcId 22 8) (descriptorOf (transfer 2 0 6 false)) [1, 2, 3, 4, 5, 6]).2.readHbm 5 0).1 = .ok 6) ∧
    (spoiled.moveWords (srcId 22 8) (descriptorOf (transfer 2 0 5 false)) [1, 2, 3, 4, 5]).1.code = 1 := by
  refine ⟨by decide +kernel, by decide +kernel⟩

/-! ### Resets, start-up, firmware -/

/-- The straps of a boot source, and checks that pass. -/
def strapped (n : BitVec 2) : Straps := { devid := 3, tmstr := false, tbkup := false, bootsrc := n }
def passes : SelfTest := { failed := [], alwaysOn := false, railBad := false }

/-- Both edges of PORST_N, every boot source with and without a valid image, the link in each state, boot mode with an image and without one. -/
theorem met_ResetsAndStartUp :
    (live.porst = false ∧ State.reset.porst = true ∧ State.reset.dev = .off ∧ live.dev ≠ .off ∧ CleanStart passes) ∧
    ((State.reset.slot 0).state = 1 ∧ State.reset.fw.preferred = false ∧ (State.reset.slot 1).state ≠ 1 ∧
      ({ State.reset with fw := { State.reset.fw with preferred := true } }.slot 1).state ≠ 1 ∧
      (∀ k ∈ [0, 1], ({ State.reset with fw := { State.reset.fw with slots := Vector.replicate 2 { state := 2, version := 0, image := [] } } }.slot k).state ≠ 1)) ∧
    ((strapped 0).bootsrc = 0 ∧ (strapped 3).bootsrc = 3 ∧ (strapped 1).bootsrc = 1 ∧ (strapped 2).bootsrc = 2) ∧
    (live.dev ≠ .off ∧ live.dev ≠ .reset ∧ (live.domain 38).state = .live ∧ (live.domain 38).contained = false) ∧
    (∀ g ∈ [(1, 16), (5, 1), (6, 1), (1, 3)], (1 ≤ g.1 ∧ g.1 ≤ 5 ∧ (g.2 = 1 ∨ g.2 = 2 ∨ g.2 = 4 ∨ g.2 = 8 ∨ g.2 = 16)) ↔ (g.1 < 6 ∧ g.2 ≠ 3)) ∧
    (∀ n ∈ [1, 2], let s := { live with host := { HostIf.reset with link := n } }; s.host.link ≠ 0 ∧ s.hostMayTrain = true ∧ live.host.link = 0) ∧
    (let s := { live with fw := { live.fw with bootMode := true } }
     s.hostServes = true ∧ s.fw.bootMode = true ∧ live.fw.bootMode = false ∧ (2 ^ 23 : Nat) ≤ 2 ^ 23 ∧ imageValid [] = false) ∧
    ({ live with fw := { live.fw with peerBoot := true } }.fw.peerBoot = true ∧ live.fw.peerBoot = false) := by
  unfold CleanStart
  and_intros <;> decide +kernel

/-- A pending update with and without a quiet point; a switch under way to slot B with a valid image there, and a restart; expiries at both counts. -/
theorem met_FirmwareSwitch :
    (let s := { live with fw := { live.fw with update := 3 } }
     s.dictOpen = true ∧ s.fw.held = false ∧ s.fw.update = 3 ∧ s.quiet = true ∧ live.fw.update ≠ 3 ∧
       { s with noc := { s.noc with drain := 1 } }.noc.drain ≠ 0 ∧ (s.setDomain 39 { Domain.reset with state := .drain }).domain 39 = { Domain.reset with state := .drain }) ∧
    (∀ r : Bool, let s := { live with
        fw := { live.fw with held := true, reloading := r, update := 4, slots := Vector.replicate 2 { state := 1, version := 2, image := [] } } }
      s.fw.held = true ∧ s.fw.heldAccesses = [] ∧ s.fw.deferred = [] ∧ s.fw.reloading = r ∧ s.fw.update = 4 ∧ (s.slot 1).state = 1) ∧
    (∀ l ∈ [[0], [0, 0]], let s := { live with fw := { live.fw with expiries := l }, time := { TimeBase.reset with value := BitVec.ofNat 96 ((10 ^ 10 - 1) * 2 ^ 32) } }
      (s.fw.expiries.filter (fun t => decide (s.now < t + 10 ^ 10))).length = l.length ∧ s.dictOpen = true) ∧
    (State.reset.dictOpen = false ∧ live.fw.held = false) := by decide +kernel

/-- EveryStepKeeps holds in states that it says something of: a TAP instruction that controls the pins while PORST_N is low, and a command that waits. -/
theorem met_EveryStepKeeps :
    TapQuiet State.reset ∧ TapQuiet { State.reset with tap := { State.reset.tap with instr := .highz } } ∧ ¬ TapQuiet { live with tap := { live.tap with instr := .highz } } ∧
      ∃ t, step { State.reset with pending := [.highz, .bypass] } = .next t ∧ t.pending = [.bypass] :=
  ⟨by unfold TapQuiet; decide, by unfold TapQuiet; decide, by unfold TapQuiet; decide, _, rfl, rfl⟩

/-- The least image: a header and its CRC-32 over the 48 zero bytes from byte 16 on. -/
def least : List (BitVec 8) := natToBytes 4 0x5A465731 ++ natToBytes 4 1 ++ natToBytes 4 64 ++ natToBytes 4 1446178480 ++ List.replicate 48 0

theorem met_ResetsAndStartUp_image : imageValid least = true := by decide +kernel

/-! ### Ill-formed commands (R175, R209, R210, R220, R245, R277, R287, R290) -/

theorem test_ill_queue : (Instr.tokenArrival 0 (.partition 46)).wellFormed = false ∧ (Instr.debugProbe 0 (.partition 63)).wellFormed = false ∧
    (Instr.tokenCreditReturn 0 46).wellFormed = false ∧ (Instr.tokenArrival 0 (.partition 45)).wellFormed = true := by decide

theorem test_ill_hop : (Instr.routerHop 46 .unit 0 false).wellFormed = false ∧ (Instr.routerHop 0 (.port 0) 0 false).wellFormed = false ∧
    (Instr.routerHop 0 (.port 6) 0 false).wellFormed = false ∧ (Instr.urgencyIncrement 35 .link 0 false).wellFormed = false ∧
    (Instr.urgencyIncrement 44 .link 0 false).wellFormed = false ∧ (Instr.routerHop 36 .link 0 false).wellFormed = true := by decide

theorem test_ill_domain : (Instr.deflate .can 40).wellFormed = false ∧ (Instr.inflate .can 40).wellFormed = false ∧
    (Instr.domainReset .pcie 40).wellFormed = false ∧ (Instr.drainEnd 40).wellFormed = false ∧ (Instr.drainTimeout 40).wellFormed = false ∧
    (Instr.powerUp 40).wellFormed = false ∧ (Instr.restoreComplete 40 true).wellFormed = false ∧
    (Instr.porstNRise ⟨0, false, false, 0⟩ { failed := [3, 40], alwaysOn := false, railBad := false }).wellFormed = false ∧ (Instr.deflate .can 39).wellFormed = true := by decide

theorem test_ill_thermal : (Instr.thermalSample (List.replicate 45 20) 0 (List.replicate 32 0)).wellFormed = false ∧
    (Instr.thermalSample (List.replicate 46 20) 0 (List.replicate 31 0)).wellFormed = false ∧ (Instr.thermalTrip 46 126).wellFormed = false ∧
    (Instr.thermalSample (List.replicate 46 20) 0 (List.replicate 32 0)).wellFormed = true := by decide

theorem test_ill_class : (Instr.sourceStatusClear .can 30 0 1).wellFormed = false ∧ (Instr.faultEvent 30).wellFormed = false ∧
    (Instr.faultEvent 29).wellFormed = true := by decide

theorem test_ill_storage : (Instr.dredgeRead (.localBank 0 5)).wellFormed = false ∧
    (Instr.correctionWriteBack (.localBank 511 7)).wellFormed = false ∧ (Instr.dredgeRead (.localBank 0 4)).wellFormed = true := by decide

theorem test_ill_codeword : (Instr.fecCodeword 0 (List.replicate 4 0) 0 0).wellFormed = false ∧
    (Instr.fecCodeword 0 (List.replicate 5 0) 0 0).wellFormed = true := by decide

/-! ### The manual's worked examples -/

/-- Chapter 2: epoch 1,000,123 at views 1,000,100 and 1,000,130. -/
theorem test_tag_distance : tagDistance 187 1000100 = 23 ∧ tagDistance 187 1000130 = 249 := by decide

/-- Chapter 6: ADD at X + 3. -/
theorem test_word_add : opOf 0x82000003 = 0x010 ∧ modeOf 0x82000003 = 2 ∧ addrOf 0x82000003 = 3 := by decide

/-- Chapter 8: FADD.D at Y + 4, and FSYNC. -/
theorem test_word_faddd : opOf 0xC0B000004 = 0x181 ∧ modeOf 0xC0B000004 = 3 ∧ addrOf 0xC0B000004 = 4 ∧
    opOf 0xD87000000 = 0x1B0 ∧ modeOf 0xD87000000 = 7 := by decide

/-- Chapter 5: the window of queue entry 5. -/
theorem test_window : windowAt 5 = 0x1F8A0 := by decide

/-- Chapter 9: the place of lines 166,666,667 and 44,739,244. -/
theorem test_place : stackOf 166666667 = 1 ∧ placeOf 166666667 = (13, 34, 847) ∧ stackOf 44739244 = 1 := by decide

/-- Chapter 10: nonet 0x155 at 0x8000, read as it stands, with d3 flipped, and through a decoder fault at 0x8001. -/
theorem test_nonet : encodeNonet 0x8000 0 0x155 = 0xB55 ∧ syndrome 0x8000 0 0xB5D = (7, true) ∧ syndrome 0x8001 0 0xB55 = (14, true) := by decide

/-- Chapter 10: the fold of line 166,666,667. -/
theorem test_fold : foldOf 166666667 = 0x2FD := by decide

/-- Chapter 8: FMUL.S of 2⁻¹²⁶ and 1 − 2⁻²⁴ under RNE, RTZ and FTZ, with underflow and inexact. -/
theorem test_fmul_tiny :
    fmtS.mul ⟨0, false, false⟩ (fmtS.decode false 0x00800000) (fmtS.decode false 0x3F7FFFFF) = (0x00800000, flU ||| flX) ∧
    fmtS.mul ⟨1, false, false⟩ (fmtS.decode false 0x00800000) (fmtS.decode false 0x3F7FFFFF) = (0x007FFFFF, flU ||| flX) ∧
    fmtS.mul ⟨0, true, false⟩ (fmtS.decode false 0x00800000) (fmtS.decode false 0x3F7FFFFF) = (0, flU ||| flX) := by decide +kernel

/-- Chapter 7: majority, P AND Q, P XOR Q and constant one as truth tables. -/
theorem test_lut : vecLut 0xE8 0b11110000 0b11001100 0b10101010 = 0b11101000 ∧ vecLut 0x88 0b11110000 0b11001100 0b10101010 = 0b10001000 ∧
    vecLut 0x66 0b11110000 0b11001100 0b10101010 = 0b01100110 ∧ vecLut 0xFF 0 0 0 = BitVec.allOnes 288 := by decide +kernel

end Sys2Proof.Tests
end

/-! PROOF. O9: the jumps, CALL and RET (R106, R131). -/

namespace Sys2Proof.Machine

open Sys2Proof.Safety Sys2Proof.Claims

/-! ### A synchronous trap of an instruction that stands at the PC -/

/-- With no load in its delay, a trap finds no load to put under a shadow (R105). -/
theorem Core.shadowLoads_of_delay_nil {c : Core} (h : c.delay = []) : c.shadowLoads = { c with delay := [], shadow := [] } := by
  simp [Core.shadowLoads, h]

/-- TCAUSE as a trap writes it: the cause in [5:0], the delay-slot mark in [6], the imprecise mark in [7] (R113). -/
theorem Core.takeTrap_tcause (c : Core) (slot imprecise : Bool) (cause : BitVec 6) (tpc : BitVec 15) (info : Word) :
    (c.takeTrap slot cause imprecise tpc info).tcause.extractLsb' 0 6 = cause ∧
    (c.takeTrap slot cause imprecise tpc info).tcause.getLsbD 6 = slot ∧
    (c.takeTrap slot cause imprecise tpc info).tcause.getLsbD 7 = imprecise := by
  have e : (c.takeTrap slot cause imprecise tpc info).tcause = BitVec.ofBool imprecise ++ BitVec.ofBool slot ++ cause := rfl
  rw [e, BitVec.extractLsb'_append_eq_right]
  simp only [BitVec.getLsbD_append]
  simp

/-- Outside handler mode and with no FP instruction outstanding, a body that ends in a trap takes it as R113 says. -/
theorem traps_of_trap {i : Instr} {s t u : State} {g op : Nat} {w info : Word} {body : Word → State → Eff} {cause : BitVec 6}
    {tpc : BitVec 15} (h : Stands s g op w t) (hi : exec i s = .next (issue g op body s)) (hb : body w t = .trap cause tpc info u)
    (hfpu : (t.core g).fpu = none) (hh : (u.core g).handler = false) (hd : (u.core g).delay = (t.core g).delay) :
    Traps i s g u cause tpc info := by
  have hnext : applyEff t g (body w t) = u.setCore g ((u.core g).takeTrap (!(u.core g).delay.isEmpty) cause false tpc info) := by
    simp [hb, applyEff, State.syncTrap, hfpu, hh, hd]
  obtain ⟨hcause, hslot, himprecise⟩ := (u.core g).takeTrap_tcause (!(u.core g).delay.isEmpty) false cause tpc info
  refine ⟨_, _, hi, ?_, rfl, hcause, himprecise, ?_, rfl, rfl, rfl, rfl, rfl, fun hnil => ?_⟩
  · rw [issue_stands h, hnext]
    exact coreBecomes_setCore u g _
  · rw [hslot]; simp
  · simp [Core.takeTrap, Core.shadowLoads_of_delay_nil hnil]

/-- A body that finds its instruction illegal traps with cause 0, the PC in TPC and TINFO (Table 5.10). -/
theorem traps_of_illegal {i : Instr} {s t : State} {g op : Nat} {w : Word} {body : Word → State → Eff} (h : Stands s g op w t)
    (hi : exec i s = .next (issue g op body s)) (hb : body w t = illegalEff t g) (ho : TrapOpen t g) :
    Traps i s g t 0 (t.core g).pc ((t.core g).pc.zeroExtend 36) :=
  traps_of_trap h hi hb ho.2 ho.1 rfl

/-! ### Jumps -/

theorem jumpTarget_eq_target (c : Core) (w : Word) : jumpTarget c w = target c w := by
  unfold jumpTarget target
  split_ifs <;> simp [BitVec.setWidth_eq_extractLsb']

/-- A row's condition as a predicate on F. -/
def jumpTaken (r : JumpRow) (f : BitVec 5) : Bool :=
  r.taken (f.getLsbD 0) (f.getLsbD 1) (f.getLsbD 2) (f.getLsbD 3) (f.getLsbD 4)

/-- Each of the sixteen jumps issues the one jump body, under the condition of its row of Table 6.7. -/
theorem exec_jumpRow {r : JumpRow} (hr : r ∈ jumpRows) (g : BitVec 9) (s : State) :
    exec (r.instr g) s = .next (issue g.toNat r.op (jumpBody (jumpTaken r) g.toNat) s) := by
  fin_cases hr <;> rfl

/-- A jump writes no register: it goes to its target when its condition holds of F, and on in sequence otherwise. -/
theorem done_of_jumpBody {i : Instr} {s t : State} {g op : Nat} {w : Word} {cond : BitVec 5 → Bool} (h : Stands s g op w t)
    (hi : exec i s = .next (issue g op (jumpBody cond g) s)) :
    Done i s g t (t.core g) (if cond (t.core g).f then .jump (target (t.core g) w) else .seq) [] := by
  refine done_of_next h hi ?_
  cases hc : cond (t.core g).f <;> simp [jumpBody, hc, Eff.next, jumpTarget_eq_target]

/-! ### CALL -/

theorem bodyCall_of_ne_last {g : Nat} {t : State} (w : Word) (h : (t.core g).pc ≠ 0x7FFF) :
    bodyCall g w t = .done (t.setCore g { t.core g with l := (t.core g).pc + 1 }) (.jump (target (t.core g) w)) [] := by
  rw [← jumpTarget_eq_target]
  exact if_neg h

theorem bodyCall_of_last {g : Nat} {t : State} (w : Word) (h : (t.core g).pc = 0x7FFF) : bodyCall g w t = illegalEff t g :=
  if_pos h

/-- Settles O9: the jumps by their shared body, CALL by its two cases, RET as it stands. -/
theorem jumpResults : Obligations.JumpResults := by
  intro g s t w
  refine ⟨fun r hr h => ?jump, fun h hpc => ?call, fun h hpc ho => ?callAtLast, fun h => ?ret⟩
  case jump => exact done_of_jumpBody h (exec_jumpRow hr g s)
  case call => exact done_of_regEff h rfl (bodyCall_of_ne_last w hpc)
  case callAtLast =>
    have hlast := traps_of_illegal (i := .call g) h rfl (bodyCall_of_last w hpc) ho
    rwa [hpc] at hlast
  case ret => exact done_of_next h rfl rfl

end Sys2Proof.Machine

/-! PROOF. O3: MUL, MULU and the divides (R128, R129). -/

namespace Sys2Proof.Machine

open Sys2Proof.Safety Sys2Proof.Claims

/-! ### Rows of format M whose body is the ALU's -/

/-- An instruction whose body is the ALU's leaves f of the stepped pipeline and the operand, and completes in sequence. -/
theorem done_of_aluBody {i : Instr} {s t u : State} {g op : Nat} {w m : Word} {f : Core → Word → Core} (h : Stands s g op w t)
    (ho : Operand t g w m u) (hi : exec i s = .next (issue g op (aluBody f g) s)) :
    Done i s g u (f ((u.core g).step (modeOf w) (addrOf w)) m) .seq [] :=
  done_of_regEff h hi (withOperand_eq ho _)

/-- The row's command issues the ALU body of f, and f is what the row makes of the stepped pipeline. -/
def IssuesAlu (r : Row) (f : Core → Word → Core) : Prop :=
  (∀ (g : BitVec 9) (s : State), exec (r.instr g) s = .next (issue g.toNat r.op (aluBody f g.toNat) s)) ∧
    ∀ w c m, r.out w c m = plain f w c m

theorem rowsComplete_of_issuesAlu {rows : List Row} (h : ∀ r ∈ rows, ∃ f, IssuesAlu r f) : RowsComplete rows := by
  intro r hr g s t u w m hs ho
  obtain ⟨f, hexec, hout⟩ := h r hr
  rw [hout]
  exact done_of_aluBody hs ho (hexec g s)

/-! ### Flags and the pair A:H -/

/-- F put together bit by bit is F as a number (R97). -/
theorem append_flags_eq_flagWord (c z n o d : Bool) :
    BitVec.ofBool d ++ BitVec.ofBool o ++ BitVec.ofBool n ++ BitVec.ofBool z ++ BitVec.ofBool c = flagWord c z n o d := by
  revert c z n o d; decide

theorem setCZNO_eq_flagWord (f : BitVec 5) (c z n o : Bool) : setCZNO f c z n o = flagWord c z n o (f.getLsbD 4) :=
  append_flags_eq_flagWord c z n o (f.getLsbD 4)

theorem extractLsb'_eq_ofNat_div {n : Nat} (v : BitVec n) (i k : Nat) : v.extractLsb' i k = BitVec.ofNat k (v.toNat / 2 ^ i) := by
  rw [← Nat.shiftRight_eq_div_pow]; rfl

theorem setPair_eq_pairOut (c : Core) (v : BitVec 72) (f : BitVec 5) : { c.setPair v with f := f } = Claims.pairOut c v f := by
  simp [Core.setPair, Claims.pairOut, extractLsb'_eq_ofNat_div]

theorem pair_toNat (c : Core) : c.pair.toNat = pairNat c := by
  rw [Core.pair, BitVec.toNat_append, ← Nat.shiftLeft_add_eq_or_of_lt c.a.isLt, Nat.shiftLeft_eq, pairNat]
  omega

theorem pair_toInt (c : Core) : c.pair.toInt = if pairNat c < 2 ^ 71 then (pairNat c : Int) else pairNat c - 2 ^ 72 := by
  rw [BitVec.toInt_eq_toNat_cond, pair_toNat]
  split_ifs <;> omega

/-! ### Products -/

/-- A signed product of two words fits 72 bits. -/
theorem toInt_ofInt_mul_toInt (a m : Word) : (BitVec.ofInt 72 (a.toInt * m.toInt)).toInt = a.toInt * m.toInt := by
  have lower := BitVec.le_toInt_mul_toInt (x := a) (y := m)
  have upper := BitVec.toInt_mul_toInt_le (x := a) (y := m)
  exact BitVec.toInt_ofInt_eq_self (by decide) (by omega) (by omega)

theorem high_toNat (p : BitVec 72) : (p.extractLsb' 36 36).toNat = p.toNat / 2 ^ 36 := by
  have bound := p.isLt
  rw [BitVec.extractLsb'_toNat, Nat.shiftRight_eq_div_pow]
  omega

/-- The upper word repeats the sign of the lower one exactly when the pair's value fits one signed word. -/
theorem high_eq_sign_iff (p : BitVec 72) :
    p.extractLsb' 36 36 = (if p.getLsbD 35 then BitVec.allOnes 36 else 0) ↔ -(2 ^ 35) ≤ p.toInt ∧ p.toInt < 2 ^ 35 := by
  have bound := p.isLt
  have sign : p.getLsbD 35 = decide (p.toNat / 2 ^ 35 % 2 = 1) := Nat.testBit_eq_decide_div_mod_eq
  rw [← BitVec.toNat_inj, high_toNat, sign, BitVec.toInt_eq_toNat_cond]
  by_cases negative : p.toNat / 2 ^ 35 % 2 = 1
  · have fill : (BitVec.allOnes 36).toNat = 2 ^ 36 - 1 := rfl
    rw [decide_eq_true negative, if_pos rfl, fill]
    split_ifs <;> omega
  · have fill : (0 : Word).toNat = 0 := rfl
    rw [decide_eq_false negative, if_neg Bool.false_ne_true, fill]
    split_ifs <;> omega

theorem high_eq_zero_iff (p : BitVec 72) : p.extractLsb' 36 36 = 0 ↔ p.toNat < 2 ^ 36 := by
  rw [← BitVec.toNat_inj, high_toNat]
  exact Nat.div_eq_zero_iff_lt (by decide)

/-- The pair's result with C and O from one test, as R128 gives the flags of a product. -/
theorem productOut_eq (c : Core) (p : BitVec 72) (big : Bool) :
    { c.setPair p with f := setCZNO c.f big (p == 0) p.msb big } = productOut c p big := by
  rw [setPair_eq_pairOut, setCZNO_eq_flagWord, productOut, BitVec.msb_eq_getLsbD_last, beq_eq_decide]

theorem mulSigned_eq_productOut (c : Core) (m : Word) :
    mulSigned c m = productOut c (BitVec.ofInt 72 (c.a.toInt * m.toInt))
      (decide ¬ (-(2 ^ 35) ≤ c.a.toInt * m.toInt ∧ c.a.toInt * m.toInt < 2 ^ 35)) := by
  have hp : c.a.signExtend 72 * m.signExtend 72 = BitVec.ofInt 72 (c.a.toInt * m.toInt) := (BitVec.ofInt_mul _ _).symm
  have hbig := not_congr (high_eq_sign_iff (BitVec.ofInt 72 (c.a.toInt * m.toInt)))
  rw [toInt_ofInt_mul_toInt] at hbig
  simp only [mulSigned, hp, productOut_eq, hbig]

theorem mulUnsigned_eq_productOut (c : Core) (m : Word) :
    mulUnsigned c m = productOut c (BitVec.ofNat 72 (c.a.toNat * m.toNat)) (decide (2 ^ 36 ≤ c.a.toNat * m.toNat)) := by
  have hp : c.a.zeroExtend 72 * m.zeroExtend 72 = BitVec.ofNat 72 (c.a.toNat * m.toNat) := by
    simp [BitVec.ofNat_mul]
  have hbig := not_congr (high_eq_zero_iff (BitVec.ofNat 72 (c.a.toNat * m.toNat)))
  rw [BitVec.toNat_ofNat, Nat.mod_eq_of_lt BitVec.toNat_mul_toNat_lt, Nat.not_lt] at hbig
  simp only [mulUnsigned, hp, productOut_eq, hbig]

/-! ### Quotients -/

theorem divideOut_f (c : Core) (a h : Word) (d o : Bool) :
    (divideOut c a h d o).f = flagWord false (decide (a = 0)) (a.getLsbD 35) o d := by
  rw [← beq_eq_decide, ← append_flags_eq_flagWord, ← BitVec.msb_eq_getLsbD_last]
  rfl

theorem divideOut_eq (c : Core) (a h : Word) (d o : Bool) :
    divideOut c a h d o = { c with a := a, h := h, f := flagWord false (decide (a = 0)) (a.getLsbD 35) o d } := by
  rw [← divideOut_f c a h d o]; rfl

/-- A divide by an operand whose value is zero for the zero word alone runs as R129 says. -/
theorem divideWith_eq_quotientOut {dvd : Core → Int} {dvs : Word → Int} {lo hi : Int} (hz : ∀ m, m = 0 ↔ dvs m = 0) (c : Core) (m : Word) :
    divideWith dvd dvs lo hi c m = quotientOut c (dvd c) (dvs m) lo hi := by
  have beyond_iff (q : Int) : (q < lo ∨ hi < q) ↔ ¬ (lo ≤ q ∧ q ≤ hi) := by omega
  unfold divideWith quotientOut
  simp only [divideOut_eq, hz m, beyond_iff]
  by_cases h0 : dvs m = 0
  · simp [h0]
  by_cases hq : lo ≤ (dvd c).tdiv (dvs m) ∧ (dvd c).tdiv (dvs m) ≤ hi
  · simp [h0, hq]
  · simp [h0, hq]

theorem eq_zero_iff_toInt_eq_zero (m : Word) : m = 0 ↔ m.toInt = 0 := by
  rw [← BitVec.toInt_inj]; rfl

theorem eq_zero_iff_toNat_eq_zero (m : Word) : m = 0 ↔ (m.toNat : Int) = 0 := by
  rw [← BitVec.toNat_inj, Int.natCast_eq_zero]; rfl

/-! ### The rows of Table 6.5 -/

/-- Settles O3: each row of Table 6.5 issues an ALU body, MUL and MULU that of a product that fits the pair, the divides that of the
one divide rule with their own dividend and quotient range. -/
theorem multiplyDivideResults : Obligations.MultiplyDivideResults := by
  refine rowsComplete_of_issuesAlu ?_
  simp only [multiplyDivideRows, List.forall_mem_cons]
  refine ⟨⟨_, fun _ _ => rfl, fun _ _ _ => ?mul⟩, ⟨_, fun _ _ => rfl, fun _ _ _ => ?mulu⟩, ⟨_, fun _ _ => rfl, fun _ _ _ => ?div⟩,
    ⟨_, fun _ _ => rfl, fun _ _ _ => ?divu⟩, ⟨_, fun _ _ => rfl, fun _ _ _ => ?divl⟩, ⟨_, fun _ _ => rfl, fun _ _ _ => ?divlu⟩, by simp⟩
  case mul => simp only [plain, mulSigned_eq_productOut]
  case mulu => simp only [plain, mulUnsigned_eq_productOut]
  case div => simp only [plain, divideWith_eq_quotientOut eq_zero_iff_toInt_eq_zero]
  case divu => simp only [plain, divideWith_eq_quotientOut eq_zero_iff_toNat_eq_zero]
  case divl => simp only [plain, divideWith_eq_quotientOut eq_zero_iff_toInt_eq_zero, pair_toInt]
  case divlu => simp only [plain, divideWith_eq_quotientOut eq_zero_iff_toNat_eq_zero, pair_toNat]

end Sys2Proof.Machine

/-! PROOF. O57: the TAP's commands, and control of the pins given up when PORST_N rises (R346, R369 to R371). The rise is said of every
state, also of one whose memory is not in canonical form, so that start-up's frame does not come from `Keeps`: it is laid out here. -/

namespace Sys2Proof.Machine

open Sys2Proof.Claims

/-- What start-up keeps of the pins' side of the part: PORST_N, the TAP, the straps as sampled, and the device state, which start-up
moves on from OFF. -/
structure PinView where
  porst : Bool
  tap : Tap
  straps : Straps
  dev : DevState

def State.pinView (s : State) : PinView := ⟨s.porst, s.tap, s.straps, s.dev⟩

theorem foldl_pinView {α : Type} {f : State → α → State} (h : ∀ s a, (f s a).pinView = s.pinView) (l : List α) (s : State) :
    (l.foldl f s).pinView = s.pinView := by
  induction l generalizing s with
  | nil => rfl
  | cons a l ih => rw [List.foldl_cons, ih, h]

section
variable (s : State)

/-! ### Units, events and outputs -/

theorem State.setEngine_pinView (g : Nat) (e : Engine) : (s.setEngine g e).pinView = s.pinView := rfl
theorem State.setCore_pinView (g : Nat) (c : Core) : (s.setCore g c).pinView = s.pinView := rfl
theorem State.setTu_pinView (g : Nat) (t : TokenUnit) : (s.setTu g t).pinView = s.pinView := rfl
theorem State.setCluster_pinView (c : Nat) (x : Cluster) : (s.setCluster c x).pinView = s.pinView := rfl
theorem State.setFlight_pinView (f : Nat) (x : Flight) : (s.setFlight f x).pinView = s.pinView := rfl
theorem State.setDomain_pinView (d : Nat) (x : Domain) : (s.setDomain d x).pinView = s.pinView := rfl
theorem State.setPort_pinView (p : Nat) (x : Port) : (s.setPort p x).pinView = s.pinView := rfl
theorem State.setObj_pinView (ix sub v : Nat) : (s.setObj ix sub v).pinView = s.pinView := rfl
theorem State.put_pinView (o : Output) : (s.put o).pinView = s.pinView := rfl
theorem State.raise_pinView (src code level d0 d1 : Nat) : (s.raise src code level d0 d1).pinView = s.pinView := rfl
theorem State.raiseFull_pinView (src code level d0 d1 : Nat) (injected during : Bool) :
    (s.raiseFull src code level d0 d1 injected during).pinView = s.pinView := rfl
theorem State.raiseFree_pinView (src level : Nat) : (s.raiseFree src level).pinView = s.pinView := rfl
theorem State.selfTestFault_pinView (d : Nat) : (s.selfTestFault d).pinView = s.pinView := rfl
theorem State.discard_pinView (src : Nat) : (s.discard src).pinView = s.pinView := rfl

theorem State.vector_pinView (v : Nat) : (s.vector v).pinView = s.pinView := by
  unfold State.vector; grind [State.pinView]

/-! ### Words read through their checks, and the token units -/

theorem State.bump_pinView (w ix sub : Nat) : (s.bump w ix sub).pinView = s.pinView := rfl
theorem State.bumpCorrection_pinView (k : Nat) : (s.bumpCorrection k).pinView = s.pinView := rfl
theorem State.stopUnit_pinView (g : Nat) : (s.stopUnit g).pinView = s.pinView := rfl
theorem State.writeLocal_pinView (g adr : Nat) (cover : BitVec 4) (w : Word) : (s.writeLocal g adr cover w).pinView = s.pinView := rfl
theorem State.writeEntry_pinView (g ix : Nat) (v : Word) (present mark : Bool) : (s.writeEntry g ix v present mark).pinView = s.pinView := rfl
theorem State.keepValues_pinView (g base : Nat) (l : List Word) : (s.keepValues g base l).pinView = s.pinView := rfl
theorem State.markHandled_pinView (g n e : Nat) : (s.markHandled g n e).pinView = s.pinView := rfl
theorem State.fanoutEvent_pinView (g code node j e : Nat) : (s.fanoutEvent g code node j e).pinView = s.pinView := rfl
theorem State.count_pinView (g sub n : Nat) : (s.count g sub n).1.pinView = s.pinView :=
  s.setObj_pinView _ _ _

theorem State.injectDone_pinView (delivered : Bool) : (s.injectDone delivered).pinView = s.pinView := by
  unfold State.injectDone; grind [State.pinView, State.setObj_pinView, State.bump_pinView]

theorem State.checkNonet_pinView (src chk k adr n : Nat) (g : BitVec 14) : (s.checkNonet src chk k adr n g).2.pinView = s.pinView := by
  unfold State.checkNonet
  grind [State.injectDone_pinView, State.bumpCorrection_pinView, State.raise_pinView, State.raiseFull_pinView]

theorem State.checkCell_pinView {w : Nat} (src chk k adr : Nat) (inside : BitVec 5) (cell : BitVec w) (n : Nat) :
    (s.checkCell src chk k adr inside cell n).2.pinView = s.pinView := by
  induction n with
  | zero => rfl
  | succ n ih => unfold State.checkCell; grind [State.checkNonet_pinView, State.raiseFull_pinView]

theorem State.readLocal_pinView (g adr : Nat) (inside : BitVec 5) : (s.readLocal g adr inside).2.pinView = s.pinView := by
  unfold State.readLocal; grind [State.checkCell_pinView, State.setEngine_pinView]

theorem State.engineRead_pinView (g adr : Nat) (inside : BitVec 5) : (s.engineRead g adr inside).2.pinView = s.pinView := by
  unfold State.engineRead; grind [State.readLocal_pinView, State.raiseFull_pinView]

theorem State.unitRead_pinView (g adr : Nat) : (s.unitRead g adr).2.pinView = s.pinView := by
  unfold State.unitRead; grind [State.engineRead_pinView, State.stopUnit_pinView]

theorem State.unitReads_pinView (g adr n : Nat) : (s.unitReads g adr n).2.pinView = s.pinView := by
  fun_induction State.unitReads s g adr n <;> grind [State.unitRead_pinView]

theorem State.writeLocals_pinView (g adr : Nat) (l : List Word) : (s.writeLocals g adr l).pinView = s.pinView := by
  induction l generalizing s adr with
  | nil => rfl
  | cons w l ih => exact (ih _ _).trans (s.writeLocal_pinView _ _ _ _)

theorem State.readEntry_pinView (g ix : Nat) : (s.readEntry g ix).2.pinView = s.pinView := by
  unfold State.readEntry
  grind [State.checkCell_pinView, State.setEngine_pinView, State.raiseFull_pinView, State.stopUnit_pinView]

theorem State.changeBits_pinView (g f base e k : Nat) : (s.changeBits g f base e k).2.pinView = s.pinView := by
  fun_induction State.changeBits s g f base e k <;> grind [State.readEntry_pinView]

theorem State.readDesc_pinView (g n : Nat) : (s.readDesc g n).2.pinView = s.pinView := by
  unfold State.readDesc; grind [State.unitReads_pinView]

theorem State.tick1_pinView (g sub : Nat) : (s.tick1 g sub).pinView = s.pinView := by
  unfold State.tick1; grind [State.count_pinView, State.vector_pinView]

theorem State.fillFirst_pinView (g f q n e : Nat) : (s.fillFirst g f q n e).pinView = s.pinView := by
  unfold State.fillFirst
  grind [State.readDesc_pinView, State.changeBits_pinView, State.writeLocals_pinView, State.unitReads_pinView]

theorem State.fillAgain_pinView (g q n e : Nat) : (s.fillAgain g q n e).pinView = s.pinView := by
  unfold State.fillAgain; grind [State.unitReads_pinView, State.writeLocals_pinView]

theorem State.enterQueue_pinView (g f q : Nat) (x : Waiting) : (s.enterQueue g f q x).pinView = s.pinView := by
  unfold State.enterQueue; grind [State.fillAgain_pinView, State.fillFirst_pinView, State.setTu_pinView]

theorem State.enqueue_pinView (g f : Nat) (x : Waiting) : (s.enqueue g f x).pinView = s.pinView := by
  unfold State.enqueue; grind [State.enterQueue_pinView, State.setTu_pinView]

theorem State.resolve_pinView (g f : Nat) (d : Desc) (e i : Nat) : (s.resolve g f d e i).2.pinView = s.pinView := by
  unfold State.resolve; grind [State.readEntry_pinView, State.unitRead_pinView]

theorem State.resolveAll_pinView (g f : Nat) (d : Desc) (e k : Nat) : (s.resolveAll g f d e k).2.pinView = s.pinView := by
  fun_induction State.resolveAll s g f d e k <;> grind [State.resolve_pinView]

theorem State.markSlot_pinView (g f n slot e : Nat) : (s.markSlot g f n slot e).2.pinView = s.pinView := by
  unfold State.markSlot; grind [State.readEntry_pinView, State.raise_pinView, State.writeEntry_pinView]

theorem State.quietWalk_pinView (g f : Nat) (d : Desc) (n e j m : Nat) : (s.quietWalk g f d n e j m).2.pinView = s.pinView := by
  fun_induction State.quietWalk s g f d n e j m <;>
    grind [State.unitReads_pinView, State.fanoutEvent_pinView, State.markSlot_pinView]

theorem State.evaluate_pinView (g f n : Nat) : (s.evaluate g f n).2.pinView = s.pinView := by
  unfold State.evaluate
  grind [State.readDesc_pinView, State.resolveAll_pinView, State.keepValues_pinView, State.enqueue_pinView, State.tick1_pinView,
    State.markHandled_pinView, State.quietWalk_pinView]

theorem State.evaluateAll_pinView (g f k : Nat) (l : List Nat) : (s.evaluateAll g f k l).pinView = s.pinView := by
  fun_induction State.evaluateAll s g f k l <;> grind [State.evaluate_pinView]

theorem State.sweep_pinView (g : Nat) : (s.sweep g).pinView = s.pinView := by
  unfold State.sweep; grind [State.evaluateAll_pinView]

/-! ### Flights halted at a lost edge -/

theorem State.sendUp_pinView (f : Nat) (m : Service) : (s.sendUp f m).pinView = s.pinView := by
  unfold State.sendUp; grind [State.put_pinView]

theorem State.sendDown_pinView (ports : BitVec 8) (m : Service) : (s.sendDown ports m).pinView = s.pinView :=
  foldl_pinView (fun s p => by grind [State.put_pinView]) _ s

theorem State.setCeilings_pinView (f c : Nat) : (s.setCeilings f c).pinView = s.pinView :=
  foldl_pinView (fun s g => s.setTu_pinView g _) _ s

theorem State.enterFlight_pinView (f : Nat) (st : FState) : (s.enterFlight f st).pinView = s.pinView := by
  unfold State.enterFlight; grind [State.pinView, State.setFlight_pinView, State.vector_pinView]

theorem State.agreeHalt_pinView (f h : Nat) : (s.agreeHalt f h).pinView = s.pinView := by
  refine (foldl_pinView (fun s g => s.sweep_pinView g) _ _).trans ?_
  grind [State.enterFlight_pinView, State.sendDown_pinView, State.setCeilings_pinView, State.setFlight_pinView]

theorem State.haltReplies_pinView (f : Nat) : (s.haltReplies f).pinView = s.pinView := by
  unfold State.haltReplies; grind [State.agreeHalt_pinView, State.sendUp_pinView, State.setFlight_pinView]

theorem State.halt_pinView (f hreq : Nat) : (s.halt f hreq).pinView = s.pinView := by
  unfold State.halt
  grind [State.haltReplies_pinView, State.setFlight_pinView, State.setCeilings_pinView, State.enterFlight_pinView]

theorem State.rootHalt_pinView (f : Nat) : (s.rootHalt f).pinView = s.pinView := by
  unfold State.rootHalt; grind [State.halt_pinView, State.sendDown_pinView]

theorem State.haltEdges_pinView (p : Nat) : (s.haltEdges p).pinView = s.pinView :=
  foldl_pinView (fun s f => by grind [State.setFlight_pinView, State.rootHalt_pinView, State.halt_pinView, State.sendUp_pinView]) _ s

/-! ### Packets and tokens lost with a port -/

theorem State.inject_pinView (k vc : Nat) (route : BitVec 42) (flits : List (BitVec 192)) : (s.inject k vc route flits).pinView = s.pinView := by
  unfold State.inject; grind [State.pinView, State.setCluster_pinView]

theorem State.sendPacket_pinView (k vc urgency entry : Nat) (src : Src) (head : BitVec 96) (data : List Word) :
    (s.sendPacket k vc urgency entry src head data).pinView = s.pinView := by
  unfold State.sendPacket; grind [State.discard_pinView, State.inject_pinView]

theorem State.sendToken_pinView (k vc urgency entry : Nat) (src : Src) (t : BitVec 96) :
    (s.sendToken k vc urgency entry src t).pinView = s.pinView := by
  unfold State.sendToken; grind [State.discard_pinView, State.inject_pinView, State.raise_pinView]

theorem State.answer_pinView (k : Nat) (p : Pkt) (status : Nat) (data : List Word) : (s.answer k p status data).pinView = s.pinView := by
  unfold State.answer State.respond; grind [State.setEngine_pinView, State.sendPacket_pinView]

theorem State.lostFlit_pinView (p v : Nat) (x : NFlit) : (s.lostFlit p v x).pinView = s.pinView := by
  unfold State.lostFlit; grind [State.pinView, State.answer_pinView, State.discard_pinView, State.sendToken_pinView]

theorem State.emptyStaging_pinView (p : Nat) : (s.emptyStaging p).pinView = s.pinView :=
  foldl_pinView (fun s _ => s.lostFlit_pinView _ _ _) _ _

/-! ### Ports -/

theorem State.becomeMaster_pinView : s.becomeMaster.pinView = s.pinView := rfl
theorem State.followPort_pinView (p : Nat) (a : Nat × Nat × Nat × Bool) : (s.followPort p a).pinView = s.pinView := rfl

theorem State.holdTime_pinView : s.holdTime.pinView = s.pinView := by
  unfold State.holdTime; grind [State.pinView]

theorem State.selectSource_pinView : s.selectSource.pinView = s.pinView := by
  unfold State.selectSource; grind [State.becomeMaster_pinView, State.followPort_pinView, State.holdTime_pinView]

theorem State.dropAnnounce_pinView (p : Nat) : (s.dropAnnounce p).pinView = s.pinView := State.selectSource_pinView _

theorem State.idlePort_pinView (p : Nat) : (s.idlePort p).pinView = s.pinView := by
  unfold State.idlePort; grind [State.put_pinView, State.setPort_pinView, State.dropAnnounce_pinView]

theorem State.loseEdges_pinView (p : Nat) (halts : Bool) : (s.loseEdges p halts).pinView = s.pinView := by
  unfold State.loseEdges
  grind [State.setPort_pinView, State.haltEdges_pinView, State.emptyStaging_pinView, State.dropAnnounce_pinView]

theorem State.containPort_pinView (p : Nat) : (s.containPort p).pinView = s.pinView := by
  unfold State.containPort; grind [State.idlePort_pinView, State.setPort_pinView, State.loseEdges_pinView]

theorem State.startPort_pinView (p : Nat) : (s.startPort p).pinView = s.pinView := by
  unfold State.startPort State.enterDetect; grind [State.setPort_pinView, State.put_pinView]

/-! ### The host interface, the trace unit, firmware and the logbook -/

theorem State.runSlot_pinView (k : Nat) : (s.runSlot k).pinView = s.pinView := rfl
theorem State.enterBootMode_pinView : s.enterBootMode.pinView = s.pinView := rfl
theorem State.scanLogbook_pinView : s.scanLogbook.pinView = s.pinView := rfl
theorem State.trainHost_pinView : s.trainHost.pinView = s.pinView := rfl

theorem State.hostDown_pinView : s.hostDown.pinView = s.pinView := by
  unfold State.hostDown State.resetHost State.pathLost State.endTxn
  grind [State.pinView, State.trainHost_pinView, State.vector_pinView]

theorem State.disarmCapture_pinView : s.disarmCapture.pinView = s.pinView := by
  unfold State.disarmCapture State.enterCapture; grind [State.pinView, State.setObj_pinView, State.vector_pinView]

end

/-! ### Start-up: the device state moves, and is never OFF again -/

/-- The part runs with this PORST_N, TAP and straps: its device state is not OFF. -/
def Runs (b : Bool) (t : Tap) (st : Straps) (s : State) : Prop := ∃ d, d ≠ .off ∧ s.pinView = ⟨b, t, st, d⟩

section
variable {b : Bool} {t : Tap} {st : Straps} {s : State}

theorem Runs.of_pinView {v : State} (h : Runs b t st s) (e : v.pinView = s.pinView) : Runs b t st v := by
  rwa [Runs, e]

theorem Runs.foldl {α : Type} {f : State → α → State} (hf : ∀ s a, Runs b t st s → Runs b t st (f s a)) (l : List α) (h : Runs b t st s) :
    Runs b t st (l.foldl f s) := by
  induction l generalizing s with
  | nil => exact h
  | cons a l ih => exact ih (hf s a h)

theorem State.enterDev_pinView (s : State) (d : DevState) : (s.enterDev d).pinView = { s.pinView with dev := d } := by
  unfold State.enterDev
  split
  case isTrue h => subst h; rfl
  case isFalse => exact State.vector_pinView _ _

theorem Runs.enterDev {d : DevState} (hd : d ≠ .off) (h : Runs b t st s) : Runs b t st (s.enterDev d) := by
  obtain ⟨e, -, he⟩ := h
  exact ⟨d, hd, by rw [State.enterDev_pinView, he]⟩

theorem Runs.goLive (h : Runs b t st s) : Runs b t st s.goLive := by
  unfold State.goLive
  split
  · exact Runs.enterDev (by split <;> decide) (h.of_pinView rfl)
  · exact h

theorem Runs.awaitLock (h : Runs b t st s) : Runs b t st s.awaitLock := by
  unfold State.awaitLock
  have selected : Runs b t st ({ s with startStep := 9 }).selectSource := Runs.of_pinView h (State.selectSource_pinView _)
  split
  · dsimp only
    split
    · exact selected.goLive
    · exact selected
  · exact h

theorem Runs.checkPorts (h : Runs b t st s) : Runs b t st s.checkPorts := by
  unfold State.checkPorts
  split
  · exact h.awaitLock
  · exact h

theorem Runs.startPorts (h : Runs b t st s) : Runs b t st ((List.range 8).foldl (fun s p => s.startPort p) s) :=
  h.of_pinView (foldl_pinView State.startPort_pinView _ s)

theorem Runs.enterConfig (h : Runs b t st s) : Runs b t st s.enterConfig := by
  unfold State.enterConfig
  extract_lets s1 s2
  have stepped : Runs b t st { s with startStep := 7 } := h.of_pinView rfl
  have h1 : Runs b t st s1 := (stepped.enterDev (by decide)).of_pinView (State.put_pinView _ _)
  have h2 : Runs b t st s2 := h1.of_pinView rfl
  split
  · exact h1
  · exact h2.startPorts.checkPorts

theorem Runs.bootLogbook (h : Runs b t st s) : Runs b t st s.bootLogbook := by
  have run (v : State) (k : Nat) (e : v.pinView = s.pinView) : Runs b t st (v.runSlot k).enterConfig :=
    Runs.enterConfig (h.of_pinView ((v.runSlot_pinView k).trans e))
  have failed : (s.raiseFree (srcId 25 4) 2).pinView = s.pinView := s.raiseFree_pinView _ _
  unfold State.bootLogbook
  split
  · exact run s _ rfl
  · dsimp only
    split
    · exact run _ _ failed
    · exact h.of_pinView ((State.enterBootMode_pinView _).trans ((State.raiseFree_pinView _ _ _).trans failed))

theorem Runs.boot (h : Runs b t st s) : Runs b t st s.boot := by
  unfold State.boot
  split
  · exact h.of_pinView s.enterBootMode_pinView
  · exact Runs.startPorts (h.of_pinView rfl)
  · exact h.bootLogbook

theorem Runs.managementStart (h : Runs b t st s) : Runs b t st s.managementStart := by
  unfold State.managementStart
  extract_lets s1 c1 s2 s3 s4 s5
  have h3 : Runs b t st s3 := Runs.of_pinView h (foldl_pinView (fun s x => s.setCore_pinView _ _) _ s2)
  have h4 : Runs b t st s4 := h3.of_pinView (by grind [State.raiseFree_pinView])
  exact Runs.boot (h4.of_pinView ((State.scanLogbook_pinView _).trans (State.setObj_pinView _ _ _ _)))

theorem Runs.containDomain (d : Nat) (h : Runs b t st s) : Runs b t st (s.containDomain d) := by
  unfold State.containDomain
  extract_lets x s1 s2 s3
  have h2 : s2.pinView = s.pinView := (foldl_pinView State.containPort_pinView _ s1).trans (s.setDomain_pinView _ _)
  have h3 : s3.pinView = s.pinView := by grind [State.hostDown_pinView, State.disarmCapture_pinView]
  split
  · exact h
  · split
    · exact Runs.enterDev (by decide) (h.of_pinView h3)
    · exact h.of_pinView h3

theorem Runs.selfTest (tests : SelfTest) (h : Runs b t st s) : Runs b t st (s.selfTest tests) := by
  unfold State.selfTest
  extract_lets s1 s2 s3
  have h1 : Runs b t st s1 := Runs.enterDev (by decide) (h.of_pinView rfl)
  have h2 : Runs b t st s2 := h1.foldl (fun s d w => (w.containDomain d.toNat).of_pinView (State.selfTestFault_pinView _ _)) _
  have h3 : Runs b t st s3 := h2.of_pinView (foldl_pinView (fun s d => s.raiseFree_pinView _ _) _ s2)
  split
  · exact h3.of_pinView (State.raise_pinView _ _ _ _ _ _)
  · exact h3

theorem State.strapEvents_pinView (s : State) : s.strapEvents.pinView = s.pinView := by
  unfold State.strapEvents; grind [State.raiseFree_pinView]

/-- Start-up, from whatever state, lets PORST_N rise, samples the straps, leaves the TAP as it was and the device out of OFF (R348 to R352). -/
theorem State.startUp_runs (s : State) (straps : Straps) (tests : SelfTest) : Runs false s.tap straps (s.startUp straps tests) := by
  unfold State.startUp
  extract_lets s1 s2 s3
  have h2 : Runs false s.tap straps s2 := ⟨.reset, by decide, (State.strapEvents_pinView _).trans (State.enterDev_pinView _ _)⟩
  have h3 : Runs false s.tap straps s3 := Runs.enterDev (by decide) (h2.of_pinView rfl)
  split
  · exact h2
  · exact ((h3.of_pinView s3.trainHost_pinView).selfTest tests).managementStart

end

/-! ### The TAP -/

theorem Tap.release_eq (t : Tap) : t.release = if controls t.instr = true then { t with instr := .bypass } else t := by
  rcases t with ⟨i, _, _⟩
  cases i <;> rfl

theorem State.loadControl_of_porst {s : State} (h : s.porst = true) (i : TapInstr) (cells : List Bool) :
    s.loadControl i cells = { s with tap := { s.tap with instr := i, cells := cells } } := if_pos h

theorem State.loadControl_of_not_porst {s : State} (h : s.porst = false) (i : TapInstr) (cells : List Bool) :
    s.loadControl i cells = { s with tap := { s.tap with instr := .bypass } } := if_neg (by simp [h])

/-- Settles O57: the five commands that would take control of the pins share one load, the other TAP commands are updates of the TAP,
and start-up leaves the TAP as PORST_N's rise released it. -/
theorem boundaryScan : Obligations.BoundaryScan := by
  intro cells pins s taps rows
  refine ⟨?control, rfl, rfl, rfl, rfl, fun hoff _ straps tests => ?rise⟩
  case control =>
    have loads : ∀ r ∈ rows, exec r.1 s = .next (s.loadControl r.2.1 r.2.2) := by
      simp only [rows, List.forall_mem_cons]
      exact ⟨rfl, rfl, rfl, rfl, rfl, by simp⟩
    exact fun r hr => ⟨fun h => (loads r hr).trans (congrArg _ (State.loadControl_of_porst h _ _)),
      fun h => (loads r hr).trans (congrArg _ (State.loadControl_of_not_porst h _ _))⟩
  case rise =>
    have hexec : exec (.porstNRise straps tests) s = .next (({ s with tap := s.tap.release }).startUp straps tests) :=
      congrArg Host.Outcome.next (if_pos hoff)
    obtain ⟨d, hd, hv⟩ := State.startUp_runs { s with tap := s.tap.release } straps tests
    obtain ⟨hporst, htap, hstraps, hdev⟩ := PinView.mk.inj hv
    exact ⟨_, hexec, hporst, htap.trans s.tap.release_eq, hstraps, hdev ▸ hd⟩

end Sys2Proof.Machine
